-- ==== Sys2Proof/Word.lean ====
section
/-! DEFINITION. The plainest types of the model: bytes, the hub's numbered partners, its ports, and
fixed-size tables of like things. Everything a test could show wrong stands under Machine/. -/

namespace Sys2Proof

/-- One byte of a frame (R174). -/
abbrev Byte := BitVec 8

/-- One 32-bit key word (R158). -/
abbrev Word32 := BitVec 32

/-- Station number less one: stations are numbered 1 to 12 (00_scope, Names). -/
abbrev StationNo := Fin 12

/-- Clerk number less one: clerks are numbered 1 to 32 (R62). -/
abbrev ClerkNo := Fin 32

/-- Department number less one: departments are numbered 1 to 16 (R27). -/
abbrev DeptNo := Fin 16

/-- Leaf number, 0 to 63 (R25). -/
abbrev LeafNo := Fin 64

/-- The fifteen links of the hub (R173): S1 to S12, B, V and Q. -/
inductive Port where
  | s (n : StationNo)
  | b
  | v
  | q
  deriving DecidableEq, Repr

/-- Place of a port among the fifteen: S1 to S12, then B, V, Q (R173). -/
def Port.index : Port → Fin 15
  | .s n => ⟨n.val, by omega⟩
  | .b => 12
  | .v => 13
  | .q => 14

/-- A fixed number of like things, one for each station, clerk, department, port or leaf. -/
abbrev Table (n : Nat) (α : Type) := Vector α n

namespace Table
variable {n : Nat} {α : Type}

/-- The entry of a table at a place. -/
def get (t : Table n α) (i : Fin n) : α := t[i.val]

/-- The table with one entry replaced. -/
def put (t : Table n α) (i : Fin n) (x : α) : Table n α := t.set i.val x i.isLt

/-- The table whose every entry is the same. -/
def fill (n : Nat) (x : α) : Table n α := Vector.replicate n x

/-- The table with a function applied to every entry. -/
def each (t : Table n α) (f : α → α) : Table n α := Vector.ofFn fun i => f (t.get i)

/-- The entries in ascending number. -/
def rows (t : Table n α) : List α := (List.finRange n).map t.get

end Table

/-- A timer on elapsed time: stopped, or running since it was last started with that many
milliseconds to run (R91, R148, R151, R154, R158, R175). No command passes elapsed time: a timer's
running out is a command of its own, so the figure held is the one the timer was last started with. -/
abbrev Timer := Option Nat

end Sys2Proof
end

