-- ==== Sys2Proof/Syntax.lean ====
section
/-! DEFINITION. The hub's commands: one constructor per row of spec/opcode_table.json, in the
table's order. A command is one indivisible step of the part (95_what_each_step_holds.md). -/

namespace Sys2Proof

/-- One command. An event of a line, a link or a timer carries what the event brings. A row that is a
request carries no field of its own: it is the event at which the owning block TAKES the oldest request
of a port's FIFO (R177), and the request's fields are the payload held in that FIFO place. -/
inductive Instr where
  -- lines and power (R139, R146, R147)
  | resetAssert
  | resetRelease
  | loadHoldRelease
  -- links (R175, R176, R178); frameArrival: kind, tag, payload and check of a whole frame
  | frameArrival (p : Port) (kind tag : Byte) (payload : List Byte) (check : BitVec 16)
  | gapLimitExpiry (p : Port)
  | frameSent (p : Port)
  -- reports of station n (R9, R99, R100, R155)
  | sample (n : StationNo) (count : Int)
  | printDone (n : StationNo) (label : Nat)
  | printFail (n : StationNo) (label : Nat)
  | linkReset (n : StationNo)
  -- timers and the clock (R101, R154, R151, R148, R59, R161, R171)
  | printDeadlineExpiry (n : StationNo)
  | silenceExpiry (n : StationNo)
  | beatExpiry
  | clockTick
  | batchActivation
  | sequenceTimerExpiry
  | inactivityExpiry
  -- station requests, taken from the FIFO of link Sn
  | enrol (n : StationNo)
  | zero (n : StationNo)
  | tareKey (n : StationNo)
  | tareSet (n : StationNo)
  | tareClear (n : StationNo)
  | clerkOn (n : StationNo)
  | clerkOff (n : StationNo)
  | quote (n : StationNo)
  | label (n : StationNo)
  | addItem (n : StationNo)
  | voidItem (n : StationNo)
  | parkOrder (n : StationNo)
  | claimOrder (n : StationNo)
  | closeOrder (n : StationNo)
  | reprint (n : StationNo)
  | callNext (n : StationNo)
  | recall (n : StationNo)
  | recallMissed (n : StationNo)
  -- back-office requests, taken from B's FIFO
  | pluWrite
  | pluRead
  | pluRemove
  | pluWipe
  | batchAdd
  | batchCommit
  | batchClear
  | batchStatus
  | openCounter
  | closeCounter
  | timeSet
  | settingsWrite
  | settingsRead
  | clerkWrite
  | clerkRead
  | profileWrite
  -- STATUS READ, taken from B's or V's FIFO (R157)
  | statusRead (p : Port)
  | totalsRead
  | zClose
  | reportRead
  | reportRelease
  | noticeTake
  | noticeEnable
  | noticeDisable
  | flagsRead
  | flagsClear
  -- service requests, taken from V's FIFO
  | serviceOpen
  | serviceKey
  | calRead
  | calWrite
  | captureZero
  | captureSpan
  | keyChange
  | serviceClose
  | serviceAbandon
  -- queue-unit requests, taken from Q's FIFO
  | take
  | rollLoaded
  -- one character at a port's receive hunter (R175)
  | characterReceived (p : Port) (b : Byte)
  -- LOAD_HOLD driven high, and the battery failing while the supply is off (R139, R146)
  | loadHoldAssert
  | batteryFailure
  deriving DecidableEq, Repr

end Sys2Proof
end

