-- ==== Sys2Proof/Decode.lean ====
section
/-! DEFINITION. Commands from words. spec/opcode_table.json gives no row any bits: the FK1200 has no
register window, and its commands are events and framed requests (00_scope). The frame and payload
encodings of R174 and R179 to R183 stand in Machine/Operands.lean and Machine/Links.lean. -/

namespace Sys2Proof

/-- The command that a word spells by the table's bits: no row of the table has bits, so none. -/
def decodeTableWord (_nbits _w : Nat) : Option Instr := none

end Sys2Proof
end

