-- ==== Sys2Proof/Config.lean ====
section
/-! DEFINITION. What the manual fixes for every FK1200 (capacities, limits, periods), each beside the
rule that gives it, and the one value the manual leaves open. -/

namespace Sys2Proof.Config

/-- Places of a port's request FIFO (R173, R176). -/
def fifoPlaces : Nat := 4
/-- Frames the reply lane holds (R178). -/
def replyLaneFrames : Nat := 8
/-- DISPLAY pushes the label and display lane of port Q holds (R178). -/
def displayLaneFrames : Nat := 16
/-- Greatest payload length of a frame (R174). -/
def maxPayload : Nat := 240
/-- Records the notice queue holds (R184). -/
def noticeQueueRecords : Nat := 32
/-- Slots of the item pool (R68). -/
def poolSlots : Nat := 512
/-- Items an order holds at most (R68). -/
def itemsPerOrder : Nat := 40
/-- The next item number at which an order takes no more items (R68). -/
def itemNumbersEnd : Nat := 256
/-- Greatest order number (R67). -/
def lastOrderNumber : Nat := 9999
/-- Greatest order total in units (R50, R67). -/
def orderTotalLimit : Nat := 9999999
/-- Greatest price of one item in units (R47). -/
def itemPriceLimit : Nat := 999999
/-- Greatest label number (R88). -/
def lastLabelNumber : Nat := 999999
/-- Greatest PLU number (R25). -/
def lastPlu : Nat := 99999
/-- Entries the staged batch holds (R54). -/
def batchPlaces : Nat := 64
/-- Greatest delay of a BATCH COMMIT in minutes (R55). -/
def maxBatchDelay : Nat := 1439
/-- Price generation at which it can step no more (R53). -/
def lastGeneration : Nat := 4294967295
/-- Audit counter at which no change can be committed (R170). -/
def lastAudit : Nat := 4294967295
/-- Entries the missed list holds (R107). -/
def missedPlaces : Nat := 8
/-- Greatest ticket number (R107). -/
def lastTicket : Nat := 99
/-- Greatest Z number (R124). -/
def lastZ : Nat := 9999
/-- Modulus of the counts of a period record (R125). -/
def countModulus : Nat := 4294967296
/-- Modulus of the values of a period record and of GT (R125). -/
def valueModulus : Nat := 1000000000000
/-- Entries of a full stability window (R7). -/
def windowEntries : Nat := 6
/-- The key sequence's sync word (R160). -/
def syncWord : Nat := 0xC35A
/-- Failures that lock the console out (R162). -/
def lockoutFailures : Nat := 3
/-- Greatest wait counted for a ticket, in seconds (R115). -/
def waitLimit : Nat := 65535

/-- Gap limit between the bytes of a frame, ms (R175). -/
def gapMs : Nat := 5
/-- Station silence limit, ms (R154). -/
def silenceMs : Nat := 2000
/-- Beat period, ms (R151). -/
def beatMs : Nat := 1000
/-- Print completion limit, ms (R91). -/
def printMs : Nat := 10000
/-- Key-sequence limit, ms (R160). -/
def sequenceMs : Nat := 30000
/-- Service inactivity limit, ms (R163). -/
def inactivityMs : Nat := 900000

/-- FREE VALUE (log entry 1). The kind code of the BAD_REQUEST reply to a frame whose unknown kind code
is 0x80 or above: R177 gives the request's code plus 0x80, which no byte holds. Nothing constrains it. -/
opaque replyKindPastByte : Byte → Byte

end Sys2Proof.Config
end

