-- ==== Sys2Proof/Machine/State.lean ====
section
/-! DEFINITION. The hub's state, block by block as 00_scope's block overview gives the ownership, as
plain data; the reasons a step can stop; the values of a formatted store; the machine after reset. -/

namespace Sys2Proof.Machine

/-! ## Result codes -/

/-- The result codes, in the order R180 numbers them (0 to 52). -/
inductive ResultCode where
  | ok | full | badRequest | notPermitted | badValue
  | refusedState | refusedMode | busy | stationBusy | orderBusy
  | noStation | notStable | outOfRange | tareActive | tareLimit
  | belowMin | noCal | noZero | overload | underload
  | noPlu | pluRetired | exists | tableFull | stalePrice
  | priceOverflow | priceZero | totalLimit | noClerk | clerkCode
  | noOrder | notHolder | heldElsewhere | orderFull | poolFull
  | noItem | noPrinter | printerBusy | noLabel | queueClosed
  | queueEmpty | rollEmpty | dispenserBlocked | notServing | notMissed
  | batchFull | batchArmed | batchEmpty | reportPending | lockedOut
  | inService | noSamples | badCal
  deriving DecidableEq, Repr

/-! ## Dates and times (00_scope, Time and dates) -/

/-- A date of the Gregorian calendar, 2000-01-01 to 2099-12-31. -/
structure Date where
  year : Nat
  month : Nat
  day : Nat
  deriving DecidableEq, Repr

/-- A date and a time of day taken together. -/
structure DateTime where
  date : Date
  hour : Nat
  minute : Nat
  second : Nat
  deriving DecidableEq, Repr

/-- A start or end time in hh:mm (R41). -/
structure HourMinute where
  hour : Nat
  minute : Nat
  deriving DecidableEq, Repr

/-! ## Weighing engine (R1, R2) -/

/-- The seven numeric fields of a calibration record (R1, R158). -/
structure CalFields where
  z : Int
  s : Nat
  l : Nat
  max1 : Nat
  e1 : Nat
  max2 : Nat
  e2 : Nat
  deriving DecidableEq, Repr

/-- A calibration record: SET or UNSET, and the seven fields (R158). -/
structure CalRecord where
  isSet : Bool
  fields : CalFields
  deriving DecidableEq, Repr

/-- Weighing state of a context (R2). -/
inductive WeighState where
  | noCal | noZero | weighing | overload | underload
  deriving DecidableEq, Repr

/-- Origin of a station tare (R2). -/
inductive TareOrigin where
  | key | numeric
  deriving DecidableEq, Repr

/-- The station tare: its value in mg, and its origin (R2). -/
structure StationTare where
  mg : Nat
  origin : TareOrigin
  deriving DecidableEq, Repr

/-- One entry of the stability window: a raw count, and a gross value where one was computed (R2). -/
structure WindowEntry where
  raw : Int
  gross : Option Int
  deriving DecidableEq, Repr

/-- The newest result: m, gross_mg and net_mg of the newest sample (R2). -/
structure Reading where
  m : Int
  gross : Int
  net : Int
  deriving DecidableEq, Repr

/-- A station's weighing context (R2); the window is oldest first. -/
structure WeighContext where
  state : WeighState
  window : List WindowEntry
  initialZero : Option Int
  zero : Option Int
  zeroLimit : Bool
  tare : Option StationTare
  tareUsed : Bool
  newest : Option Reading
  deriving DecidableEq, Repr

/-! ## PLU table (R25 to R28) -/

/-- Unit price per kilogram or per piece (R27). -/
inductive ProductKind where
  | byWeight | byCount
  deriving DecidableEq, Repr

/-- What the value field of the item code holds: PRICE, WEIGHT or NONE (R27). -/
inductive CodeKind where
  | price | weight | nothing
  deriving DecidableEq, Repr

/-- State of a PLU record (R27). -/
inductive PluState where
  | active | retired
  deriving DecidableEq, Repr

/-- The selling fields of a PLU record (R27). The description holds character codes. -/
structure PluFields where
  number : Nat
  kind : ProductKind
  description : List Byte
  unitPrice : Nat
  markdown : Nat
  presetTare : Nat
  shelfDays : Nat
  codeKind : CodeKind
  department : DeptNo
  deriving DecidableEq, Repr

/-- The period totals of a PLU record (R28). -/
structure PluTotals where
  items : Nat
  quantity : Nat
  weight : Nat
  value : Nat
  deriving DecidableEq, Repr

/-- A PLU record (R27). -/
structure PluRecord where
  fields : PluFields
  state : PluState
  changedGen : Nat
  totals : PluTotals
  deriving DecidableEq, Repr

/-- A leaf: 32 record slots, each empty or filled (R25). -/
abbrev Leaf := Table 32 (Option PluRecord)

/-- The PLU table: the directory and the pool of 64 leaves (R25, R26). The directory lists its
entries that name a leaf, by rising index; an index of 0 to 3,124 it does not list is absent. A leaf of
the pool is free (none) or allocated; its occupancy count is the number of its filled slots. -/
structure PluTable where
  directory : List (Nat × LeafNo)
  pool : Table 64 (Option Leaf)
  deriving DecidableEq, Repr

/-! ## Pricing unit (R41) -/

/-- Price rounding mode (R41, R46). -/
inductive Rounding where
  | nearest | down | up
  deriving DecidableEq, Repr

/-- The counter price settings (R41). -/
structure PriceSettings where
  rounding : Rounding
  step : Nat
  windowStart : HourMinute
  windowEnd : HourMinute
  itemPrefix : Nat
  orderPrefix : Nat
  deriving DecidableEq, Repr

/-- State of the staged batch (R41). -/
inductive BatchState where
  | empty | filling | armed
  deriving DecidableEq, Repr

/-- One entry of the staged batch (R54). -/
inductive BatchEntry where
  | change (plu unitPrice markdown : Nat) (description : Option (List Byte))
  | new (fields : PluFields)
  | retire (plu : Nat)
  deriving DecidableEq, Repr

/-- The result record of an activation; `firstSkipped` is the first skipped PLU and its reason (R41, R59). -/
structure BatchResult where
  applied : Nat
  skipped : Nat
  firstSkipped : Option (Nat × ResultCode)
  deriving DecidableEq, Repr

/-- What the pricing unit holds (R41); the entries are oldest first. -/
structure PricingUnit where
  generation : Nat
  settings : PriceSettings
  batch : BatchState
  entries : List BatchEntry
  instant : Option DateTime
  result : Option BatchResult
  deriving DecidableEq, Repr

/-! ## Order manager (R62, R67 to R70) -/

/-- A clerk entry (R62). Its number is its place in the table, and its open order is the clerk's entry
of the table of open orders. -/
structure ClerkEntry where
  code : Nat
  enabled : Bool
  bound : Option StationNo
  deriving DecidableEq, Repr

/-- State of an item (R69). -/
inductive ItemState where
  | pending | confirmed | voided
  deriving DecidableEq, Repr

/-- An item record (R69); `amount` is the net in g (BY_WEIGHT) or the quantity (BY_COUNT). -/
structure Item where
  number : Nat
  plu : Nat
  kind : ProductKind
  amount : Nat
  tare : Nat
  unitPrice : Nat
  markdown : Nat
  price : Nat
  generation : Nat
  station : StationNo
  label : Option Nat
  time : DateTime
  state : ItemState
  deriving DecidableEq, Repr

/-- State of an open order (R67): OPEN or CLOSING. -/
inductive OrderState where
  | opened | closing
  deriving DecidableEq, Repr

/-- An open order (R67). Its clerk is its place in the table of open orders. -/
structure Order where
  number : Nat
  holder : Option StationNo
  state : OrderState
  revision : Nat
  openedAt : DateTime
  queueNumber : Option Nat
  items : List Item
  nextItem : Nat
  deriving DecidableEq, Repr

/-- What the order manager holds (R62, R67, R68, R70). Each clerk has at most one open order, so the
open orders stand by clerk; the slots of the item pool in use are the items the open orders hold. -/
structure OrderManager where
  clerks : Table 32 ClerkEntry
  orders : Table 32 (Option Order)
  lastOrderNumber : Nat
  deriving DecidableEq, Repr

/-! ## Label composer (R88, R92, R96) -/

/-- Kind of a label in a print slot (R88). -/
inductive LabelKind where
  | item | total | reprint
  deriving DecidableEq, Repr

/-- The fields only an ITEM label has (R92). -/
structure ItemLabel where
  itemNumber : Nat
  plu : Nat
  description : List Byte
  kind : ProductKind
  amount : Nat
  tare : Nat
  unitPrice : Nat
  markdown : Bool
  price : Nat
  sellBy : Option Date
  deriving DecidableEq, Repr

/-- One item line of a TOTAL label (R96). -/
structure LabelLine where
  itemNumber : Nat
  plu : Nat
  kind : ProductKind
  amount : Nat
  price : Nat
  station : StationNo
  label : Option Nat
  voided : Bool
  deriving DecidableEq, Repr

/-- The fields only a TOTAL label has (R96). -/
structure TotalLabel where
  queueNumber : Option Nat
  lines : List LabelLine
  itemCount : Nat
  voidedCount : Nat
  total : Nat
  zNumber : Nat
  deriving DecidableEq, Repr

/-- The part of a label record that its original kind decides. -/
inductive LabelBody where
  | item (b : ItemLabel)
  | total (b : TotalLabel)
  deriving DecidableEq, Repr

/-- A label record (R92, R96, R104). The code holds the values of its 13 digits; CODE_OMITTED is set exactly
when it is absent (R93, R97). `original` is the original label number, equal to the number but on a REPRINT. -/
structure LabelRecord where
  kind : LabelKind
  station : StationNo
  number : Nat
  original : Nat
  order : Nat
  clerk : ClerkNo
  time : DateTime
  code : Option (List Nat)
  duplicate : Bool
  width : Nat
  body : LabelBody
  deriving DecidableEq, Repr

/-- A BUSY print slot: its label record and its deadline, stopped until the push has been sent (R88, R91). -/
structure PrintSlot where
  record : LabelRecord
  deadline : Timer
  deriving DecidableEq, Repr

/-- What the label composer holds for a station (R88); no slot is FREE. -/
structure LabelStation where
  slot : Option PrintSlot
  nextNumber : Nat
  last : Option LabelRecord
  deriving DecidableEq, Repr

/-! ## Queue unit controller (R107) -/

/-- A waiting ticket (R107). -/
structure Ticket where
  number : Nat
  issued : DateTime
  deriving DecidableEq, Repr

/-- A clerk's serving record (R107). -/
structure Serving where
  number : Nat
  issued : DateTime
  called : DateTime
  hadGoods : Bool
  deriving DecidableEq, Repr

/-- An entry of the missed list (R107). -/
structure Missed where
  number : Nat
  issued : DateTime
  called : DateTime
  deriving DecidableEq, Repr

/-- What the queue unit controller holds (R107): the waiting queue oldest first, the missed list
newest first. -/
structure QueueUnit where
  nextNumber : Nat
  roll : Nat
  waiting : List Ticket
  serving : Table 32 (Option Serving)
  missed : List Missed
  blocked : Bool
  rollLength : Nat
  rollLow : Nat
  queueLong : Nat
  deriving DecidableEq, Repr

/-! ## Totals store (R124, R125, R133) -/

/-- The counter's period record (R125). -/
structure CounterTotals where
  orders : Nat
  items : Nat
  value : Nat
  voidedCount : Nat
  voidedValue : Nat
  emptyOrders : Nat
  queueCalls : Nat
  waitSum : Nat
  ordersLost : Nat
  deriving DecidableEq, Repr

/-- A clerk's period record (R125). -/
structure ClerkTotals where
  orders : Nat
  items : Nat
  value : Nat
  voidedCount : Nat
  voidedValue : Nat
  deriving DecidableEq, Repr

/-- A station's period record (R125). -/
structure StationTotals where
  value : Nat
  labels : Nat
  reprints : Nat
  deriving DecidableEq, Repr

/-- A department's period record (R125). -/
structure DeptTotals where
  items : Nat
  value : Nat
  deriving DecidableEq, Repr

/-- One record of the report buffer (R133). -/
inductive ReportRecord where
  | header (z : Nat) (start : Option DateTime) (closed : DateTime) (gt gtLast n : Nat)
  | counter (r : CounterTotals)
  | clerk (r : ClerkTotals)
  | station (r : StationTotals)
  | department (r : DeptTotals)
  | plu (number : Nat) (description : List Byte) (kind : ProductKind) (dept : DeptNo) (state : PluState)
      (totals : PluTotals)
  deriving DecidableEq, Repr

/-- A FULL report buffer: the Z number of the report and its records, the first at index 1 (R133). -/
structure Report where
  z : Nat
  records : List ReportRecord
  deriving DecidableEq, Repr

/-- What the totals store holds (R124); no report is EMPTY. -/
structure TotalsStore where
  counter : CounterTotals
  clerks : Table 32 ClerkTotals
  stations : Table 12 StationTotals
  departments : Table 16 DeptTotals
  gt : Nat
  gtLast : Nat
  z : Nat
  periodStart : Option DateTime
  openOrders : Nat
  report : Option Report
  deriving DecidableEq, Repr

/-! ## Counter controller (R138, R145, R148, R151, R152) -/

/-- The counter state (R138). -/
inductive CounterState where
  | loading | closed | opened | draining
  deriving DecidableEq, Repr

/-- Link state of a station (R152). -/
inductive LinkState where
  | absent | enrolled | service
  deriving DecidableEq, Repr

/-- The station record an ENROL carries (R152). -/
structure StationRecord where
  printer : Bool
  width : Nat
  digits : Nat
  deriving DecidableEq, Repr

/-- A roster entry (R152). -/
structure RosterEntry where
  link : LinkState
  record : Option StationRecord
  silence : Timer
  deriving DecidableEq, Repr

/-- What the counter controller holds (R138, R148, R151, R152), but for the validity marker. -/
structure CounterController where
  state : CounterState
  clock : DateTime
  lastDate : Date
  beat : Timer
  roster : Table 12 RosterEntry
  deriving DecidableEq, Repr

/-! ## Metrology lock (R145, R158) -/

/-- Label mode of a station profile (R145). -/
inductive LabelMode where
  | labelEach | totalOnly
  deriving DecidableEq, Repr

/-- A station profile (R145). -/
structure Profile where
  mode : LabelMode
  autoClear : Bool
  deriving DecidableEq, Repr

/-- The service session (R158). The key index of SYNCED is one more than the words received. -/
inductive Session where
  | idle
  | synced (station : StationNo) (words : List Word32)
  | opened (station : StationNo) (staged : CalFields) (stagedKey : Option (List Word32))
  | lockedOut
  deriving DecidableEq, Repr

/-- What the metrology lock holds (R158). The service key holds four words. -/
structure MetrologyLock where
  records : Table 12 CalRecord
  profiles : Table 12 Profile
  key : List Word32
  audit : Nat
  failures : Nat
  session : Session
  sequence : Timer
  inactivity : Timer
  deriving DecidableEq, Repr

/-! ## Notice unit (R184, R185) -/

/-- The notice classes, in the order R184 numbers them (1 to 14). -/
inductive NoticeClass where
  | stationLost | printFailed | batchApplied | batchSkipped | rollLow | rollEmpty | dispenserBlocked
  | queueLong | serviceKeyFailed | calibrationChanged | ordersLost | timeStepped | reportReady | counterState
  deriving DecidableEq, Repr

/-- Why a label ended without PRINT DONE (R100 to R102). -/
inductive FailCause where
  | fail | timeout | lost
  deriving DecidableEq, Repr

/-- The variant part of a notice record (R181). -/
inductive Variant where
  | none
  | print (label : Nat) (cause : FailCause)
  | batch (result : BatchResult)
  | step (seconds : Int)
  | count (lost : Nat)
  | failures (n : Nat)
  | audit (n : Nat)
  | state (c : CounterState)
  deriving DecidableEq, Repr

/-- A notice record (R185). -/
structure Notice where
  cls : NoticeClass
  time : DateTime
  station : Option StationNo
  clerk : Option ClerkNo
  order : Option Nat
  plu : Option Nat
  variant : Variant
  deriving DecidableEq, Repr

/-- What the notice unit holds (R184): the occurred and enable flags, class k in bit k - 1, and the notice
queue oldest first. -/
structure NoticeUnit where
  occurred : BitVec 16
  enabled : BitVec 16
  queue : List Notice
  deriving DecidableEq, Repr

/-! ## Link controller (R173, R178) -/

/-- A request in a FIFO place: its kind, its tag and its payload (R176). -/
structure Request where
  kind : Byte
  tag : Byte
  payload : List Byte
  deriving DecidableEq, Repr

/-- A frame in a transmit path; sync, length and check follow from it (R174). -/
structure TxFrame where
  kind : Byte
  tag : Byte
  payload : List Byte
  deriving DecidableEq, Repr

/-- The three lanes of a transmit path (R178). -/
inductive Lane where
  | reply | label | state
  deriving DecidableEq, Repr

/-- A port (R173): its receive hunter (none is HUNTING; some holds the bytes collected after the sync byte,
IN_FRAME), the gap timer, the request FIFO, the three lanes oldest first, the frame the transmitter has
begun, and the lane whose turn in the rotation is next (R178). -/
structure LinkPort where
  hunter : Option (List Byte)
  gap : Timer
  fifo : List Request
  replyLane : List TxFrame
  labelLane : List TxFrame
  stateLane : List TxFrame
  sending : Option TxFrame
  turn : Lane
  deriving DecidableEq, Repr

/-! ## The hub -/

/-- The state of the FK1200, block by block, with the levels of its two input lines, the retained store's
validity marker, and the queue of commands waiting, first in first out. -/
structure State where
  pending : List Instr
  resetLow : Bool
  loadHold : Bool
  markerOk : Bool
  ports : Table 15 LinkPort
  notices : NoticeUnit
  counter : CounterController
  weighing : Table 12 WeighContext
  plu : PluTable
  pricing : PricingUnit
  orders : OrderManager
  labels : Table 12 LabelStation
  queue : QueueUnit
  totals : TotalsStore
  lock : MetrologyLock
  deriving DecidableEq, Repr

/-- No command of the FK1200 stops the hub: every event has an effect or changes nothing (00_scope, Events;
R177). The type is therefore empty: nothing raises a fault. -/
inductive Fault where
  deriving DecidableEq, Repr

/-- Why a command is refused by the model. -/
inductive Refusal where
  /-- The command's arm has no meaning yet: raised by exec alone, safe (nothing can be proved of it). -/
  | notModelled (mnemonic : String)
  deriving DecidableEq, Repr

/-- What a command answers. -/
abbrev Result := Host.Outcome State Fault Refusal

/-! ## Values of a formatted store and of power-on -/

/-- 2000-01-01 (R146). -/
def epochDate : Date := ⟨2000, 1, 1⟩

/-- The clock of a formatted store (R146). -/
def epoch : DateTime := ⟨epochDate, 0, 0, 0⟩

/-- The seven fields of an UNSET record (R158). -/
def zeroCal : CalFields := ⟨0, 0, 0, 0, 0, 0, 0⟩

/-- A calibration record of a formatted store (R158). -/
def unsetCal : CalRecord := ⟨false, zeroCal⟩

/-- A station profile of a formatted store (R145). -/
def defaultProfile : Profile := ⟨.labelEach, false⟩

/-- The service key of a formatted store (R158). -/
def zeroKey : List Word32 := [0, 0, 0, 0]

/-- The price settings of a formatted store (R41). -/
def defaultPrices : PriceSettings := ⟨.nearest, 1, ⟨0, 0⟩, ⟨0, 0⟩, 21, 29⟩

/-- An empty PLU table (R39). -/
def emptyTable : PluTable := ⟨[], Table.fill 64 none⟩

/-- Totals that are all zero (R28). -/
def zeroPluTotals : PluTotals := ⟨0, 0, 0, 0⟩

/-- The counter's period record at the start of a period (R125). -/
def zeroCounterTotals : CounterTotals := ⟨0, 0, 0, 0, 0, 0, 0, 0, 0⟩

/-- A clerk's period record at the start of a period (R125). -/
def zeroClerkTotals : ClerkTotals := ⟨0, 0, 0, 0, 0⟩

/-- A station's period record at the start of a period (R125). -/
def zeroStationTotals : StationTotals := ⟨0, 0, 0⟩

/-- A department's period record at the start of a period (R125). -/
def zeroDeptTotals : DeptTotals := ⟨0, 0⟩

/-- The totals store of a formatted store (R124). -/
def zeroTotals : TotalsStore :=
  ⟨zeroCounterTotals, Table.fill 32 zeroClerkTotals, Table.fill 12 zeroStationTotals,
    Table.fill 16 zeroDeptTotals, 0, 0, 1, none, 0, none⟩

/-- A clerk entry of a formatted store: disabled, code 0000 (R62). -/
def blankClerk : ClerkEntry := ⟨0, false, none⟩

/-- A weighing context as power-on, enrolment and loss leave it (R2, R23). -/
def clearedContext (calSet : Bool) : WeighContext :=
  ⟨if calSet then .noZero else .noCal, [], none, none, false, none, false, none⟩

/-- A roster entry at power-on (R152). -/
def absentEntry : RosterEntry := ⟨.absent, none, none⟩

/-- A port as reset leaves it (R173). That the rotation then stands at the reply lane is the model's choice
(DESIGN CHOICE, log entry 2). -/
def emptyPort : LinkPort := ⟨none, none, [], [], [], [], none, .reply⟩

/-- Every class's enable flag set (R184). -/
def allClasses : BitVec 16 := 0x3FFF

/-- The machine right after reset: the power-on handling of R146 and R147 has run on a formatted store, with
LOAD_HOLD deasserted, so the counter has entered CLOSED and its COUNTER_STATE notice waits (R138, R143).
That the store is formatted and LOAD_HOLD deasserted is the model's choice (DESIGN CHOICE, log entry 3). -/
def State.reset : State where
  pending := []
  resetLow := false
  loadHold := false
  markerOk := true
  ports := Table.fill 15 emptyPort
  notices :=
    { occurred := 0x2000, enabled := allClasses
      queue := [⟨.counterState, epoch, none, none, none, none, .state .closed⟩] }
  counter :=
    { state := .closed, clock := epoch, lastDate := epochDate, beat := some Config.beatMs
      roster := Table.fill 12 absentEntry }
  weighing := Table.fill 12 (clearedContext false)
  plu := emptyTable
  pricing :=
    { generation := 1, settings := defaultPrices, batch := .empty, entries := [], instant := none
      result := none }
  orders := { clerks := Table.fill 32 blankClerk, orders := Table.fill 32 none, lastOrderNumber := 0 }
  labels := Table.fill 12 ⟨none, 1, none⟩
  queue :=
    { nextNumber := 1, roll := 2000, waiting := [], serving := Table.fill 32 none, missed := []
      blocked := false, rollLength := 2000, rollLow := 100, queueLong := 30 }
  totals := zeroTotals
  lock :=
    { records := Table.fill 12 unsetCal, profiles := Table.fill 12 defaultProfile, key := zeroKey
      audit := 0, failures := 0, session := .idle, sequence := none, inactivity := none }

end Sys2Proof.Machine
end

