-- ==== Sys2Proof/Machine/Ops.lean ====
section
/-! DEFINITION. The operations the command families share: exact arithmetic and rounding, the calendar,
reading and writing the blocks' tables, what the blocks ask of one another, and the transmit paths. -/

namespace Sys2Proof.Machine

/-! ## Arithmetic (00_scope, Rounding) -/

/-- `num / den` rounded to the nearest whole number, halves away from zero. -/
def roundHalfAway (num : Int) (den : Nat) : Int :=
  if num < 0 then -(((2 * num.natAbs + den) / (2 * den) : Nat) : Int)
  else (((2 * num.natAbs + den) / (2 * den) : Nat) : Int)

/-- `num / den` rounded to the nearest whole number, halves up, for operands that are not negative. -/
def roundHalfUp (num den : Nat) : Nat := (2 * num + den) / (2 * den)

/-- `x` held within `-limit` and `limit`. -/
def clampTo (limit : Nat) (x : Int) : Int :=
  if (limit : Int) < x then limit else if x < -(limit : Int) then -(limit : Int) else x

/-- A count of a period record after an addition (R125). -/
def addCount (m x : Nat) : Nat := (m + x) % Config.countModulus

/-- A value of a period record, or GT, after an addition (R125). -/
def addValue (m x : Nat) : Nat := (m + x) % Config.valueModulus

/-- The first refusal that applies, of tests made in order. -/
def firstOf : List (Bool × ResultCode) → Option ResultCode
  | [] => none
  | (applies, code) :: rest => if applies then some code else firstOf rest

/-! ## Calendar (00_scope, Time and dates) -/

/-- Within 2000 to 2099 a year divisible by 4 is a leap year. -/
def isLeap (year : Nat) : Bool := year % 4 == 0

/-- Days of the months of a year, January first. -/
def monthLengths (year : Nat) : List Nat :=
  [31, if isLeap year then 29 else 28, 31, 30, 31, 30, 31, 31, 30, 31, 30, 31]

/-- Days of a month. -/
def daysInMonth (year month : Nat) : Nat := (monthLengths year).getD (month - 1) 0

/-- A date the calendar has, from 2000-01-01 to 2099-12-31 (R149). -/
def Date.valid (d : Date) : Bool :=
  2000 ≤ d.year && d.year ≤ 2099 && 1 ≤ d.month && d.month ≤ 12 && 1 ≤ d.day
    && d.day ≤ daysInMonth d.year d.month

/-- A date-time whose date and time of day both exist (R149). -/
def DateTime.valid (t : DateTime) : Bool :=
  t.date.valid && t.hour ≤ 23 && t.minute ≤ 59 && t.second ≤ 59

/-- Days from 2000-01-01 to a date. -/
def Date.dayNumber (d : Date) : Nat :=
  (d.year - 2000) * 365 + (d.year - 2000 + 3) / 4 + ((monthLengths d.year).take (d.month - 1)).sum
    + (d.day - 1)

/-- Seconds from midnight to a time of day. -/
def DateTime.secondOfDay (t : DateTime) : Nat := t.hour * 3600 + t.minute * 60 + t.second

/-- Seconds from 2000-01-01 00:00:00 to a date-time; date-times compare as these numbers do. -/
def DateTime.seconds (t : DateTime) : Nat := t.date.dayNumber * 86400 + t.secondOfDay

/-- The last date of the calendar. -/
def lastDate : Date := ⟨2099, 12, 31⟩

/-- The instant at which the clock stops (R148). -/
def clockEnd : DateTime := ⟨lastDate, 23, 59, 59⟩

/-- The date after a date. -/
def Date.next (d : Date) : Date :=
  if d.day < daysInMonth d.year d.month then { d with day := d.day + 1 }
  else if d.month < 12 then { d with month := d.month + 1, day := 1 }
  else ⟨d.year + 1, 1, 1⟩

/-- The date a number of days on, no later than 2099-12-31 (R95). -/
def Date.advance : Nat → Date → Date
  | 0, d => d
  | k + 1, d => Date.advance k (if d = lastDate then d else d.next)

/-- The clock one second on; at 2099-12-31 23:59:59 it stops (R148). -/
def DateTime.tick (t : DateTime) : DateTime :=
  if t = clockEnd then t
  else if t.second < 59 then { t with second := t.second + 1 }
  else if t.minute < 59 then { t with minute := t.minute + 1, second := 0 }
  else if t.hour < 23 then { t with hour := t.hour + 1, minute := 0, second := 0 }
  else ⟨t.date.next, 0, 0, 0⟩

/-- A date-time a number of minutes (below one day) on, absent when that is later than the calendar's
end (R55). -/
def DateTime.addMinutes (t : DateTime) (k : Nat) : Option DateTime :=
  let minutes := t.hour * 60 + t.minute + k
  if minutes < 1440 then some ⟨t.date, minutes / 60, minutes % 60, t.second⟩
  else if t.date = lastDate then none
  else some ⟨t.date.next, (minutes - 1440) / 60, (minutes - 1440) % 60, t.second⟩

/-! ## Reading and writing the blocks' tables -/

namespace State

/-- The port of a link (R173). -/
def port (s : State) (p : Port) : LinkPort := s.ports.get p.index
/-- A port replaced. -/
def setPort (s : State) (p : Port) (x : LinkPort) : State := { s with ports := s.ports.put p.index x }

/-- A station's weighing context (R2). -/
def context (s : State) (n : StationNo) : WeighContext := s.weighing.get n
/-- A weighing context replaced. -/
def setContext (s : State) (n : StationNo) (x : WeighContext) : State :=
  { s with weighing := s.weighing.put n x }

/-- A station's roster entry (R152). -/
def station (s : State) (n : StationNo) : RosterEntry := s.counter.roster.get n
/-- A roster entry replaced. -/
def setStation (s : State) (n : StationNo) (x : RosterEntry) : State :=
  { s with counter := { s.counter with roster := s.counter.roster.put n x } }

/-- A station's link state (R152). -/
def link (s : State) (n : StationNo) : LinkState := (s.station n).link

/-- What the label composer holds for a station (R88). -/
def printer (s : State) (n : StationNo) : LabelStation := s.labels.get n
/-- What the label composer holds for a station, replaced. -/
def setPrinter (s : State) (n : StationNo) (x : LabelStation) : State :=
  { s with labels := s.labels.put n x }

/-- A clerk's entry (R62). -/
def clerk (s : State) (c : ClerkNo) : ClerkEntry := s.orders.clerks.get c
/-- A clerk's entry replaced. -/
def setClerk (s : State) (c : ClerkNo) (x : ClerkEntry) : State :=
  { s with orders := { s.orders with clerks := s.orders.clerks.put c x } }

/-- A clerk's open order, if any (R67). -/
def order (s : State) (c : ClerkNo) : Option Order := s.orders.orders.get c
/-- A clerk's open order replaced or ended. -/
def setOrder (s : State) (c : ClerkNo) (x : Option Order) : State :=
  { s with orders := { s.orders with orders := s.orders.orders.put c x } }

/-- A clerk's serving record, if any (R107). -/
def serving (s : State) (c : ClerkNo) : Option Serving := s.queue.serving.get c
/-- A clerk's serving record replaced or made absent. -/
def setServing (s : State) (c : ClerkNo) (x : Option Serving) : State :=
  { s with queue := { s.queue with serving := s.queue.serving.put c x } }

/-- A station's calibration record in force (R158). -/
def calibration (s : State) (n : StationNo) : CalRecord := s.lock.records.get n
/-- A station's profile (R145). -/
def profile (s : State) (n : StationNo) : Profile := s.lock.profiles.get n

/-- The counter clock (R148). -/
def clock (s : State) : DateTime := s.counter.clock

/-! ## What one block asks of another -/

/-- The clerk bound at a station, if any (R62). -/
def boundClerk (s : State) (n : StationNo) : Option ClerkNo :=
  (List.finRange 32).find? fun c => (s.clerk c).bound == some n

/-- The clerk whose open order a station holds, if it holds one (R67). -/
def holding (s : State) (n : StationNo) : Option ClerkNo :=
  (List.finRange 32).find? fun c =>
    match s.order c with
    | some o => o.holder == some n
    | none => false

/-- The open orders, by clerk (R67). -/
def openOrders (s : State) : List Order := s.orders.orders.rows.filterMap id

/-- The count of open orders (R67, R141). -/
def openOrderCount (s : State) : Nat := s.openOrders.length

/-- Item slots held by open orders (R68). -/
def poolUsed (s : State) : Nat := (s.openOrders.map fun o => o.items.length).sum

/-- Free slots of the item pool (R68). -/
def poolFree (s : State) : Nat := Config.poolSlots - s.poolUsed

/-- The reference test: some item of some open order, in any state, names the PLU (R86). -/
def pluReferenced (s : State) (plu : Nat) : Bool :=
  s.openOrders.any fun o => o.items.any fun i => i.plu == plu

/-- The level of the NOTICE line (R146, R186). -/
def noticeLine (s : State) : Bool := !s.resetLow && !s.notices.queue.isEmpty

end State

/-- The refusal every station request but ENROL meets first, by the station's link state (R13 to R16, R48,
R49, R64 to R80, R104, R113 to R117). -/
def linkTests (s : State) (n : StationNo) : List (Bool × ResultCode) :=
  [(s.link n == .absent, .noStation), (s.link n == .service, .inService)]

/-! ## Orders as the label composer and the order manager share them -/

/-- A revision after one step, from 65,535 to 0 (R71). -/
def stepRevision (r : Nat) : Nat := (r + 1) % 65536

/-- An order that holds a PENDING item (R64). -/
def Order.hasPending (o : Order) : Bool := o.items.any fun i => i.state == .pending

/-- An order that a label in flight keeps at its station: a PENDING item, or CLOSING (R64, R66, R76, R77). -/
def Order.labelInFlight (o : Order) : Bool := o.hasPending || o.state == .closing

/-- The order total: the prices of the PENDING and CONFIRMED items (R67). -/
def Order.total (o : Order) : Nat :=
  ((o.items.filter fun i => i.state != .voided).map (·.price)).sum

/-- The items of an order in one state. -/
def Order.inState (o : Order) (st : ItemState) : List Item := o.items.filter fun i => i.state == st

/-- The sum of the prices of the items in one state. -/
def Order.valueOf (o : Order) (st : ItemState) : Nat := ((o.inState st).map (·.price)).sum

/-! ## Transmit paths (R178) -/

/-- The lane after a lane in the rotation (R178). -/
def Lane.next : Lane → Lane
  | .reply => .label
  | .label => .state
  | .state => .reply

namespace LinkPort

/-- The frames of a lane. -/
def lane (p : LinkPort) : Lane → List TxFrame
  | .reply => p.replyLane
  | .label => p.labelLane
  | .state => p.stateLane

/-- A lane's frames replaced. -/
def setLane (p : LinkPort) (l : Lane) (fs : List TxFrame) : LinkPort :=
  match l with
  | .reply => { p with replyLane := fs }
  | .label => { p with labelLane := fs }
  | .state => { p with stateLane := fs }

/-- A REPLY handed to the reply lane (R178). -/
def pushReply (p : LinkPort) (f : TxFrame) : LinkPort := { p with replyLane := p.replyLane ++ [f] }

/-- LABEL push parts handed to a station port's label and display lane, in index order (R178, R182). -/
def pushLabel (p : LinkPort) (fs : List TxFrame) : LinkPort := { p with labelLane := p.labelLane ++ fs }

/-- A DISPLAY push handed to port Q: at 16 held, the oldest not yet begun is dropped (R178). -/
def pushDisplay (p : LinkPort) (f : TxFrame) : LinkPort :=
  { p with
    labelLane := (p.labelLane ++ [f]).drop (p.labelLane.length + 1 - Config.displayLaneFrames) }

/-- A WEIGHT or BEAT push handed to the state lane: it replaces one of its kind not yet begun, and stands in
the order of handing over (R178; DEDUCED, log entry 4). -/
def pushState (p : LinkPort) (f : TxFrame) : LinkPort :=
  { p with stateLane := (p.stateLane.filter fun g => g.kind != f.kind) ++ [f] }

/-- When the link is free and a lane holds a frame, the transmitter begins the next frame, taking the lanes
in rotation and skipping empty ones (R178). A frame begun leaves its lane (DEDUCED, log entry 4). -/
def start (p : LinkPort) : LinkPort :=
  match p.sending with
  | some _ => p
  | none =>
    match [p.turn, p.turn.next, p.turn.next.next].find? fun l => !(p.lane l).isEmpty with
    | none => p
    | some l => { p.setLane l (p.lane l).tail with sending := (p.lane l).head?, turn := l.next }

end LinkPort

namespace State

/-- A port changed by a function. -/
def onPort (s : State) (p : Port) (f : LinkPort → LinkPort) : State := s.setPort p (f (s.port p))

/-- A good frame on a station's link restarts its silence timer, which runs while the station is ENROLLED or
SERVICE (R154, R176). -/
def goodFrame (s : State) : Port → State
  | .s n =>
    if s.link n = .absent then s
    else s.setStation n { s.station n with silence := some Config.silenceMs }
  | _ => s

/-- At the end of an event every free transmitter begins its next frame (R178). -/
def startAll (s : State) : State := { s with ports := s.ports.each LinkPort.start }

end State

/-- The end of an event: the transmitters begin what was handed to them, and the hub stands in the next
state. -/
def finish (s : State) : Result := .next s.startAll

/-- Outside RESET an event has its effect; while RESET is low the hub takes no frame and sends none, and
its timers are stopped (R146, R173). -/
def unlessReset (s : State) (f : State → State) : Result :=
  if s.resetLow then .next s else finish (f s)

end Sys2Proof.Machine
end

