-- ==== Sys2Proof/Machine/Flags.lean ====
section
/-! DEFINITION. The notice unit's flags and the raising of notices (R184 to R188). -/

namespace Sys2Proof.Machine

/-- Number of a notice class (R184). -/
def NoticeClass.number : NoticeClass → Nat
  | .stationLost => 1
  | .printFailed => 2
  | .batchApplied => 3
  | .batchSkipped => 4
  | .rollLow => 5
  | .rollEmpty => 6
  | .dispenserBlocked => 7
  | .queueLong => 8
  | .serviceKeyFailed => 9
  | .calibrationChanged => 10
  | .ordersLost => 11
  | .timeStepped => 12
  | .reportReady => 13
  | .counterState => 14

/-- The class mask of one class: bit k - 1 for class k (R184). -/
def NoticeClass.mask (c : NoticeClass) : BitVec 16 := BitVec.twoPow 16 (c.number - 1)

/-- The flag of a class in a mask. -/
def flagOf (m : BitVec 16) (c : NoticeClass) : Bool := m.getLsbD (c.number - 1)

/-- A class mask with bit 14 or 15 set names no class (R187, R188). -/
def maskBad (m : BitVec 16) : Bool := m.getLsbD 14 || m.getLsbD 15

/-- The flags of a mask set (R187). -/
def setFlags (flags mask : BitVec 16) : BitVec 16 := flags ||| mask

/-- The flags of a mask cleared (R187, R188). -/
def clearFlags (flags mask : BitVec 16) : BitVec 16 := flags &&& ~~~mask

/-- What a raising rule gives of a notice: its station, clerk, order, PLU and variant part (R185). -/
structure NoticeFields where
  station : Option StationNo := none
  clerk : Option ClerkNo := none
  order : Option Nat := none
  plu : Option Nat := none
  variant : Variant := .none
  deriving DecidableEq, Repr

/-- A notice raised: the occurred flag is set; when the class is enabled and the queue has room, the record
is built and appended (R185). -/
def NoticeUnit.raise (u : NoticeUnit) (time : DateTime) (c : NoticeClass) (f : NoticeFields) : NoticeUnit :=
  { u with
    occurred := setFlags u.occurred c.mask
    queue :=
      if flagOf u.enabled c && decide (u.queue.length < Config.noticeQueueRecords) then
        u.queue ++ [⟨c, time, f.station, f.clerk, f.order, f.plu, f.variant⟩]
      else u.queue }

/-- A block raises a notice; its time is the counter clock's (R185). -/
def State.raise (s : State) (c : NoticeClass) (f : NoticeFields) : State :=
  { s with notices := s.notices.raise s.clock c f }

end Sys2Proof.Machine
end

