-- ==== Sys2Proof/Machine/Operands.lean ====
section
/-! DEFINITION. What travels on the links: the kinds and where they are permitted (R179), the result codes
(R180), the encoding of fields, requests and records (R181, R183), and how a block takes a request and
answers it (R177). -/

namespace Sys2Proof.Machine

/-! ## Kinds (R179) -/

/-- The kinds of class REQUEST, in code order (R179). -/
inductive RequestKind where
  | enrol | zero | tareKey | tareSet | tareClear | clerkOn | clerkOff | quote | label | addItem
  | voidItem | parkOrder | claimOrder | closeOrder | reprint | callNext | recall | recallMissed
  | pluWrite | pluRead | pluRemove | pluWipe | batchAdd | batchCommit | batchClear
  | batchStatus | openCounter | closeCounter | timeSet | settingsWrite | settingsRead
  | clerkWrite | clerkRead | profileWrite | statusRead | totalsRead | zClose | reportRead
  | reportRelease | noticeTake | noticeEnable | noticeDisable | flagsRead | flagsClear
  | serviceOpen | serviceKey | calRead | calWrite | captureZero | captureSpan | keyChange
  | serviceClose | serviceAbandon | take | rollLoaded
  deriving DecidableEq, Repr

/-- Every request kind, in code order (R179). -/
def requestKinds : List RequestKind :=
  [.enrol, .zero, .tareKey, .tareSet, .tareClear, .clerkOn, .clerkOff, .quote, .label,
   .addItem, .voidItem, .parkOrder, .claimOrder, .closeOrder, .reprint, .callNext, .recall,
   .recallMissed, .pluWrite, .pluRead, .pluRemove, .pluWipe, .batchAdd, .batchCommit,
   .batchClear, .batchStatus, .openCounter, .closeCounter, .timeSet, .settingsWrite,
   .settingsRead, .clerkWrite, .clerkRead, .profileWrite, .statusRead, .totalsRead, .zClose,
   .reportRead, .reportRelease, .noticeTake, .noticeEnable, .noticeDisable, .flagsRead,
   .flagsClear, .serviceOpen, .serviceKey, .calRead, .calWrite, .captureZero, .captureSpan,
   .keyChange, .serviceClose, .serviceAbandon, .take, .rollLoaded]

/-- The kind code of a request (R179). -/
def RequestKind.code : RequestKind → Byte
  | .enrol => 0x01
  | .zero => 0x02
  | .tareKey => 0x03
  | .tareSet => 0x04
  | .tareClear => 0x05
  | .clerkOn => 0x06
  | .clerkOff => 0x07
  | .quote => 0x08
  | .label => 0x09
  | .addItem => 0x0A
  | .voidItem => 0x0B
  | .parkOrder => 0x0C
  | .claimOrder => 0x0D
  | .closeOrder => 0x0E
  | .reprint => 0x0F
  | .callNext => 0x10
  | .recall => 0x11
  | .recallMissed => 0x12
  | .pluWrite => 0x20
  | .pluRead => 0x21
  | .pluRemove => 0x22
  | .pluWipe => 0x23
  | .batchAdd => 0x24
  | .batchCommit => 0x25
  | .batchClear => 0x26
  | .batchStatus => 0x27
  | .openCounter => 0x28
  | .closeCounter => 0x29
  | .timeSet => 0x2A
  | .settingsWrite => 0x2B
  | .settingsRead => 0x2C
  | .clerkWrite => 0x2D
  | .clerkRead => 0x2E
  | .profileWrite => 0x2F
  | .statusRead => 0x30
  | .totalsRead => 0x31
  | .zClose => 0x32
  | .reportRead => 0x33
  | .reportRelease => 0x34
  | .noticeTake => 0x35
  | .noticeEnable => 0x36
  | .noticeDisable => 0x37
  | .flagsRead => 0x38
  | .flagsClear => 0x39
  | .serviceOpen => 0x40
  | .serviceKey => 0x41
  | .calRead => 0x42
  | .calWrite => 0x43
  | .captureZero => 0x44
  | .captureSpan => 0x45
  | .keyChange => 0x46
  | .serviceClose => 0x47
  | .serviceAbandon => 0x48
  | .take => 0x50
  | .rollLoaded => 0x51

/-- The payload lengths a request kind takes: those that the encoding of R183 gives its forms (log entry 6). -/
def RequestKind.lengths : RequestKind → List Nat
  | .enrol => [3]
  | .zero => [0]
  | .tareKey => [0]
  | .tareSet => [2]
  | .tareClear => [0]
  | .clerkOn => [3]
  | .clerkOff => [0]
  | .quote => [5]
  | .label => [9]
  | .addItem => [9]
  | .voidItem => [1]
  | .parkOrder => [0]
  | .claimOrder => [5]
  | .closeOrder => [0]
  | .reprint => [0]
  | .callNext => [0]
  | .recall => [0]
  | .recallMissed => [1]
  | .pluWrite => [39]
  | .pluRead => [4]
  | .pluRemove => [3]
  | .pluWipe => [0]
  | .batchAdd => [34, 40, 4]
  | .batchCommit => [2]
  | .batchClear => [0]
  | .batchStatus => [0]
  | .openCounter => [0]
  | .closeCounter => [0]
  | .timeSet => [6]
  | .settingsWrite => [13]
  | .settingsRead => [0]
  | .clerkWrite => [4]
  | .clerkRead => [1]
  | .profileWrite => [3]
  | .statusRead => [0]
  | .totalsRead => [2]
  | .zClose => [0]
  | .reportRead => [2]
  | .reportRelease => [0]
  | .noticeTake => [0]
  | .noticeEnable => [2]
  | .noticeDisable => [2]
  | .flagsRead => [0]
  | .flagsClear => [2]
  | .serviceOpen => [3]
  | .serviceKey => [4]
  | .calRead => [0]
  | .calWrite => [21]
  | .captureZero => [0]
  | .captureSpan => [2]
  | .keyChange => [16]
  | .serviceClose => [0]
  | .serviceAbandon => [0]
  | .take => [0]
  | .rollLoaded => [0]

/-- The ports on which a request kind is permitted (R179). -/
def RequestKind.permitted (k : RequestKind) (p : Port) : Bool :=
  match p with
  | .s _ => k.code < 0x20
  | .b => 0x20 ≤ k.code && k.code < 0x40
  | .v => k.code == 0x30 || (0x40 ≤ k.code && k.code < 0x50)
  | .q => 0x50 ≤ k.code

/-- The kinds of class REPORT (R179). -/
inductive ReportKind where
  | sample | printDone | printFail | linkReset
  deriving DecidableEq, Repr

/-- The kind code of a report (R179). -/
def ReportKind.code : ReportKind → Byte
  | .sample => 0x60
  | .printDone => 0x61
  | .printFail => 0x62
  | .linkReset => 0x63

/-- The payload length a report carries (R179). -/
def ReportKind.length : ReportKind → Nat
  | .sample => 3
  | .printDone => 3
  | .printFail => 3
  | .linkReset => 0

/-- Kind codes of the pushes (R179). -/
def weightKind : Byte := 0x70
def beatKind : Byte := 0x71
def labelKind : Byte := 0x72
def displayKind : Byte := 0x73

/-- The class of a kind code; codes outside the kind table are unknown (R176, R179). -/
inductive FrameClass where
  | request (k : RequestKind)
  | report (k : ReportKind)
  | hubOnly
  | unknown
  deriving DecidableEq, Repr

/-- A kind code looked up in the kind table (R179). REPLY and PUSH kinds are the hub's own. -/
def classify (b : Byte) : FrameClass :=
  match requestKinds.find? fun k => k.code == b with
  | some k => .request k
  | none =>
    match [ReportKind.sample, .printDone, .printFail, .linkReset].find? fun k => k.code == b with
    | some k => .report k
    | none =>
      if [weightKind, beatKind, labelKind, displayKind].contains b
          || requestKinds.any fun k => k.code + 0x80 == b then .hubOnly
      else .unknown

/-! ## Result codes (R180) -/

/-- The value of a result code: its place in the order of R180. -/
def ResultCode.value (c : ResultCode) : Nat := c.ctorIdx

/-! ## Numbers in bytes (R181, R183) -/

/-- A number in `k` bytes, most significant byte first. -/
def be : Nat → Nat → List Byte
  | 0, _ => []
  | k + 1, x => BitVec.ofNat 8 (x / 256 ^ k) :: be k x

/-- A signed number in `k` bytes, two's complement. -/
def beInt (k : Nat) (x : Int) : List Byte := be k (x % ((256 ^ k : Nat) : Int)).toNat

/-- The number that bytes spell, most significant byte first. -/
def ofBytes (bs : List Byte) : Nat := bs.foldl (fun a b => a * 256 + b.toNat) 0

/-- The number at an offset of a payload, in `len` bytes. -/
def natAt (p : List Byte) (offset len : Nat) : Nat := ofBytes ((p.drop offset).take len)

/-- The signed number at an offset of a payload, in `len` bytes. -/
def intAt (p : List Byte) (offset len : Nat) : Int :=
  if natAt p offset len < 256 ^ len / 2 then natAt p offset len
  else (natAt p offset len : Int) - ((256 ^ len : Nat) : Int)

/-- A set-or-clear or yes-or-no field (R183). -/
def flagByte (b : Bool) : List Byte := be 1 (if b then 1 else 0)

/-- A field that may be absent: its presence byte, then its bytes or, absent, that many of 0 (R183). -/
def optional (len : Nat) : Option (List Byte) → List Byte
  | some bs => be 1 1 ++ bs
  | none => be 1 0 ++ List.replicate len 0

/-- The number of a station, clerk or department. -/
def ordinal {n : Nat} (i : Fin n) : Nat := i.val + 1

/-- The station, clerk or department of a number from 1 to `n`. -/
def ofOrdinal (n x : Nat) : Option (Fin n) := if h : 1 ≤ x ∧ x ≤ n then some ⟨x - 1, by omega⟩ else none

/-- A date in three bytes (R181). -/
def Date.bytes (d : Date) : List Byte := be 1 (d.year - 2000) ++ be 1 d.month ++ be 1 d.day

/-- A date-time in six bytes (R181). -/
def DateTime.bytes (t : DateTime) : List Byte :=
  t.date.bytes ++ be 1 t.hour ++ be 1 t.minute ++ be 1 t.second

/-- A set-or-clear field of a request: 1 or 0, any other byte outside its values (log entry 7). -/
def flagAt (p : List Byte) (offset : Nat) : Option Bool :=
  match natAt p offset 1 with
  | 0 => some false
  | 1 => some true
  | _ => none

/-- Whether the optional field at an offset is present: any presence byte but 0 (log entry 7). -/
def presentAt (p : List Byte) (offset : Nat) : Bool := natAt p offset 1 != 0

/-! ## Named values (R183): the code this chapter gives, or else the place in the list that first gives them -/

def ProductKind.code : ProductKind → Nat
  | .byWeight => 1
  | .byCount => 2
def ProductKind.ofCode : Nat → Option ProductKind
  | 1 => some .byWeight
  | 2 => some .byCount
  | _ => none
def CodeKind.code : CodeKind → Nat
  | .price => 0
  | .weight => 1
  | .nothing => 2
def CodeKind.ofCode : Nat → Option CodeKind
  | 0 => some .price
  | 1 => some .weight
  | 2 => some .nothing
  | _ => none
def PluState.code : PluState → Nat
  | .active => 0
  | .retired => 1
def Rounding.code : Rounding → Nat
  | .nearest => 0
  | .down => 1
  | .up => 2
def Rounding.ofCode : Nat → Option Rounding
  | 0 => some .nearest
  | 1 => some .down
  | 2 => some .up
  | _ => none
def BatchState.code : BatchState → Nat
  | .empty => 0
  | .filling => 1
  | .armed => 2
def CounterState.code : CounterState → Nat
  | .loading => 0
  | .closed => 1
  | .opened => 2
  | .draining => 3
def LinkState.code : LinkState → Nat
  | .absent => 0
  | .enrolled => 1
  | .service => 2
def LabelMode.code : LabelMode → Nat
  | .labelEach => 0
  | .totalOnly => 1
def LabelMode.ofCode : Nat → Option LabelMode
  | 0 => some .labelEach
  | 1 => some .totalOnly
  | _ => none
def OrderState.code : OrderState → Nat
  | .opened => 0
  | .closing => 1
def WeighState.code : WeighState → Nat
  | .noCal => 0
  | .noZero => 1
  | .weighing => 2
  | .overload => 3
  | .underload => 4
def TareOrigin.code : TareOrigin → Nat
  | .key => 1
  | .numeric => 2
def LabelKind.code : LabelKind → Nat
  | .item => 1
  | .total => 2
  | .reprint => 3
def FailCause.code : FailCause → Nat
  | .fail => 1
  | .timeout => 2
  | .lost => 3

/-! ## Groups of fields -/

/-- A description field: its length, then 24 characters padded with 0x20 (R183). -/
def descriptionBytes (d : List Byte) : List Byte :=
  be 1 d.length ++ d ++ List.replicate (24 - d.length) 0x20

/-- A printable character of code 0x20 to 0x7E (R27). -/
def printable (c : Byte) : Bool := 0x20 ≤ c && c ≤ 0x7E

/-- A description of 1 to 24 printable characters (R27). -/
def descriptionOk (d : List Byte) : Bool := 1 ≤ d.length && d.length ≤ 24 && d.all printable

/-- The description field at an offset, absent when its length or a character is outside its range. -/
def descriptionAt (p : List Byte) (offset : Nat) : Option (List Byte) :=
  if 24 < natAt p offset 1 then none
  else
    let d := (p.drop (offset + 1)).take (natAt p offset 1)
    if descriptionOk d then some d else none

/-- A record is valid when every selling field lies in its range and the two combination rules hold (R27). -/
def PluFields.valid (f : PluFields) : Bool :=
  1 ≤ f.number && f.number ≤ Config.lastPlu && descriptionOk f.description
    && 1 ≤ f.unitPrice && f.unitPrice ≤ 999999 && f.markdown ≤ 90 && f.presetTare ≤ 30000
    && f.shelfDays ≤ 365
    && (f.kind == .byWeight || (f.presetTare == 0 && f.codeKind != .weight))

/-- The selling fields, as PLU WRITE carries them (R32, R183). -/
def PluFields.bytes (f : PluFields) : List Byte :=
  be 3 f.number ++ be 1 f.kind.code ++ descriptionBytes f.description ++ be 3 f.unitPrice
    ++ be 1 f.markdown ++ be 2 f.presetTare ++ be 2 f.shelfDays ++ be 1 f.codeKind.code
    ++ be 1 (ordinal f.department)

/-- The selling fields at an offset of a payload, absent when one is outside its range or a combination is
forbidden (R32 test 2). -/
def pluFieldsAt (p : List Byte) (o : Nat) : Option PluFields :=
  match ProductKind.ofCode (natAt p (o + 3) 1), descriptionAt p (o + 4),
      CodeKind.ofCode (natAt p (o + 37) 1), ofOrdinal 16 (natAt p (o + 38) 1) with
  | some kind, some description, some codeKind, some department =>
    let f : PluFields :=
      ⟨natAt p o 3, kind, description, natAt p (o + 29) 3, natAt p (o + 32) 1, natAt p (o + 33) 2,
        natAt p (o + 35) 2, codeKind, department⟩
    if f.valid then some f else none
  | _, _, _, _ => none

/-- The four period totals of a PLU record (R28, R125). -/
def PluTotals.bytes (t : PluTotals) : List Byte :=
  be 4 t.items ++ be 4 t.quantity ++ be 6 t.weight ++ be 6 t.value

/-- A station record (R152). -/
def StationRecord.bytes (r : StationRecord) : List Byte :=
  flagByte r.printer ++ be 1 r.width ++ be 1 r.digits

/-- A station profile (R145). -/
def Profile.bytes (r : Profile) : List Byte := be 1 r.mode.code ++ flagByte r.autoClear

/-- The seven fields of a calibration record, in the order of R158. -/
def CalFields.bytes (f : CalFields) : List Byte :=
  beInt 3 f.z ++ be 3 f.s ++ be 2 f.l ++ be 2 f.max1 ++ be 1 f.e1 ++ be 2 f.max2 ++ be 1 f.e2

/-- A calibration record with its state, SET before UNSET (R158). -/
def CalRecord.bytes (r : CalRecord) : List Byte := be 1 (if r.isSet then 0 else 1) ++ r.fields.bytes

/-- An order summary (R71). -/
def orderSummary (c : ClerkNo) (o : Order) : List Byte :=
  be 2 o.number ++ be 1 (ordinal c) ++ optional 1 (o.holder.map fun h => be 1 (ordinal h))
    ++ be 2 o.revision ++ be 1 o.state.code ++ be 1 (o.inState .pending).length
    ++ be 1 (o.inState .confirmed).length ++ be 1 (o.inState .voided).length ++ be 3 o.total
    ++ o.openedAt.bytes

/-- Bytes of an order summary (R71, R183). -/
def orderSummaryLength : Nat := 20

/-- A result record; the first skipped PLU and its reason are one group that may be absent (R59, R183; log
entry 6). -/
def BatchResult.bytes (r : BatchResult) : List Byte :=
  be 1 r.applied ++ be 1 r.skipped
    ++ optional 4 (r.firstSkipped.map fun f => be 3 f.1 ++ be 1 f.2.value)

/-- The settings, as SETTINGS WRITE and SETTINGS READ carry them (R144): R42's fields, then R108's. -/
def settingsBytes (p : PriceSettings) (rollLength rollLow queueLong : Nat) : List Byte :=
  be 1 p.rounding.code ++ be 1 p.step ++ be 1 p.windowStart.hour ++ be 1 p.windowStart.minute
    ++ be 1 p.windowEnd.hour ++ be 1 p.windowEnd.minute ++ be 1 p.itemPrefix ++ be 1 p.orderPrefix
    ++ be 2 rollLength ++ be 2 rollLow ++ be 1 queueLong

/-- The counter record's fields, in the order of R125's rows. -/
def CounterTotals.bytes (r : CounterTotals) : List Byte :=
  be 4 r.orders ++ be 4 r.items ++ be 6 r.value ++ be 4 r.voidedCount ++ be 6 r.voidedValue
    ++ be 4 r.emptyOrders ++ be 4 r.queueCalls ++ be 4 r.waitSum ++ be 4 r.ordersLost

/-- A clerk record's fields (R125). -/
def ClerkTotals.bytes (r : ClerkTotals) : List Byte :=
  be 4 r.orders ++ be 4 r.items ++ be 6 r.value ++ be 4 r.voidedCount ++ be 6 r.voidedValue

/-- A station record's fields (R125). -/
def StationTotals.bytes (r : StationTotals) : List Byte := be 6 r.value ++ be 4 r.labels ++ be 4 r.reprints

/-- A department record's fields (R125). -/
def DeptTotals.bytes (r : DeptTotals) : List Byte := be 4 r.items ++ be 6 r.value

/-- An optional date-time (R183). -/
def optionalTime (t : Option DateTime) : List Byte := optional 6 (t.map DateTime.bytes)

/-- The fields of a report record (R133, R183). -/
def ReportRecord.bytes : ReportRecord → List Byte
  | .header z start closed gt gtLast n =>
    be 2 z ++ optionalTime start ++ closed.bytes ++ be 6 gt ++ be 6 gtLast ++ be 2 n
  | .counter r => r.bytes
  | .clerk r => r.bytes
  | .station r => r.bytes
  | .department r => r.bytes
  | .plu p description kind dept state totals =>
    be 3 p ++ descriptionBytes description ++ be 1 kind.code ++ be 1 (ordinal dept) ++ be 1 state.code
      ++ totals.bytes

/-- The variant part of a notice record, in its 8 bytes (R181). -/
def Variant.bytes : Variant → List Byte
  | .none => List.replicate 8 0
  | .print label cause => be 3 label ++ be 1 cause.code ++ List.replicate 4 0
  | .batch r =>
    be 1 r.applied ++ be 1 r.skipped ++ be 3 ((r.firstSkipped.map (·.1)).getD 0)
      ++ be 1 ((r.firstSkipped.map (·.2.value)).getD 0) ++ List.replicate 2 0
  | .step d => beInt 8 d
  | .count n => be 1 n ++ List.replicate 7 0
  | .failures n => be 1 n ++ List.replicate 7 0
  | .audit n => be 4 n ++ List.replicate 4 0
  | .state c => be 1 c.code ++ List.replicate 7 0

/-- A notice record in its 23 bytes (R181). -/
def Notice.bytes (r : Notice) : List Byte :=
  be 1 r.cls.number ++ r.time.bytes
    ++ be 1 ((if r.station.isSome then 1 else 0) + (if r.clerk.isSome then 2 else 0)
        + (if r.order.isSome then 4 else 0) + (if r.plu.isSome then 8 else 0))
    ++ be 1 ((r.station.map ordinal).getD 0) ++ be 1 ((r.clerk.map ordinal).getD 0)
    ++ be 2 (r.order.getD 0) ++ be 3 (r.plu.getD 0) ++ r.variant.bytes

/-! ## The fields of requests (R183), and the tests of their ranges -/

/-- ENROL: the station record, absent when a field is outside its values (R152). -/
def decodeEnrol (p : List Byte) : Option StationRecord :=
  match flagAt p 0 with
  | some printer =>
    let width := natAt p 1 1
    let digits := natAt p 2 1
    if (width == 40 || width == 60) && 6 ≤ digits && digits ≤ 8 then some ⟨printer, width, digits⟩
    else none
  | none => none

/-- CLERK ON: clerk and code, absent when one is outside its range (R64 test 3). -/
def decodeClerkOn (p : List Byte) : Option (ClerkNo × Nat) :=
  match ofOrdinal 32 (natAt p 0 1) with
  | some c => if natAt p 1 2 ≤ 9999 then some (c, natAt p 1 2) else none
  | none => none

/-- The bytes of a CLERK ON request. -/
def encodeClerkOn (c : ClerkNo) (code : Nat) : List Byte := be 1 (ordinal c) ++ be 2 code

/-- The fields of QUOTE, LABEL and ADD ITEM: a PLU number, a quantity that may be absent, and (but for
QUOTE) the quoted generation (R48, 03 section 3.4). -/
structure SaleRequest where
  plu : Nat
  quantity : Option Nat
  quoted : Nat
  deriving DecidableEq, Repr

/-- The fields of QUOTE (the quoted generation then reads 0), LABEL and ADD ITEM. -/
def decodeSale (p : List Byte) : SaleRequest :=
  ⟨natAt p 0 3, if presentAt p 3 then some (natAt p 4 1) else none, natAt p 5 4⟩

/-- The bytes of a QUOTE request. -/
def encodeQuote (plu : Nat) (quantity : Option Nat) : List Byte :=
  be 3 plu ++ optional 1 (quantity.map (be 1))

/-- The bytes of a LABEL or ADD ITEM request. -/
def encodeSale (r : SaleRequest) : List Byte := encodeQuote r.plu r.quantity ++ be 4 r.quoted

/-- CLAIM ORDER: clerk, expected holder and expected revision, absent when one is outside its range (R77 test 3). -/
def decodeClaim (p : List Byte) : Option (ClerkNo × Option StationNo × Nat) :=
  match ofOrdinal 32 (natAt p 0 1) with
  | none => none
  | some c =>
    if presentAt p 1 then
      match ofOrdinal 12 (natAt p 2 1) with
      | some h => some (c, some h, natAt p 3 2)
      | none => none
    else some (c, none, natAt p 3 2)

/-- The bytes of a CLAIM ORDER request. -/
def encodeClaim (c : ClerkNo) (holder : Option StationNo) (revision : Nat) : List Byte :=
  be 1 (ordinal c) ++ optional 1 (holder.map fun h => be 1 (ordinal h)) ++ be 2 revision

/-- A PLU number within 1 to 99,999 (R25). -/
def pluOk (n : Nat) : Bool := 1 ≤ n && n ≤ Config.lastPlu

/-- BATCH ADD: one entry, absent when a field is outside its range of R27, a NEW breaks a combination rule, or
the form is none of the three (R54 test 2; log entry 7). -/
def decodeBatchEntry (p : List Byte) : Option BatchEntry :=
  match natAt p 0 1 with
  | 0 =>
    let plu := natAt p 1 3
    let price := natAt p 4 3
    let markdown := natAt p 7 1
    if pluOk plu && 1 ≤ price && price ≤ 999999 && markdown ≤ 90 && p.length == 34 then
      if presentAt p 8 then
        match descriptionAt p 9 with
        | some d => some (.change plu price markdown (some d))
        | none => none
      else some (.change plu price markdown none)
    else none
  | 1 => if p.length == 40 then (pluFieldsAt p 1).map .new else none
  | 2 => if pluOk (natAt p 1 3) && p.length == 4 then some (.retire (natAt p 1 3)) else none
  | _ => none

/-- The bytes of a BATCH ADD request: its form, then the entry's fields. -/
def encodeBatchEntry : BatchEntry → List Byte
  | .change plu price markdown d =>
    be 1 0 ++ be 3 plu ++ be 3 price ++ be 1 markdown ++ optional 25 (d.map descriptionBytes)
  | .new f => be 1 1 ++ f.bytes
  | .retire plu => be 1 2 ++ be 3 plu

/-- An entry whose fields BATCH ADD takes (R54). -/
def BatchEntry.valid : BatchEntry → Bool
  | .change plu price markdown d =>
    pluOk plu && 1 ≤ price && price ≤ 999999 && markdown ≤ 90 && (d.map descriptionOk).getD true
  | .new f => f.valid
  | .retire plu => pluOk plu

/-- TIME SET: a date and a time of day, absent when one does not exist (R149 test 1). -/
def decodeTime (p : List Byte) : Option DateTime :=
  let t : DateTime :=
    ⟨⟨2000 + natAt p 0 1, natAt p 1 1, natAt p 2 1⟩, natAt p 3 1, natAt p 4 1, natAt p 5 1⟩
  if t.valid then some t else none

/-- A price setting within its range (R42). -/
def PriceSettings.valid (p : PriceSettings) : Bool :=
  [1, 5, 10].contains p.step && p.windowStart.hour ≤ 23 && p.windowStart.minute ≤ 59
    && p.windowEnd.hour ≤ 23 && p.windowEnd.minute ≤ 59
    && p.windowStart.hour * 60 + p.windowStart.minute ≤ p.windowEnd.hour * 60 + p.windowEnd.minute
    && 20 ≤ p.itemPrefix && p.itemPrefix ≤ 29 && 20 ≤ p.orderPrefix && p.orderPrefix ≤ 29

/-- A queue setting within its range (R108). -/
def queueSettingsOk (rollLength rollLow queueLong : Nat) : Bool :=
  1 ≤ rollLength && rollLength ≤ 9999 && 1 ≤ rollLow && rollLow ≤ 9999 && 1 ≤ queueLong
    && queueLong ≤ 99

/-- One complete set of the counter's settings (R144). -/
structure SettingsRequest where
  prices : PriceSettings
  rollLength : Nat
  rollLow : Nat
  queueLong : Nat
  deriving DecidableEq, Repr

/-- SETTINGS WRITE: the settings, absent when any field is refused by its owning block (R144 test 2). -/
def decodeSettings (p : List Byte) : Option SettingsRequest :=
  match Rounding.ofCode (natAt p 0 1) with
  | none => none
  | some r =>
    let prices : PriceSettings :=
      ⟨r, natAt p 1 1, ⟨natAt p 2 1, natAt p 3 1⟩, ⟨natAt p 4 1, natAt p 5 1⟩, natAt p 6 1, natAt p 7 1⟩
    if prices.valid && queueSettingsOk (natAt p 8 2) (natAt p 10 2) (natAt p 12 1) then
      some ⟨prices, natAt p 8 2, natAt p 10 2, natAt p 12 1⟩
    else none

/-- CLERK WRITE: clerk, code and enabled flag, absent when one is outside its range (R63 test 2). -/
def decodeClerkWrite (p : List Byte) : Option (ClerkNo × Nat × Bool) :=
  match decodeClerkOn p, flagAt p 3 with
  | some (c, code), some enabled => some (c, code, enabled)
  | _, _ => none

/-- The bytes of a CLERK WRITE request. -/
def encodeClerkWrite (c : ClerkNo) (code : Nat) (enabled : Bool) : List Byte :=
  encodeClerkOn c code ++ flagByte enabled

/-- PROFILE WRITE: station and profile, absent when one is outside its values (R145 test 2). -/
def decodeProfile (p : List Byte) : Option (StationNo × Profile) :=
  match ofOrdinal 12 (natAt p 0 1), LabelMode.ofCode (natAt p 1 1), flagAt p 2 with
  | some n, some mode, some autoClear => some (n, ⟨mode, autoClear⟩)
  | _, _, _ => none

/-- The bytes of a PROFILE WRITE request. -/
def encodeProfile (n : StationNo) (r : Profile) : List Byte := be 1 (ordinal n) ++ r.bytes

/-- The record a TOTALS READ names (R131). -/
inductive TotalsCategory where
  | counter
  | clerk (c : ClerkNo)
  | station (n : StationNo)
  | department (d : DeptNo)
  | grand
  deriving DecidableEq, Repr

/-- TOTALS READ: category and index, absent when unknown or out of range (R131). -/
def decodeTotals (p : List Byte) : Option TotalsCategory :=
  match natAt p 0 1 with
  | 0 => some .counter
  | 1 => (ofOrdinal 32 (natAt p 1 1)).map .clerk
  | 2 => (ofOrdinal 12 (natAt p 1 1)).map .station
  | 3 => (ofOrdinal 16 (natAt p 1 1)).map .department
  | 4 => some .grand
  | _ => none

/-- The bytes of a TOTALS READ request; the index of COUNTER and GRAND, which is not used, is sent 0. -/
def encodeTotals : TotalsCategory → List Byte
  | .counter => be 1 0 ++ be 1 0
  | .clerk c => be 1 1 ++ be 1 (ordinal c)
  | .station n => be 1 2 ++ be 1 (ordinal n)
  | .department d => be 1 3 ++ be 1 (ordinal d)
  | .grand => be 1 4 ++ be 1 0

/-- A class mask (R183). -/
def maskAt (p : List Byte) : BitVec 16 := BitVec.ofNat 16 (natAt p 0 2)

/-- Masks travel in two bytes (R183). -/
def maskBytes (m : BitVec 16) : List Byte := be 2 m.toNat

/-- SERVICE OPEN: the station, absent when it or the sync word is refused (R160). -/
def decodeServiceOpen (p : List Byte) : Option StationNo :=
  if natAt p 1 2 = Config.syncWord then ofOrdinal 12 (natAt p 0 1) else none

/-- The calibration fields a CAL WRITE carries, each of which may be absent (R166). -/
structure CalChanges where
  z : Option Int
  s : Option Nat
  l : Option Nat
  max1 : Option Nat
  max2 : Option Nat
  e1 : Option Nat
  e2 : Option Nat
  deriving DecidableEq, Repr

/-- An interval is one of 1, 2, 5, 10, 20 g (R1, R166). -/
def intervalOk (e : Nat) : Bool := [1, 2, 5, 10, 20].contains e

/-- The ranges of R166, taken alone. -/
def zOk (z : Int) : Bool := -8388608 ≤ z && z ≤ 8388607
def spanOk (s : Nat) : Bool := 10000 ≤ s && s ≤ 8000000
def loadOk (l : Nat) : Bool := 1000 ≤ l && l ≤ 60000
def max1Ok (m : Nat) : Bool := 1 ≤ m && m ≤ 30000
def max2Ok (m : Nat) : Bool := 1000 ≤ m && m ≤ 30000

/-- Each field present lies in its own range (R166). -/
def CalChanges.valid (c : CalChanges) : Bool :=
  (c.z.map zOk).getD true && (c.s.map spanOk).getD true && (c.l.map loadOk).getD true
    && (c.max1.map max1Ok).getD true && (c.max2.map max2Ok).getD true
    && (c.e1.map intervalOk).getD true && (c.e2.map intervalOk).getD true

/-- CAL WRITE's fields in the order of R166's table, each behind its presence byte. -/
def decodeCalWrite (p : List Byte) : CalChanges where
  z := if presentAt p 0 then some (intAt p 1 3) else none
  s := if presentAt p 4 then some (natAt p 5 3) else none
  l := if presentAt p 8 then some (natAt p 9 2) else none
  max1 := if presentAt p 11 then some (natAt p 12 2) else none
  max2 := if presentAt p 14 then some (natAt p 15 2) else none
  e1 := if presentAt p 17 then some (natAt p 18 1) else none
  e2 := if presentAt p 19 then some (natAt p 20 1) else none

/-- The bytes of a CAL WRITE request. -/
def encodeCalWrite (c : CalChanges) : List Byte :=
  optional 3 (c.z.map (beInt 3)) ++ optional 3 (c.s.map (be 3)) ++ optional 2 (c.l.map (be 2))
    ++ optional 2 (c.max1.map (be 2)) ++ optional 2 (c.max2.map (be 2)) ++ optional 1 (c.e1.map (be 1))
    ++ optional 1 (c.e2.map (be 1))

/-- The four words a KEY CHANGE carries (R169). -/
def decodeKey (p : List Byte) : List Word32 :=
  [natAt p 0 4, natAt p 4 4, natAt p 8 4, natAt p 12 4].map (BitVec.ofNat 32)

/-- The bytes of key words. -/
def encodeKey (ws : List Word32) : List Byte := ws.flatMap fun w => be 4 w.toNat

/-! ## Replies (R177) -/

/-- A reply: its result code and the fields its owning rule names, encoded. -/
structure Reply where
  code : ResultCode
  fields : List Byte
  deriving DecidableEq, Repr

/-- A refusal whose rule names no field is the result code alone (R177). -/
def refusal (c : ResultCode) : Reply := ⟨c, []⟩

/-- An OK reply with its fields. -/
def okReply (fields : List Byte) : Reply := ⟨.ok, fields⟩

/-- A reply's kind code: the request's plus 0x80 (R177). Past 0xFF the sum is no byte: free value, log entry 1. -/
def replyKind (k : Byte) : Byte := if k < 0x80 then k + 0x80 else Config.replyKindPastByte k

/-- The REPLY frame of a request with that kind and tag (R177). -/
def replyFrame (kind tag : Byte) (r : Reply) : TxFrame :=
  ⟨replyKind kind, tag, be 1 r.code.value ++ r.fields⟩

/-- What a request does: the state it leaves and its reply. -/
abbrev Answer := State × Reply

/-- A request refused with the hub's state as it was before (00_scope, Requests and replies). -/
def refuse (s : State) (c : ResultCode) : Answer := (s, refusal c)

/-- The request that the owner of a kind takes from a port, and the state with its place freed: the oldest
of the FIFO, when it is of that kind, RESET is high and the reply lane has room (R146, R177, R178). -/
def State.takeRequest (s : State) (p : Port) (k : RequestKind) : Option (Request × State) :=
  if s.resetLow then none
  else
    match (s.port p).fifo with
    | r :: rest =>
      if r.kind == k.code && decide ((s.port p).replyLane.length < Config.replyLaneFrames) then
        some (r, s.onPort p fun x => { x with fifo := rest })
      else none
    | [] => none

/-- A request taken, carried out or refused, and its REPLY handed to the port's transmit path, all in one
event (R177). Where there is no such request to take, nothing happens (log entry 5). -/
def answer (p : Port) (k : RequestKind) (act : List Byte → State → Answer) (s : State) : Result :=
  match s.takeRequest p k with
  | none => .next s
  | some (r, s1) =>
    finish ((act r.payload s1).1.onPort p (·.pushReply (replyFrame r.kind r.tag (act r.payload s1).2)))

end Sys2Proof.Machine
end

