-- ==== Sys2Proof/Machine/PluTable.lean ====
section
/-! DEFINITION. The PLU table: directory, leaves and lookup, placement and removal, the back office's direct
requests, and a batch entry at activation (R25 to R39). -/

namespace Sys2Proof.Machine

/-! ## Directory and leaves (R25, R26) -/

/-- Directory index of a PLU number (R25). -/
def dirIndex (plu : Nat) : Nat := plu / 32

/-- Slot of a PLU number within its leaf (R25). -/
def slotOf (plu : Nat) : Fin 32 := ⟨plu % 32, Nat.mod_lt _ (by decide)⟩

namespace PluTable

/-- The leaf a directory entry names, if it is present (R25). -/
def leafAt (t : PluTable) (index : Nat) : Option LeafNo :=
  (t.directory.find? fun e => e.1 == index).map (·.2)

/-- The record of a number, if it is in the table (R25). -/
def find (t : PluTable) (plu : Nat) : Option PluRecord :=
  match t.leafAt (dirIndex plu) with
  | none => none
  | some l =>
    match t.pool.get l with
    | none => none
    | some leaf => leaf.get (slotOf plu)

/-- The lowest-numbered free leaf (R26). -/
def freeLeaf (t : PluTable) : Option LeafNo := (List.finRange 64).find? fun l => (t.pool.get l).isNone

/-- The count of free leaves (R26). -/
def freeLeaves (t : PluTable) : Nat := t.pool.rows.countP Option.isNone

/-- The filled slots of a leaf, in slot order. -/
def leafRecords (leaf : Leaf) : List PluRecord := leaf.rows.filterMap id

/-- Every record of the table, in ascending number order. -/
def records (t : PluTable) : List PluRecord :=
  t.directory.flatMap fun e =>
    match t.pool.get e.2 with
    | some leaf => leafRecords leaf
    | none => []

/-- The count of records in the table (R26). -/
def recordCount (t : PluTable) : Nat := t.records.length

/-- A directory with an entry added, by rising index. -/
def addEntry (index : Nat) (l : LeafNo) : List (Nat × LeafNo) → List (Nat × LeafNo)
  | [] => [(index, l)]
  | e :: es => if index < e.1 then (index, l) :: e :: es else e :: addEntry index l es

/-- A record written into its slot of an allocated leaf. -/
def writeSlot (t : PluTable) (l : LeafNo) (leaf : Leaf) (plu : Nat) (r : PluRecord) : PluTable :=
  { t with pool := t.pool.put l (some (leaf.put (slotOf plu) (some r))) }

/-- A record placed: into the leaf its directory entry names, or into the lowest-numbered free leaf; absent
when a leaf is needed and none is free (R26). -/
def place (t : PluTable) (r : PluRecord) : Option PluTable :=
  let plu := r.fields.number
  match t.leafAt (dirIndex plu) with
  | some l => some (t.writeSlot l ((t.pool.get l).getD (Table.fill 32 none)) plu r)
  | none =>
    match t.freeLeaf with
    | none => none
    | some l =>
      some ({ t with directory := addEntry (dirIndex plu) l t.directory }.writeSlot l (Table.fill 32 none)
        plu r)

/-- The record of a number changed by a function, when it is in the table. -/
def update (t : PluTable) (plu : Nat) (f : PluRecord → PluRecord) : PluTable :=
  match t.leafAt (dirIndex plu) with
  | none => t
  | some l =>
    match t.pool.get l with
    | none => t
    | some leaf =>
      match leaf.get (slotOf plu) with
      | none => t
      | some r => t.writeSlot l leaf plu (f r)

/-- The record of a number removed: its slot is emptied, and a leaf left with no record becomes free and its
directory entry absent (R26). -/
def remove (t : PluTable) (plu : Nat) : PluTable :=
  match t.leafAt (dirIndex plu) with
  | none => t
  | some l =>
    match t.pool.get l with
    | none => t
    | some leaf =>
      let rest := leaf.put (slotOf plu) none
      if rest.rows.all Option.isNone then
        { directory := t.directory.filter fun e => e.1 != dirIndex plu, pool := t.pool.put l none }
      else { t with pool := t.pool.put l (some rest) }

/-- Every record changed by a function. -/
def mapRecords (t : PluTable) (f : PluRecord → PluRecord) : PluTable :=
  { t with pool := t.pool.each fun x => x.map fun leaf => leaf.each (Option.map f) }

end PluTable

/-- Period totals that are all zero (R28). -/
def PluTotals.allZero (t : PluTotals) : Bool :=
  t.items == 0 && t.quantity == 0 && t.weight == 0 && t.value == 0

/-- A record in state RETIRED of a generation; every other field stays (R31, R29). -/
def PluRecord.retire (r : PluRecord) (gen : Nat) : PluRecord :=
  { r with state := .retired, changedGen := gen }

/-! ## Lookup for selling (R30) -/

/-- The lookup for selling (R30). -/
def lookupForSale (t : PluTable) (plu : Nat) : Except ResultCode PluRecord :=
  if pluOk plu = false then .error .badValue
  else
    match t.find plu with
    | none => .error .noPlu
    | some r => if r.state = .retired then .error .pluRetired else .ok r

/-! ## The removal step (R31) -/

/-- Whether the removal step removes a record: its totals are all 0 and no item of an open order names it. -/
def State.removable (s : State) (r : PluRecord) : Bool :=
  r.totals.allZero && !s.pluReferenced r.fields.number

/-- The removal step: the record removed, or retired at a generation (R31). -/
def State.removalStep (s : State) (r : PluRecord) (gen : Nat) : State :=
  { s with
    plu :=
      if s.removable r then s.plu.remove r.fields.number
      else s.plu.update r.fields.number (·.retire gen) }

/-! ## Direct requests (R32 to R36) -/

/-- The price generation (R41, R53). -/
def State.generation (s : State) : Nat := s.pricing.generation

/-- The price generation stepped by one (R53). -/
def State.stepGeneration (s : State) : State :=
  { s with pricing := { s.pricing with generation := s.pricing.generation + 1 } }

/-- The counter is trading: OPEN or DRAINING. -/
def State.trading (s : State) : Bool := s.counter.state == .opened || s.counter.state == .draining

/-- The generation can step no more (R53). -/
def State.generationEnded (s : State) : Bool := s.generation == Config.lastGeneration

/-- The free leaves and the records in the table, as the replies carry them (R26). -/
def tableCounts (t : PluTable) : List Byte := be 1 t.freeLeaves ++ be 2 t.recordCount

/-- A record with the selling fields of a request, ACTIVE, its totals kept or all 0 (R33, R28). -/
def writtenRecord (f : PluFields) (prior : Option PluRecord) (gen : Nat) : PluRecord :=
  ⟨f, .active, gen, (prior.map (·.totals)).getD zeroPluTotals⟩

/-- The prior state of a number, NONE, ACTIVE or RETIRED, in its code (R33, R183). -/
def priorCode : Option PluRecord → Nat
  | none => 0
  | some r => if r.state = .active then 1 else 2

/-- A PLU WRITE request (R32, R33). -/
def pluWriteRequest (p : List Byte) (s : State) : Answer :=
  if s.trading then refuse s .refusedState
  else
    match pluFieldsAt p 0 with
    | none => refuse s .badValue
    | some f =>
      match s.plu.place (writtenRecord f (s.plu.find f.number) (s.generation + 1)) with
      | none => refuse s .tableFull
      | some t =>
        if s.generationEnded then refuse s .refusedState
        else
          (({ s with plu := t }).stepGeneration,
            okReply (be 1 (priorCode (s.plu.find f.number)) ++ be 4 (s.generation + 1) ++ tableCounts t))

/-- PLU WRITE (R32, R33). -/
def execPluWrite (s : State) : Result := answer .b .pluWrite pluWriteRequest s

/-- A PLU REMOVE request (R34). -/
def pluRemoveRequest (p : List Byte) (s : State) : Answer :=
  let plu := natAt p 0 3
  if s.trading then refuse s .refusedState
  else if pluOk plu = false then refuse s .badValue
  else
    match s.plu.find plu with
    | none => refuse s .noPlu
    | some r =>
      if s.generationEnded then refuse s .refusedState
      else
        let s' := (s.removalStep r (s.generation + 1)).stepGeneration
        (s', okReply (be 1 (if s.removable r then 0 else 1) ++ be 4 (s.generation + 1) ++ tableCounts s'.plu))

/-- PLU REMOVE (R34). -/
def execPluRemove (s : State) : Result := answer .b .pluRemove pluRemoveRequest s

/-- Whether the removal step changes a record: it is removed, or it is ACTIVE and becomes RETIRED (R35). -/
def State.wipeChanges (s : State) (r : PluRecord) : Bool := s.removable r || r.state == .active

/-- The removal step of PLU WIPE on one record: one that is already RETIRED and stays so keeps its
changed_gen (R35). -/
def State.wipeStep (s : State) (r : PluRecord) : State :=
  if s.wipeChanges r then s.removalStep r (s.generation + 1) else s

/-- A PLU WIPE request (R35). -/
def pluWipeRequest (_ : List Byte) (s : State) : Answer :=
  if s.trading then refuse s .refusedState
  else
    let all := s.plu.records
    if s.generationEnded && all.any fun r => r.totals.allZero || r.state == .active then
      refuse s .refusedState
    else
      let removed := all.countP s.removable
      let retired := all.countP fun r => s.wipeChanges r && !s.removable r
      let wiped := all.foldl State.wipeStep s
      let s' := if removed + retired = 0 then wiped else wiped.stepGeneration
      (s', okReply (be 2 removed ++ be 2 retired ++ be 4 s'.generation ++ tableCounts s'.plu))

/-- PLU WIPE (R35). -/
def execPluWipe (s : State) : Result := answer .b .pluWipe pluWipeRequest s

/-- The record a PLU READ finds: that of the number (EXACT, mode 0) or the lowest at or above it (NEXT) (R36). -/
def PluTable.search (t : PluTable) (plu : Nat) (next : Bool) : Option PluRecord :=
  if next then t.records.find? fun r => plu ≤ r.fields.number else t.find plu

/-- A PLU READ request (R36); a search mode that is neither EXACT nor NEXT is out of its values (log entry 7). -/
def pluReadRequest (p : List Byte) (s : State) : Answer :=
  let plu := natAt p 0 3
  match flagAt p 3 with
  | none => refuse s .badValue
  | some next =>
    if pluOk plu = false then refuse s .badValue
    else
      match s.plu.search plu next with
      | none => refuse s .noPlu
      | some r =>
        (s, okReply (r.fields.bytes ++ be 1 r.state.code ++ be 4 r.changedGen ++ r.totals.bytes
          ++ be 4 s.generation ++ tableCounts s.plu))

/-- PLU READ (R36). -/
def execPluRead (s : State) : Result := answer .b .pluRead pluReadRequest s

/-! ## Batch entries at activation (R37) -/

/-- The number a batch entry names (R54). -/
def BatchEntry.plu : BatchEntry → Nat
  | .change plu _ _ _ => plu
  | .new f => f.number
  | .retire plu => plu

/-- A record with the fields of a CHANGE (R37). -/
def PluRecord.changed (r : PluRecord) (price markdown : Nat) (d : Option (List Byte)) (gen : Nat) : PluRecord :=
  { r with
    fields := { r.fields with unitPrice := price, markdown := markdown, description := d.getD r.fields.description }
    changedGen := gen }

/-- One batch entry applied to the table at a provisional generation, or the reason it is skipped (R37). -/
def State.applyEntry (s : State) (e : BatchEntry) (gen : Nat) : Except ResultCode State :=
  match e with
  | .change plu price markdown d =>
    match s.plu.find plu with
    | none => .error .noPlu
    | some _ => .ok { s with plu := s.plu.update plu fun r => r.changed price markdown d gen }
  | .new f =>
    match s.plu.find f.number with
    | some _ => .error .exists
    | none =>
      match s.plu.place (writtenRecord f none gen) with
      | none => .error .tableFull
      | some t => .ok { s with plu := t }
  | .retire plu =>
    match s.plu.find plu with
    | none => .error .noPlu
    | some r => .ok (s.removalStep r gen)

/-! ## Z-close and power-on (R38, R39) -/

/-- Every RETIRED record removed (R38). -/
def PluTable.dropRetired (t : PluTable) : PluTable :=
  (t.records.filter fun r => r.state == .retired).foldl (fun t r => t.remove r.fields.number) t

end Sys2Proof.Machine
end

