-- ==== Sys2Proof/Machine/Totals.lean ====
section
/-! DEFINITION. The totals store: accumulation at order close, the further counts, X reading, Z-close and the
report buffer (R124 to R137). -/

namespace Sys2Proof.Machine

/-! ## Accumulating (R126 to R129) -/

namespace State

/-- The totals store changed by a function. -/
def onTotals (s : State) (f : TotalsStore → TotalsStore) : State := { s with totals := f s.totals }

/-- The counter's period record changed by a function. -/
def onCounterTotals (s : State) (f : CounterTotals → CounterTotals) : State :=
  s.onTotals fun t => { t with counter := f t.counter }

/-- An order opened: the open-order count steps up (R126). -/
def countOpened (s : State) : State := s.onTotals fun t => { t with openOrders := t.openOrders + 1 }

end State

/-- A PLU record's totals with one CONFIRMED item added; the item's own kind decides (R127, R125). -/
def PluTotals.addItem (t : PluTotals) (i : Item) : PluTotals :=
  match i.kind with
  | .byWeight =>
    { t with
      items := addCount t.items 1, weight := addValue t.weight i.amount, value := addValue t.value i.price }
  | .byCount =>
    { t with
      items := addCount t.items 1, quantity := addCount t.quantity i.amount
      value := addValue t.value i.price }

/-- One CONFIRMED item added to its PLU record and to the department that record names (R127). -/
def State.accumulateItem (s : State) (i : Item) : State :=
  match s.plu.find i.plu with
  | none => s
  | some r =>
    let d := r.fields.department
    let x := s.totals.departments.get d
    { s with
      plu := s.plu.update i.plu fun r => { r with totals := r.totals.addItem i }
      totals :=
        { s.totals with
          departments :=
            s.totals.departments.put d ⟨addCount x.items 1, addValue x.value i.price⟩ } }

/-- A clerk's record with a closed order added (R127). -/
def ClerkTotals.addOrder (t : ClerkTotals) (o : Order) : ClerkTotals :=
  { orders := addCount t.orders 1
    items := addCount t.items (o.inState .confirmed).length
    value := addValue t.value (o.valueOf .confirmed)
    voidedCount := addCount t.voidedCount (o.inState .voided).length
    voidedValue := addValue t.voidedValue (o.valueOf .voided) }

/-- The counter's record with a closed order added (R127). -/
def CounterTotals.addOrder (t : CounterTotals) (o : Order) : CounterTotals :=
  { t with
    orders := addCount t.orders 1
    items := addCount t.items (o.inState .confirmed).length
    value := addValue t.value (o.valueOf .confirmed)
    voidedCount := addCount t.voidedCount (o.inState .voided).length
    voidedValue := addValue t.voidedValue (o.valueOf .voided) }

/-- The store's records for the order as a whole: clerk, holder station, counter, GT and open-order count (R127). -/
def TotalsStore.addOrder (t : TotalsStore) (c : ClerkNo) (n : StationNo) (o : Order) : TotalsStore :=
  { t with
    counter := t.counter.addOrder o
    clerks := t.clerks.put c ((t.clerks.get c).addOrder o)
    stations :=
      t.stations.put n
        { t.stations.get n with value := addValue (t.stations.get n).value (o.valueOf .confirmed) }
    gt := addValue t.gt (o.valueOf .confirmed)
    openOrders := t.openOrders - 1 }

/-- An order closed at the PRINT DONE of its total label accumulates: its CONFIRMED items in ascending item
number, then the order as a whole (R127). -/
def State.accumulate (s : State) (c : ClerkNo) (n : StationNo) (o : Order) : State :=
  ((o.inState .confirmed).foldl State.accumulateItem s).onTotals fun t => t.addOrder c n o

/-- An order closed empty: one empty order, and the open-order count steps down (R128). -/
def State.countEmpty (s : State) : State :=
  s.onTotals fun t =>
    { t with
      counter := { t.counter with emptyOrders := addCount t.counter.emptyOrders 1 }
      openOrders := t.openOrders - 1 }

/-- An ITEM or TOTAL label printed at a station (R129). -/
def State.countLabel (s : State) (n : StationNo) : State :=
  s.onTotals fun t =>
    { t with
      stations :=
        t.stations.put n { t.stations.get n with labels := addCount (t.stations.get n).labels 1 } }

/-- A REPRINT label printed at a station (R129). -/
def State.countReprint (s : State) (n : StationNo) : State :=
  s.onTotals fun t =>
    { t with
      stations :=
        t.stations.put n { t.stations.get n with reprints := addCount (t.stations.get n).reprints 1 } }

/-- A queue call and its wait (R115, R129). -/
def State.countCall (s : State) (wait : Nat) : State :=
  s.onCounterTotals fun t =>
    { t with queueCalls := addCount t.queueCalls 1, waitSum := addCount t.waitSum wait }

/-! ## X reading (R131) -/

/-- Report-buffer state, EMPTY or FULL, in its code. -/
def bufferCode (t : TotalsStore) : Nat := if t.report.isNone then 0 else 1

/-- The record a TOTALS READ returns, behind its category as the form of the reply (R131, R183; log entry 6). -/
def totalsRecord (t : TotalsStore) : TotalsCategory → List Byte
  | .counter => be 1 0 ++ t.counter.bytes
  | .clerk c => be 1 1 ++ (t.clerks.get c).bytes
  | .station n => be 1 2 ++ (t.stations.get n).bytes
  | .department d => be 1 3 ++ (t.departments.get d).bytes
  | .grand =>
    be 1 4 ++ be 6 t.gt ++ be 6 t.gtLast ++ be 2 t.z ++ optionalTime t.periodStart ++ be 1 t.openOrders
      ++ be 1 (bufferCode t)

/-- A TOTALS READ request (R131). -/
def totalsReadRequest (p : List Byte) (s : State) : Answer :=
  match decodeTotals p with
  | none => refuse s .badValue
  | some k =>
    (s, okReply (totalsRecord s.totals k ++ be 2 s.totals.z ++ optionalTime s.totals.periodStart
      ++ s.clock.bytes))

/-- TOTALS READ (R131). -/
def execTotalsRead (s : State) : Result := answer .b .totalsRead totalsReadRequest s

/-! ## Z-close (R132 to R135) -/

/-- The report entry of a PLU record (R133). -/
def pluEntry (r : PluRecord) : ReportRecord :=
  .plu r.fields.number r.fields.description r.fields.kind r.fields.department r.state r.totals

/-- The PLU entries of a report: each record whose totals are not all zero, by ascending number (R133). -/
def pluEntries (t : PluTable) : List ReportRecord :=
  (t.records.filter fun r => !r.totals.allZero).map pluEntry

/-- The records of a Z-close's report, index 1 first (R133). -/
def reportRecords (s : State) : List ReportRecord :=
  let t := s.totals
  let entries := pluEntries s.plu
  [.header t.z t.periodStart s.clock t.gt t.gtLast (62 + entries.length), .counter t.counter]
    ++ t.clerks.rows.map .clerk ++ t.stations.rows.map .station ++ t.departments.rows.map .department
    ++ entries

/-- The Z number after one step, from 9,999 to 1 (R134). -/
def nextZ (z : Nat) : Nat := if z = Config.lastZ then 1 else z + 1

/-- The Z-close: the report buffer filled, the periods zeroed, RETIRED records removed, the Z number stepped,
the queue's next number set to 1 and REPORT_READY raised (R133, R134, R38, R121). -/
def State.zClose (s : State) : State :=
  ({ s with
    totals :=
      { s.totals with
        counter := zeroCounterTotals
        clerks := Table.fill 32 zeroClerkTotals
        stations := Table.fill 12 zeroStationTotals
        departments := Table.fill 16 zeroDeptTotals
        gtLast := s.totals.gt
        periodStart := some s.clock
        z := nextZ s.totals.z
        report := some ⟨s.totals.z, reportRecords s⟩ }
    plu := (s.plu.mapRecords fun r => { r with totals := zeroPluTotals }).dropRetired
    queue := { s.queue with nextNumber := 1 } } : State).raise .reportReady {}

/-- A Z-CLOSE request (R132, R134). -/
def zCloseRequest (_ : List Byte) (s : State) : Answer :=
  match firstOf [(s.counter.state != .closed, .refusedState), (s.totals.report.isSome, .reportPending)] with
  | some c => refuse s c
  | none =>
    (s.zClose, okReply (be 2 s.totals.z ++ be 2 (nextZ s.totals.z) ++ be 2 (reportRecords s).length
      ++ be 6 s.totals.gt))

/-- Z-CLOSE (R132 to R134). -/
def execZClose (s : State) : Result := answer .b .zClose zCloseRequest s

/-! ## The report buffer (R136, R137) -/

/-- A REPORT READ request (R136). -/
def reportReadRequest (p : List Byte) (s : State) : Answer :=
  match s.totals.report with
  | none => refuse s .refusedState
  | some r =>
    let i := natAt p 0 2
    if i = 0 then refuse s .badValue
    else
      match r.records[i - 1]? with
      | none => refuse s .badValue
      | some x => (s, okReply (be 2 i ++ x.bytes ++ be 2 r.z ++ be 2 r.records.length))

/-- REPORT READ (R136). -/
def execReportRead (s : State) : Result := answer .b .reportRead reportReadRequest s

/-- A REPORT RELEASE request (R137). -/
def reportReleaseRequest (_ : List Byte) (s : State) : Answer :=
  (s.onTotals fun t => { t with report := none },
    okReply (optional 2 (s.totals.report.map fun r => be 2 r.z)))

/-- REPORT RELEASE (R137). -/
def execReportRelease (s : State) : Result := answer .b .reportRelease reportReleaseRequest s

end Sys2Proof.Machine
end

