-- ==== Sys2Proof/Machine/Queue.lean ====
section
/-! DEFINITION. The queue unit controller: issuing tickets, the roll, releasing a serving number, calling and
recalling, goods against a ticket, and the end of the day (R107 to R123). -/

namespace Sys2Proof.Machine

/-! ## Issuing tickets (R109 to R111) -/

/-- A ticket number in use: waiting, being served by some clerk, or missed (R109). -/
def QueueUnit.inUse (q : QueueUnit) (k : Nat) : Bool :=
  q.waiting.any (·.number == k) || q.serving.rows.any (fun r => (r.map (·.number)) == some k)
    || q.missed.any (·.number == k)

/-- A ticket number after one step, from 99 to 1 (R110). -/
def nextTicket (k : Nat) : Nat := if k = Config.lastTicket then 1 else k + 1

/-- A notice raised when a condition holds. -/
def State.raiseIf (s : State) (cond : Bool) (c : NoticeClass) : State := if cond then s.raise c {} else s

/-- One ticket issued, with the notices its counts raise (R110). -/
def State.issueTicket (s : State) : State :=
  let q := s.queue
  let s1 : State :=
    { s with
      queue :=
        { q with
          waiting := q.waiting ++ [⟨q.nextNumber, s.clock⟩]
          nextNumber := nextTicket q.nextNumber
          roll := q.roll - 1
          blocked := false } }
  ((s1.raiseIf (q.roll - 1 == q.rollLow) .rollLow).raiseIf (q.roll - 1 == 0) .rollEmpty).raiseIf
    (q.waiting.length + 1 == q.queueLong) .queueLong

/-- A refusal DISPENSER_BLOCKED: the first of an episode sets the blocked flag and raises the notice (R109). -/
def State.blockDispenser (s : State) : State :=
  if s.queue.blocked then s
  else ({ s with queue := { s.queue with blocked := true } } : State).raise .dispenserBlocked {}

/-- A TAKE request (R109, R110). -/
def takeTicketRequest (_ : List Byte) (s : State) : Answer :=
  let q := s.queue
  if s.counter.state ≠ .opened then refuse s .queueClosed
  else if q.roll = 0 then refuse s .rollEmpty
  else if q.inUse q.nextNumber then (s.blockDispenser, refusal .dispenserBlocked)
  else
    (s.issueTicket,
      okReply (be 1 q.nextNumber ++ be 1 q.waiting.length ++ s.clock.bytes ++ be 2 (q.roll - 1)))

/-- TAKE (R109, R110). -/
def execTake (s : State) : Result := answer .q .take takeTicketRequest s

/-- A ROLL LOADED request (R111). -/
def rollLoadedRequest (_ : List Byte) (s : State) : Answer :=
  (({ s with queue := { s.queue with roll := s.queue.rollLength } } : State).raiseIf
      (decide (s.queue.rollLength ≤ s.queue.rollLow)) .rollLow,
    okReply (be 2 s.queue.rollLength))

/-- ROLL LOADED (R111). -/
def execRollLoaded (s : State) : Result := answer .q .rollLoaded rollLoadedRequest s

/-! ## Releasing a serving number (R112, R119) -/

/-- A missed list with an entry placed at its head; at 8 held, the tail is removed first (R112). -/
def addMissed (m : Missed) (l : List Missed) : List Missed := m :: l.take (Config.missedPlaces - 1)

/-- A clerk's serving number released: served when goods were confirmed for it, missed otherwise (R112). -/
def State.releaseServing (s : State) (c : ClerkNo) : State :=
  match s.serving c with
  | none => s
  | some r =>
    let s1 := s.setServing c none
    if r.hadGoods then s1
    else { s1 with queue := { s1.queue with missed := addMissed ⟨r.number, r.issued, r.called⟩ s1.queue.missed } }

/-- Goods confirmed for a clerk and a queue number: had-goods is set when the clerk's serving record still has
that number (R118). -/
def State.goodsConfirmed (s : State) (c : ClerkNo) (queueNumber : Option Nat) : State :=
  match queueNumber, s.serving c with
  | some k, some r => if r.number = k then s.setServing c (some { r with hadGoods := true }) else s
  | _, _ => s

/-! ## Calling (R113 to R117, R122) -/

/-- The wait of a ticket from issue to call, held within 0 and 65,535 s (R115). -/
def waitOf (issued called : DateTime) : Nat := min (called.seconds - issued.seconds) Config.waitLimit

/-- A DISPLAY push sent on link Q: action 1 CALL or 2 RECALL, number, station (R122, R179). -/
def State.display (s : State) (action k : Nat) (n : StationNo) : State :=
  s.onPort .q (·.pushDisplay ⟨displayKind, 0, be 1 action ++ be 1 k ++ be 1 (ordinal n)⟩)

/-- The oldest ticket called for a clerk at a station (R114). -/
def State.callTicket (s : State) (c : ClerkNo) (n : StationNo) (t : Ticket) (rest : List Ticket) : State :=
  ((({ s with queue := { s.queue with waiting := rest } } : State).setServing c
      (some ⟨t.number, t.issued, s.clock, false⟩)).countCall (waitOf t.issued s.clock)).display 1 t.number n

/-- The queue gives no ticket and takes no call outside OPEN (R109, R113, R117). -/
def queueClosedTest (s : State) : Bool × ResultCode := (s.counter.state != .opened, .queueClosed)

/-- A CALL NEXT request: the release, then the oldest ticket; QUEUE_EMPTY leaves the release made (R113, R114). -/
def callNextRequest (n : StationNo) (_ : List Byte) (s : State) : Answer :=
  match firstOf (linkTests s n ++ [((s.boundClerk n).isNone, .noClerk), queueClosedTest s]), s.boundClerk n with
  | some e, _ => refuse s e
  | none, none => refuse s .noClerk
  | none, some c =>
    let s1 := s.releaseServing c
    match s1.queue.waiting with
    | [] => (s1, refusal .queueEmpty)
    | t :: rest =>
      (s1.callTicket c n t rest,
        okReply (be 1 t.number ++ t.issued.bytes ++ be 2 (waitOf t.issued s.clock) ++ be 1 rest.length))

/-- CALL NEXT (R113, R114). -/
def execCallNext (n : StationNo) (s : State) : Result := answer (.s n) .callNext (callNextRequest n) s

/-- A RECALL request (R116). -/
def recallRequest (n : StationNo) (_ : List Byte) (s : State) : Answer :=
  match firstOf (linkTests s n), s.boundClerk n with
  | some e, _ => refuse s e
  | none, none => refuse s .noClerk
  | none, some c =>
    match s.serving c with
    | none => refuse s .notServing
    | some r => (s.display 2 r.number n, okReply (be 1 r.number))

/-- RECALL (R116). -/
def execRecall (n : StationNo) (s : State) : Result := answer (.s n) .recall (recallRequest n) s

/-- A missed number recalled for a clerk at a station: it leaves the missed list, the clerk's present number is
released, and it becomes the clerk's serving record (R117). -/
def State.recallNumber (s : State) (c : ClerkNo) (n : StationNo) (m : Missed) : State :=
  let s1 : State :=
    { s with queue := { s.queue with missed := s.queue.missed.filter fun x => x.number != m.number } }
  ((s1.releaseServing c).setServing c (some ⟨m.number, m.issued, s.clock, false⟩)).display 2 m.number n

/-- A RECALL MISSED request (R117). -/
def recallMissedRequest (n : StationNo) (p : List Byte) (s : State) : Answer :=
  let k := natAt p 0 1
  let tests :=
    linkTests s n ++
      [(!(decide (1 ≤ k) && decide (k ≤ Config.lastTicket)), .badValue),
        ((s.boundClerk n).isNone, .noClerk), queueClosedTest s]
  match firstOf tests, s.boundClerk n with
  | some e, _ => refuse s e
  | none, none => refuse s .noClerk
  | none, some c =>
    match s.queue.missed.find? fun x => x.number == k with
    | none => refuse s .notMissed
    | some m => (s.recallNumber c n m, okReply (be 1 m.number ++ m.issued.bytes ++ m.called.bytes))

/-- RECALL MISSED (R117). -/
def execRecallMissed (n : StationNo) (s : State) : Result :=
  answer (.s n) .recallMissed (recallMissedRequest n) s

/-! ## Entry to CLOSED (R120) -/

/-- The queue as every entry to CLOSED leaves it (R120). -/
def QueueUnit.closed (q : QueueUnit) : QueueUnit :=
  { q with waiting := [], missed := [], serving := Table.fill 32 none, blocked := false }

end Sys2Proof.Machine
end

