-- ==== Sys2Proof/Machine/Weighing.lean ====
section
/-! DEFINITION. The weighing engine: from count to displayed weight, stability, zero, tare, the pricing
read, and weighing in SERVICE (R1 to R24). -/

namespace Sys2Proof.Machine

/-! ## From count to milligrams (R3 to R6) -/

/-- The checks of SERVICE CLOSE on a calibration, in R170's order; R1 states the same for a SET record. -/
def CalFields.checks (c : CalFields) : List Bool :=
  [zOk c.z, spanOk c.s, loadOk c.l, max1Ok c.max1, max2Ok c.max2, intervalOk c.e1, intervalOk c.e2,
    c.max1 ≤ c.max2, c.e1 ≤ c.e2, c.max1 != c.max2 || c.e2 == c.e1, c.max1 ≤ 6000 * c.e1,
    c.max2 ≤ 6000 * c.e2]

/-- A calibration that passes every check of R170. -/
def CalFields.valid (c : CalFields) : Bool := c.checks.all id

/-- The sample's m: the count above the calibration zero in mg, rounded once and saturated (R3). -/
def CalFields.mass (c : CalFields) (count : Int) : Int :=
  clampTo 99999999 (roundHalfAway ((count - c.z) * ((c.l * 1000 : Nat) : Int)) c.s)

/-- The interval a value in mg is shown in (R5). -/
def CalFields.interval (c : CalFields) (v : Int) : Nat :=
  if v ≤ ((c.max1 * 1000 : Nat) : Int) then c.e1 else c.e2

/-- The displayed weight of a value in mg, in whole g (R6). -/
def CalFields.shown (c : CalFields) (v : Int) : Int :=
  roundHalfAway v (c.interval v * 1000) * (c.interval v : Int)

/-- The overload limit in mg gross (R1, R4). -/
def CalFields.overLimit (c : CalFields) : Int := (((c.max2 + 9 * c.e2) * 1000 : Nat) : Int)

/-- The underload limit in mg gross (R1, R4). -/
def CalFields.underLimit (c : CalFields) : Int := -((20 * c.e1 * 1000 : Nat) : Int)

/-- A gross value in range; each limit is itself in range (R4). -/
def CalFields.inRange (c : CalFields) (gross : Int) : Bool :=
  decide (c.underLimit ≤ gross) && decide (gross ≤ c.overLimit)

/-- The value of a station tare in mg, 0 when absent (R5). -/
def tareMg (t : Option StationTare) : Int := ((t.map (·.mg)).getD 0 : Nat)

/-- The reading of an m against a zero and a station tare (R4, R5); an absent zero counts as 0. -/
def readingOf (m : Int) (zero : Option Int) (tare : Option StationTare) : Reading :=
  ⟨m, m - zero.getD 0, m - zero.getD 0 - tareMg tare⟩

/-- The weighing state a sample's gross value gives (R4). -/
def stateOf (c : CalFields) (zero : Option Int) (gross : Int) : WeighState :=
  if zero.isNone then .noZero
  else if c.overLimit < gross then .overload
  else if gross < c.underLimit then .underload
  else .weighing

/-! ## Stability (R7) -/

/-- A window with one entry appended, the oldest removed first when it holds 6 (R7). -/
def pushEntry (w : List WindowEntry) (e : WindowEntry) : List WindowEntry :=
  (if w.length < Config.windowEntries then w else w.tail) ++ [e]

/-- The largest of some values minus the smallest; 0 of none. -/
def spread : List Int → Int
  | [] => 0
  | x :: xs => xs.foldl max x - xs.foldl min x

/-- The window is stable: 6 entries, each with a gross value, within half the newest's interval (R7). -/
def windowStable (c : CalFields) (w : List WindowEntry) : Bool :=
  w.length == Config.windowEntries && w.all (·.gross.isSome)
    && spread (w.filterMap (·.gross)) ≤
      ((c.interval ((w.getLast?.bind (·.gross)).getD 0) * 500 : Nat) : Int)

/-! ## Processing one sample (R9, R11, R12, R17) -/

/-- The candidate zero of tracking, clamped to the zero band about the initial zero (R12). -/
def clampZero (c : CalFields) (initial m : Int) : Int :=
  let band : Int := ((c.max2 * 20 : Nat) : Int)
  if initial + band < m then initial + band else if m < initial - band then initial - band else m

/-- The at most one adjustment of R9 step 3, on the context with the sample's entry appended: initial zero
capture (R11), else auto-clear of the station tare (R17), else zero tracking (R12). -/
def adjust (c : CalFields) (autoClear : Bool) (r : Reading) (x : WeighContext) : WeighContext :=
  let stable := windowStable c x.window
  let empty : Bool := r.gross.natAbs ≤ c.e1 * 500
  match x.state with
  | .noZero =>
    if stable && decide (r.m.natAbs ≤ c.max2 * 100) then
      { x with initialZero := some r.m, zero := some r.m, zeroLimit := false }
    else x
  | .weighing =>
    if autoClear && x.tare.isSome && x.tareUsed && stable && empty then
      { x with tare := none, tareUsed := false }
    else if stable && x.tare.isNone && empty then
      let candidate := clampZero c (x.initialZero.getD 0) r.m
      { x with zero := some candidate, zeroLimit := candidate != r.m }
    else x
  | _ => x

/-- One sample of an ENROLLED station whose calibration is SET: steps 1 to 5 of R9. -/
def weighSample (c : CalFields) (autoClear : Bool) (count : Int) (x : WeighContext) : WeighContext :=
  let m := c.mass count
  let r := readingOf m x.zero x.tare
  let y : WeighContext :=
    { x with
      state := stateOf c x.zero r.gross, window := pushEntry x.window ⟨count, some r.gross⟩,
      newest := some r }
  let z := adjust c autoClear r y
  if z.zero = x.zero ∧ z.tare = x.tare then z
  else
    let r' := readingOf m z.zero z.tare
    { z with state := stateOf c z.zero r'.gross, window := [⟨count, some r'.gross⟩], newest := some r' }

/-! ## The WEIGHT push (R10, R181) -/

/-- The 15-byte payload of a WEIGHT push: state code, STABLE, ZERO_LIMIT, the gross and net values in mg when
present, the station tare when present (R10, R181). -/
def weightPayload (c : CalFields) (code : Nat) (stable zeroLimit : Bool) (weights : Option (Int × Int))
    (tare : Option StationTare) : List Byte :=
  be 1 code
    ++ be 1 ((if stable then 1 else 0) + (if zeroLimit then 2 else 0) + (if weights.isSome then 4 else 0)
        + (if tare.isSome then 8 else 0))
    ++ (match weights with
        | some (gross, net) =>
          beInt 4 (c.shown gross) ++ be 1 (c.interval gross) ++ beInt 4 (c.shown net)
            ++ be 1 (c.interval net)
        | none => List.replicate 10 0)
    ++ be 2 ((tare.map (·.mg / 1000)).getD 0) ++ be 1 ((tare.map (·.origin.code)).getD 0)

/-- The push of an ENROLLED station's sample, from the context the sample left (R10). -/
def weightOf (r : CalRecord) (x : WeighContext) : List Byte :=
  match x.state with
  | .noCal => weightPayload r.fields x.state.code false false none none
  | st =>
    weightPayload r.fields st.code (st == .weighing && windowStable r.fields x.window)
      (st != .noZero && x.zeroLimit)
      ((x.newest.filter fun v => r.fields.inRange v.gross).map fun v => (v.gross, v.net)) x.tare

/-- One sample of an ENROLLED station (R9). -/
def enrolledSample (r : CalRecord) (autoClear : Bool) (count : Int) (x : WeighContext) : WeighContext :=
  if r.isSet then weighSample r.fields autoClear count x
  else { x with state := .noCal, window := pushEntry x.window ⟨count, none⟩, newest := none }

/-- The staged calibration of a station in SERVICE (R21). -/
def State.staged (s : State) (n : StationNo) : CalFields :=
  match s.lock.session with
  | .opened st staged _ => if st = n then staged else zeroCal
  | _ => zeroCal

/-- The window entry of a sample weighed with the staged calibration, a zero of 0 and no tare (R21). -/
def serviceEntry (c : CalFields) (count : Int) : WindowEntry :=
  ⟨count, if c.valid then some (c.mass count) else none⟩

/-- The push of a SERVICE station's sample, from the window it left (R21). -/
def serviceWeight (c : CalFields) (w : List WindowEntry) : List Byte :=
  weightPayload c 5 (windowStable c w) false
    (((w.getLast?.bind (·.gross)).filter c.inRange).map fun g => (g, g)) none

/-- A push handed to a station's state lane (R178). -/
def State.pushToStation (s : State) (n : StationNo) (kind : Byte) (payload : List Byte) : State :=
  s.onPort (.s n) (·.pushState ⟨kind, 0, payload⟩)

/-- A SAMPLE report reaches the weighing engine (R9, R21). -/
def State.sample (s : State) (n : StationNo) (count : Int) : State :=
  match s.link n with
  | .absent => s
  | .service =>
    let c := s.staged n
    let x := { s.context n with window := pushEntry (s.context n).window (serviceEntry c count) }
    (s.setContext n x).pushToStation n weightKind (serviceWeight c x.window)
  | .enrolled =>
    let x := enrolledSample (s.calibration n) (s.profile n).autoClear count (s.context n)
    (s.setContext n x).pushToStation n weightKind (weightOf (s.calibration n) x)

/-- SAMPLE: a station's report arrives (R9); it counts as a frame for the silence timer. -/
def execSample (n : StationNo) (count : Int) (s : State) : Result :=
  unlessReset s fun s => (s.goodFrame (.s n)).sample n count

/-! ## Zero and tare requests (R13 to R16, R24) -/

/-- Whether a station's window is stable under its calibration in force. -/
def State.stable (s : State) (n : StationNo) : Bool :=
  windowStable (s.calibration n).fields (s.context n).window

/-- The tests of a ZERO request (R13). -/
def zeroTests (s : State) (n : StationNo) : List (Bool × ResultCode) :=
  let x := s.context n
  let c := s.calibration n
  linkTests s n ++
    [(!c.isSet, .noCal), (x.state == .noZero, .noZero), (!s.stable n, .notStable),
      (decide (c.fields.max2 * 20 < ((x.newest.map (·.m)).getD 0 - x.initialZero.getD 0).natAbs), .outOfRange),
      (x.tare.isSome, .tareActive)]

/-- A ZERO request (R13). -/
def zeroRequest (n : StationNo) (_ : List Byte) (s : State) : Answer :=
  match firstOf (zeroTests s n) with
  | some c => refuse s c
  | none =>
    let x := s.context n
    (s.setContext n
      { x with zero := some ((x.newest.map (·.m)).getD 0), zeroLimit := false, window := [] }, okReply [])

/-- ZERO (R13). -/
def execZero (n : StationNo) (s : State) : Result := answer (.s n) .zero (zeroRequest n) s

/-- The refusals by weighing state NO_ZERO, OVERLOAD or UNDERLOAD, each under that state's name (R14, R18). -/
def stateTests (st : WeighState) : List (Bool × ResultCode) :=
  [(st == .noZero, .noZero), (st == .overload, .overload), (st == .underload, .underload)]

/-- The gross_mg of a station's newest sample (R2). -/
def WeighContext.gross (x : WeighContext) : Int := (x.newest.map (·.gross)).getD 0

/-- A gross value in mg rounded to e1, in g (R14). -/
def keyTare (c : CalFields) (gross : Int) : Nat := (roundHalfAway gross (c.e1 * 1000)).toNat * c.e1

/-- The tests of a TARE KEY request (R14). -/
def tareKeyTests (s : State) (n : StationNo) : List (Bool × ResultCode) :=
  let x := s.context n
  let c := s.calibration n
  linkTests s n ++ [(!c.isSet, .noCal)] ++ stateTests x.state ++
    [(!s.stable n, .notStable), (decide (x.gross ≤ 0), .outOfRange),
      (keyTare c.fields x.gross == 0, .outOfRange),
      (decide (c.fields.max1 < keyTare c.fields x.gross), .tareLimit)]

/-- The context with a station tare of that many g entered (R14, R15). -/
def WeighContext.withTare (x : WeighContext) (g : Nat) (origin : TareOrigin) : WeighContext :=
  { x with tare := some ⟨g * 1000, origin⟩, tareUsed := false, window := [] }

/-- A TARE KEY request (R14). -/
def tareKeyRequest (n : StationNo) (_ : List Byte) (s : State) : Answer :=
  match firstOf (tareKeyTests s n) with
  | some c => refuse s c
  | none =>
    let g := keyTare (s.calibration n).fields (s.context n).gross
    (s.setContext n ((s.context n).withTare g .key), okReply (be 2 g))

/-- TARE KEY (R14). -/
def execTareKey (n : StationNo) (s : State) : Result := answer (.s n) .tareKey (tareKeyRequest n) s

/-- A tare in g rounded to e1 with halves up (R15, R18). -/
def tareRounded (c : CalFields) (g : Nat) : Nat := roundHalfUp g c.e1 * c.e1

/-- The tests of a TARE SET request of `g` g (R15). -/
def tareSetTests (s : State) (n : StationNo) (g : Nat) : List (Bool × ResultCode) :=
  let c := s.calibration n
  linkTests s n ++
    [(!c.isSet, .noCal), (decide (30000 < g), .badValue), (tareRounded c.fields g == 0, .badValue),
      (decide (c.fields.max1 < tareRounded c.fields g), .tareLimit)]

/-- A TARE SET request (R15). -/
def tareSetRequest (n : StationNo) (p : List Byte) (s : State) : Answer :=
  match firstOf (tareSetTests s n (natAt p 0 2)) with
  | some c => refuse s c
  | none =>
    let g := tareRounded (s.calibration n).fields (natAt p 0 2)
    (s.setContext n ((s.context n).withTare g .numeric), okReply (be 2 g))

/-- TARE SET (R15). -/
def execTareSet (n : StationNo) (s : State) : Result := answer (.s n) .tareSet (tareSetRequest n) s

/-- A TARE CLEAR request (R16). -/
def tareClearRequest (n : StationNo) (_ : List Byte) (s : State) : Answer :=
  match firstOf (linkTests s n) with
  | some c => refuse s c
  | none =>
    let x := s.context n
    (if x.tare.isSome then s.setContext n { x with tare := none, tareUsed := false, window := [] } else s,
      okReply [])

/-- TARE CLEAR (R16). -/
def execTareClear (n : StationNo) (s : State) : Result := answer (.s n) .tareClear (tareClearRequest n) s

/-! ## Weighing for sale (R18 to R20) -/

/-- Where the tare in force comes from, in R18's order. -/
inductive TareSource where
  | station | plu | none
  deriving DecidableEq, Repr

/-- The code of a tare source: its place in R18's list (R183). -/
def TareSource.code : TareSource → Nat
  | .station => 0
  | .plu => 1
  | .none => 2

/-- The tare in force for a PLU's preset tare, in g, and its source (R18). -/
def tareInForce (c : CalFields) (tare : Option StationTare) (preset : Nat) : Nat × TareSource :=
  match tare with
  | some t => (t.mg / 1000, .station)
  | none => if tareRounded c preset = 0 then (0, .none) else (tareRounded c preset, .plu)

/-- A priced weight: the priced net and the tare applied in g, and the tare source (R18). -/
structure PricedWeight where
  net : Nat
  tare : Nat
  source : TareSource
  deriving DecidableEq, Repr

/-- The priced net in g: the newest gross less the tare in force, rounded as a displayed weight (R18). -/
def pricedNet (c : CalFields) (x : WeighContext) (tare : Nat) : Int :=
  c.shown (x.gross - ((tare * 1000 : Nat) : Int))

/-- The tests of the pricing read, with the minimum for sale last (R18, R19). -/
def weightTests (s : State) (n : StationNo) (preset : Nat) : List (Bool × ResultCode) :=
  let x := s.context n
  let c := s.calibration n
  let t := tareInForce c.fields x.tare preset
  [(!c.isSet, .noCal)] ++ stateTests x.state ++
    [(!s.stable n, .notStable), (t.2 == .plu && decide (c.fields.max1 < t.1), .tareLimit),
      (decide (pricedNet c.fields x t.1 < ((20 * c.fields.e1 : Nat) : Int))
        || decide (pricedNet c.fields x t.1 ≤ 0), .belowMin)]

/-- The pricing read for a station and the preset tare of a BY_WEIGHT PLU (R18, R19). -/
def pricingRead (s : State) (n : StationNo) (preset : Nat) : Except ResultCode PricedWeight :=
  match firstOf (weightTests s n preset) with
  | some c => .error c
  | none =>
    let c := (s.calibration n).fields
    let t := tareInForce c (s.context n).tare preset
    .ok ⟨(pricedNet c (s.context n) t.1).toNat, t.1, t.2⟩

/-- An accepted sale priced under the station tare sets tare used (R20). -/
def State.useTare (s : State) (n : StationNo) (source : TareSource) : State :=
  if source = .station then s.setContext n { s.context n with tareUsed := true } else s

/-! ## Enrolment, loss, service (R21 to R23) -/

/-- A station's context cleared, at enrolment and at loss (R23). -/
def State.clearContext (s : State) (n : StationNo) : State :=
  s.setContext n (clearedContext (s.calibration n).isSet)

/-- A station's window emptied with no entries (R8, R21, R22). -/
def State.emptyWindow (s : State) (n : StationNo) : State :=
  s.setContext n { s.context n with window := [] }

end Sys2Proof.Machine
end

