-- ==== Sys2Proof/Machine/Pricing.lean ====
section
/-! DEFINITION. The pricing unit: the price formula, quotes, the stale-price check, the staged batch and its
activation (R41 to R61). -/

namespace Sys2Proof.Machine

/-! ## The price formula (R43 to R47) -/

/-- A start or end time taken as hh:mm:00, in seconds from midnight (R43). -/
def HourMinute.seconds (t : HourMinute) : Nat := t.hour * 3600 + t.minute * 60

/-- The markdown window is active at a time of day (R43). -/
def windowActive (p : PriceSettings) (t : DateTime) : Bool :=
  decide (p.windowStart.seconds ≤ t.secondOfDay) && decide (t.secondOfDay < p.windowEnd.seconds)

/-- Whether the markdown window is active at this event (R43). -/
def State.markdownActive (s : State) : Bool := windowActive s.pricing.settings s.clock

/-- The markdown pct applied to a sale: the record's inside the window, 0 otherwise (R44, R52). -/
def markdownApplied (active : Bool) (f : PluFields) : Nat := if active then f.markdown else 0

/-- The unit price in force: the markdown taken off and floored, before any weight or count enters (R44). -/
def unitPriceInForce (f : PluFields) (pct : Nat) : Nat :=
  if pct = 0 then f.unitPrice else f.unitPrice * (100 - pct) / 100

/-- What the product of amount and unit price is divided by: 1000 for a net in g, 1 for a quantity (R45). -/
def priceDivisor : ProductKind → Nat
  | .byWeight => 1000
  | .byCount => 1

/-- The exact value `num / den` rounded once to a multiple of the step (R46). -/
def roundToStep (mode : Rounding) (step num den : Nat) : Nat :=
  match mode with
  | .nearest => (2 * num + den * step) / (2 * (den * step)) * step
  | .down => num / (den * step) * step
  | .up => (num + (den * step - 1)) / (den * step) * step

/-- The item price of an amount at a unit price (R45, R46). -/
def itemPrice (p : PriceSettings) (kind : ProductKind) (amount up : Nat) : Nat :=
  roundToStep p.rounding p.step (amount * up) (priceDivisor kind)

/-- The limits of a price (R47). -/
def priceTests (price : Nat) : List (Bool × ResultCode) :=
  [(price == 0, .priceZero), (decide (Config.itemPriceLimit < price), .priceOverflow)]

/-! ## A sale priced (R30, R48, R50, R51) -/

/-- What pricing a sale gives: the PLU record, the net or quantity, the tare and its source, the unit price in
force, the markdown pct applied and the price (R48, R52). -/
structure Priced where
  record : PluRecord
  amount : Nat
  tare : Nat
  source : TareSource
  unitPrice : Nat
  markdown : Nat
  price : Nat
  deriving DecidableEq, Repr

/-- A quantity of 1 to 99 (R45, R48). -/
def quantityOk : Option Nat → Bool
  | some k => decide (1 ≤ k) && decide (k ≤ 99)
  | none => false

/-- The stale-price check passes: changed_gen, quoted generation and current generation in order (R51). -/
def freshQuote (changed quoted current : Nat) : Bool := decide (changed ≤ quoted) && decide (quoted ≤ current)

/-- The amount of a sale: the pricing read of a BY_WEIGHT PLU, or the quantity (R18, R45). -/
def State.saleAmount (s : State) (n : StationNo) (r : PluRecord) (quantity : Option Nat) :
    Except ResultCode PricedWeight :=
  match r.fields.kind with
  | .byWeight => pricingRead s n r.fields.presetTare
  | .byCount => .ok ⟨quantity.getD 0, 0, .none⟩

/-- The tests of R48 from 4 to 7 (R50 from 12 to 16, when a quoted generation is to be checked), and the price
of the sale that passes them. -/
def State.priceSale (s : State) (n : StationNo) (q : SaleRequest) (checkStale : Bool) :
    Except ResultCode Priced :=
  match lookupForSale s.plu q.plu with
  | .error e => .error e
  | .ok r =>
    match firstOf
        [(r.fields.kind == .byCount && !quantityOk q.quantity, .badValue),
          (checkStale && !freshQuote r.changedGen q.quoted s.generation, .stalePrice)] with
    | some e => .error e
    | none =>
      match s.saleAmount n r q.quantity with
      | .error e => .error e
      | .ok w =>
        let pct := markdownApplied s.markdownActive r.fields
        let up := unitPriceInForce r.fields pct
        let price := itemPrice s.pricing.settings r.fields.kind w.net up
        match firstOf (priceTests price) with
        | some e => .error e
        | none => .ok ⟨r, w.net, w.tare, w.source, up, pct, price⟩

/-- No trading: LOADING or CLOSED (R48, R49). -/
def State.notTrading (s : State) : Bool := !s.trading

/-- A QUOTE request (R48). -/
def quoteRequest (n : StationNo) (p : List Byte) (s : State) : Answer :=
  match firstOf (linkTests s n ++ [(s.notTrading, .refusedState)]) with
  | some e => refuse s e
  | none =>
    match s.priceSale n (decodeSale p) false with
    | .error e => refuse s e
    | .ok r =>
      (s, okReply (be 2 r.amount ++ be 2 r.tare ++ be 1 r.source.code ++ be 3 r.unitPrice
        ++ flagByte (decide (0 < r.markdown)) ++ be 3 r.price ++ be 4 s.generation))

/-- QUOTE (R48). -/
def execQuote (n : StationNo) (s : State) : Result := answer (.s n) .quote (quoteRequest n) s

/-! ## The staged batch (R54 to R57) -/

namespace State

/-- The pricing unit changed by a function. -/
def onPricing (s : State) (f : PricingUnit → PricingUnit) : State := { s with pricing := f s.pricing }

/-- The batch discarded: no entries, no instant, EMPTY (R56, R59). -/
def emptyBatch (s : State) : State :=
  s.onPricing fun u => { u with batch := .empty, entries := [], instant := none }

end State

/-- A BATCH ADD request (R54). -/
def batchAddRequest (p : List Byte) (s : State) : Answer :=
  if s.pricing.batch = .armed then refuse s .batchArmed
  else
    match decodeBatchEntry p with
    | none => refuse s .badValue
    | some e =>
      if Config.batchPlaces ≤ s.pricing.entries.length then refuse s .batchFull
      else
        (s.onPricing fun u => { u with batch := .filling, entries := u.entries ++ [e] },
          okReply (be 1 (s.pricing.entries.length + 1)))

/-- BATCH ADD (R54). -/
def execBatchAdd (s : State) : Result := answer .b .batchAdd batchAddRequest s

/-! ## Activation (R58, R59) -/

/-- How far an activation has come: the state, and the counts with the first skipped entry. -/
abbrev Activation := State × BatchResult

/-- A skipped entry counted; the first one is noted (R59). -/
def BatchResult.skip (r : BatchResult) (plu : Nat) (reason : ResultCode) : BatchResult :=
  { r with skipped := r.skipped + 1, firstSkipped := some (r.firstSkipped.getD (plu, reason)) }

/-- One entry handed to the PLU table, or skipped REFUSED_STATE when the generation has ended (R59 steps 2 to 4). -/
def activateEntry (ended : Bool) (gen : Nat) (a : Activation) (e : BatchEntry) : Activation :=
  if ended then (a.1, a.2.skip e.plu .refusedState)
  else
    match a.1.applyEntry e gen with
    | .ok s => (s, { a.2 with applied := a.2.applied + 1 })
    | .error reason => (a.1, a.2.skip e.plu reason)

/-- The batch's notices: BATCH_APPLIED always, BATCH_SKIPPED when an entry was skipped (R59 step 7). -/
def State.raiseBatch (s : State) (r : BatchResult) : State :=
  let s1 := s.raise .batchApplied { variant := .batch r }
  if r.skipped = 0 then s1 else s1.raise .batchSkipped { variant := .batch r }

/-- Every entry handed over, oldest first, within the event (R59 steps 1 to 4). -/
def State.applyBatch (s : State) : Activation :=
  s.pricing.entries.foldl (activateEntry s.generationEnded (s.generation + 1)) (s, ⟨0, 0, none⟩)

/-- An activation (R59). -/
def State.activate (s : State) : State :=
  let a := s.applyBatch
  let s1 := if a.2.applied = 0 then a.1 else a.1.stepGeneration
  ((s1.onPricing fun u => { u with result := some a.2 }).raiseBatch a.2).emptyBatch

/-- The ARMED batch's activation instant is reached by the counter clock (R58). -/
def State.activationDue (s : State) : Bool :=
  s.pricing.batch == .armed &&
    match s.pricing.instant with
    | some t => decide (t.seconds ≤ s.clock.seconds)
    | none => false

/-- The batch activates when its instant is reached (R58). -/
def State.activateIfDue (s : State) : State := if s.activationDue then s.activate else s

/-- BATCH_ACTIVATION: the batch's instant is reached (R58, R59). Short of the instant nothing happens
(log entry 8). -/
def execBatchActivation (s : State) : Result := unlessReset s State.activateIfDue

/-! ## Batch requests, continued -/

/-- The tests of a BATCH COMMIT (R55). -/
def commitTests (s : State) (delay : Nat) : List (Bool × ResultCode) :=
  [(s.pricing.batch == .empty, .batchEmpty), (s.pricing.batch == .armed, .batchArmed),
    (decide (Config.maxBatchDelay < delay), .badValue), ((s.clock.addMinutes delay).isNone, .badValue),
    (s.generationEnded, .refusedState)]

/-- A BATCH COMMIT request: armed, and activated within the event when the delay is 0 (R55). -/
def batchCommitRequest (p : List Byte) (s : State) : Answer :=
  let delay := natAt p 0 2
  match firstOf (commitTests s delay) with
  | some e => refuse s e
  | none =>
    let t := (s.clock.addMinutes delay).getD s.clock
    let s1 := s.onPricing fun u => { u with batch := .armed, instant := some t }
    let s2 := if delay = 0 then s1.activate else s1
    (s2, okReply (t.bytes ++ be 1 s2.pricing.batch.code))

/-- BATCH COMMIT (R55). -/
def execBatchCommit (s : State) : Result := answer .b .batchCommit batchCommitRequest s

/-- A BATCH CLEAR request (R56). -/
def batchClearRequest (_ : List Byte) (s : State) : Answer :=
  (s.emptyBatch, okReply (be 1 s.pricing.entries.length))

/-- BATCH CLEAR (R56). -/
def execBatchClear (s : State) : Result := answer .b .batchClear batchClearRequest s

/-- A BATCH STATUS request (R57). -/
def batchStatusRequest (_ : List Byte) (s : State) : Answer :=
  let u := s.pricing
  (s, okReply (be 1 u.batch.code ++ be 1 u.entries.length ++ optionalTime u.instant ++ be 4 u.generation
    ++ optional 7 (u.result.map BatchResult.bytes)))

/-- BATCH STATUS (R57). -/
def execBatchStatus (s : State) : Result := answer .b .batchStatus batchStatusRequest s

/-- The price fields of a record kept, its changed_gen restarted (R29, R39). -/
def PluTable.restartGenerations (t : PluTable) : PluTable := t.mapRecords fun r => { r with changedGen := 1 }

end Sys2Proof.Machine
end

