-- ==== Sys2Proof/Machine/Orders.lean ====
section
/-! DEFINITION. The order manager: bindings, orders and items, parks, claims and voids, and what it does at the
end of a label and at a loss (R62 to R87); with them the counter's entry to a state (R138, R142, R143). -/

namespace Sys2Proof.Machine

/-! ## Entry to a counter state (R138, R142, R143) -/

/-- The counter enters a state: at CLOSED the queue is emptied first; then COUNTER_STATE is raised (R138, R143). -/
def State.enterState (s : State) (c : CounterState) : State :=
  let s1 : State := { s with counter := { s.counter with state := c } }
  let s2 : State := if c = .closed then { s1 with queue := s1.queue.closed } else s1
  s2.raise .counterState { variant := .state c }

/-- An order closed while DRAINING: when none is left open, the counter enters CLOSED (R83, R142). -/
def State.reportClosing (s : State) : State :=
  if s.counter.state = .draining ∧ s.openOrderCount = 0 then s.enterState .closed else s

/-! ## Bindings and holders -/

namespace State

/-- A clerk's open order changed by a function, when there is one. -/
def onOrder (s : State) (c : ClerkNo) (f : Order → Order) : State := s.setOrder c ((s.order c).map f)

/-- A clerk's binding set or ended (R62). -/
def bind (s : State) (c : ClerkNo) (n : Option StationNo) : State :=
  s.setClerk c { s.clerk c with bound := n }

/-- A clerk's order parked: holder absent, revision stepped (R71, R76). -/
def park (s : State) (c : ClerkNo) : State :=
  s.onOrder c fun o => { o with holder := none, revision := stepRevision o.revision }

/-- A clerk's order parked when a station holds it. -/
def parkIfHeld (s : State) (c : ClerkNo) (n : StationNo) : State :=
  match s.order c with
  | some o => if o.holder = some n then s.park c else s
  | none => s

/-- The clerk bound at a station unbound, and the serving number released (R84, R85, R119). -/
def unbindRelease (s : State) (n : StationNo) : State :=
  match s.boundClerk n with
  | none => s
  | some c => (s.bind c none).releaseServing c

/-- The clerk bound at a station unbound, keeping the serving record (R65, R78). -/
def unbindKeep (s : State) (n : StationNo) : State :=
  match s.boundClerk n with
  | none => s
  | some c => s.bind c none

/-- The order a station holds parked, if it holds one (R84). -/
def parkHeld (s : State) (n : StationNo) : State :=
  match s.holding n with
  | none => s
  | some c => s.park c

/-- A clerk signed off a station: the held order parked, the binding ended, the serving number released (R66). -/
def signOff (s : State) (c : ClerkNo) (n : StationNo) : State := (s.parkIfHeld c n).unbindRelease n

end State

/-- The bytes of an order summary, or of its absence (R65, R66). -/
def summaryOf (s : State) (c : ClerkNo) : List Byte :=
  optional orderSummaryLength ((s.order c).map (orderSummary c))

/-- The order summary of a clerk whose order is open (R75, R76, R78). -/
def summaryOpen (s : State) (c : ClerkNo) : List Byte := ((s.order c).map (orderSummary c)).getD []

/-! ## CLERK ON and CLERK OFF (R64 to R66) -/

/-- The named clerk's label keeps the order at another station (R64 test 6). -/
def State.heldInFlight (s : State) (c : ClerkNo) (n : StationNo) : Bool :=
  match (s.clerk c).bound, s.order c with
  | some m, some o => m != n && o.holder == some m && o.labelInFlight
  | _, _ => false

/-- The tests of CLERK ON from 4 to 6 (R64). -/
def clerkOnTests (s : State) (n : StationNo) (c : ClerkNo) (code : Nat) : List (Bool × ResultCode) :=
  [(!(s.clerk c).enabled || (s.clerk c).code != code, .clerkCode),
    ((s.holding n).isSome && s.holding n != some c, .stationBusy), (s.heldInFlight c n, .orderBusy)]

/-- The binding a CLERK ON makes (R65). -/
def State.signOn (s : State) (c : ClerkNo) (n : StationNo) : State :=
  if (s.clerk c).bound = some n then s
  else
    let s1 :=
      match (s.clerk c).bound with
      | some m => (s.parkIfHeld c m).bind c none
      | none => s
    (s1.unbindKeep n).bind c (some n)

/-- A CLERK ON request (R64, R65). -/
def clerkOnRequest (n : StationNo) (p : List Byte) (s : State) : Answer :=
  match firstOf (linkTests s n), decodeClerkOn p with
  | some e, _ => refuse s e
  | none, none => refuse s .badValue
  | none, some (c, code) =>
    match firstOf (clerkOnTests s n c code) with
    | some .orderBusy => (s, ⟨.orderBusy, summaryOpen s c⟩)
    | some e => refuse s e
    | none => (s.signOn c n, okReply (summaryOf (s.signOn c n) c))

/-- CLERK ON (R64, R65). -/
def execClerkOn (n : StationNo) (s : State) : Result := answer (.s n) .clerkOn (clerkOnRequest n) s

/-- A clerk's order is held by a station. -/
def State.holds (s : State) (n : StationNo) (c : ClerkNo) : Bool :=
  match s.order c with
  | some o => o.holder == some n
  | none => false

/-- A clerk's order has a label in flight (R66, R76). -/
def State.inFlight (s : State) (c : ClerkNo) : Bool := ((s.order c).map Order.labelInFlight).getD false

/-- A CLERK OFF request (R66). -/
def clerkOffRequest (n : StationNo) (_ : List Byte) (s : State) : Answer :=
  match firstOf (linkTests s n), s.boundClerk n with
  | some e, _ => refuse s e
  | none, none => refuse s .noClerk
  | none, some c =>
    if s.holds n c && s.inFlight c then refuse s .orderBusy
    else (s.signOff c n, okReply (summaryOf (s.signOff c n) c))

/-- CLERK OFF (R66). -/
def execClerkOff (n : StationNo) (s : State) : Result := answer (.s n) .clerkOff (clerkOffRequest n) s

/-! ## CLERK WRITE and CLERK READ (R63) -/

/-- A clerk's entry written; a write that disables a bound clerk ends the binding as CLERK OFF does (R63). -/
def State.writeClerk (s : State) (c : ClerkNo) (code : Nat) (enabled : Bool) : State :=
  let s1 := s.setClerk c { s.clerk c with code := code, enabled := enabled }
  match (s.clerk c).bound with
  | some n => if enabled then s1 else ((s1.parkIfHeld c n).bind c none).releaseServing c
  | none => s1

/-- A CLERK WRITE request (R63). -/
def clerkWriteRequest (p : List Byte) (s : State) : Answer :=
  if s.trading then refuse s .refusedState
  else
    match decodeClerkWrite p with
    | none => refuse s .badValue
    | some (c, code, enabled) => (s.writeClerk c code enabled, okReply [])

/-- CLERK WRITE (R63). -/
def execClerkWrite (s : State) : Result := answer .b .clerkWrite clerkWriteRequest s

/-- A CLERK READ request (R63). -/
def clerkReadRequest (p : List Byte) (s : State) : Answer :=
  match ofOrdinal 32 (natAt p 0 1) with
  | none => refuse s .badValue
  | some c =>
    (s, okReply (be 2 (s.clerk c).code ++ flagByte (s.clerk c).enabled
      ++ optional 1 ((s.clerk c).bound.map fun n => be 1 (ordinal n))
      ++ optional 2 ((s.order c).map fun o => be 2 o.number)))

/-- CLERK READ (R63). -/
def execClerkRead (s : State) : Result := answer .b .clerkRead clerkReadRequest s

/-! ## Items (R70, R72 to R75) -/

/-- The order number after the last one issued, passing over every number held by an open order (R70). -/
def freeOrderNumber (held : List Nat) : Nat → Nat → Nat
  | 0, last => if last = Config.lastOrderNumber then 1 else last + 1
  | fuel + 1, last =>
    let k := if last = Config.lastOrderNumber then 1 else last + 1
    if held.contains k then freeOrderNumber held fuel k else k

/-- The number the next order takes (R70); at most 32 numbers are held. -/
def State.nextOrderNumber (s : State) : Nat :=
  freeOrderNumber (s.openOrders.map (·.number)) 32 s.orders.lastOrderNumber

/-- A new order of a clerk at a station, with no items (R70). -/
def newOrder (number : Nat) (n : StationNo) (t : DateTime) (queueNumber : Option Nat) : Order :=
  ⟨number, some n, .opened, 0, t, queueNumber, [], 1⟩

/-- An order opened for a clerk at a station (R70, R118, R126). -/
def State.openOrder (s : State) (c : ClerkNo) (n : StationNo) : State :=
  let k := s.nextOrderNumber
  let s1 : State := { s with orders := { s.orders with lastOrderNumber := k } }
  (s1.setOrder c (some (newOrder k n s.clock ((s.serving c).map (·.number))))).countOpened

/-- An item allocated into an order: the next item number and the revision step (R72). -/
def Order.allocate (o : Order) (i : Item) : Order :=
  { o with
    items := o.items ++ [i], nextItem := o.nextItem + 1, revision := stepRevision o.revision }

/-- An item of an order set to a state, and the revision stepped (R73, R75). -/
def Order.setItem (o : Order) (k : Nat) (st : ItemState) : Order :=
  { o with
    items := o.items.map fun i => if i.number = k then { i with state := st } else i
    revision := stepRevision o.revision }

/-- An item removed from an order: later items keep their numbers (R74). -/
def Order.removeItem (o : Order) (k : Nat) : Order :=
  { o with
    items := o.items.filter fun i => i.number != k, revision := stepRevision o.revision }

/-- The order's state changed to CLOSING or back to OPEN, and the revision stepped (R80, R82). -/
def Order.setState (o : Order) (st : OrderState) : Order :=
  { o with state := st, revision := stepRevision o.revision }

/-- An item confirmed at the PRINT DONE of its label (R73). -/
def State.confirmItem (s : State) (c : ClerkNo) (k : Nat) : State :=
  (s.onOrder c (·.setItem k .confirmed)).goodsConfirmed c ((s.order c).bind (·.queueNumber))

/-- An item removed when its label ends without PRINT DONE (R74). -/
def State.removeItem (s : State) (c : ClerkNo) (k : Nat) : State := s.onOrder c (·.removeItem k)

/-- A CLOSING order returned to OPEN when its total label ends without PRINT DONE (R82). -/
def State.reopenOrder (s : State) (c : ClerkNo) : State := s.onOrder c (·.setState .opened)

/-- An order closed at the PRINT DONE of its total label at a station (R81). -/
def State.closePrinted (s : State) (c : ClerkNo) (n : StationNo) : State :=
  match s.order c with
  | none => s
  | some o => ((s.accumulate c n o).setOrder c none).reportClosing

/-- An order closed empty (R79). -/
def State.closeEmpty (s : State) (c : ClerkNo) : State := (s.countEmpty.setOrder c none).reportClosing

/-- The item of an order with a number, if it is held. -/
def Order.find (o : Order) (k : Nat) : Option Item := o.items.find? fun i => i.number == k

/-- The tests of VOID ITEM from 6 to 9, on the clerk's order (R75). -/
def voidTests (n : StationNo) (o : Order) (k : Nat) : List (Bool × ResultCode) :=
  let st := (o.find k).map (·.state)
  [(o.holder != some n, .notHolder), (o.state == .closing, .busy),
    (st == none || st == some .voided, .noItem), (st == some .pending, .busy)]

/-- A VOID ITEM request (R75). -/
def voidItemRequest (n : StationNo) (p : List Byte) (s : State) : Answer :=
  let k := natAt p 0 1
  match firstOf (linkTests s n ++ [(k == 0, .badValue)]), s.boundClerk n with
  | some e, _ => refuse s e
  | none, none => refuse s .noClerk
  | none, some c =>
    match s.order c with
    | none => refuse s .noOrder
    | some o =>
      match firstOf (voidTests n o k) with
      | some e => refuse s e
      | none =>
        let s1 := s.onOrder c (·.setItem k .voided)
        (s1, okReply (summaryOpen s1 c))

/-- VOID ITEM (R75). -/
def execVoidItem (n : StationNo) (s : State) : Result := answer (.s n) .voidItem (voidItemRequest n) s

/-! ## Moving orders (R76 to R78) -/

/-- A PARK ORDER request (R76). -/
def parkOrderRequest (n : StationNo) (_ : List Byte) (s : State) : Answer :=
  match firstOf (linkTests s n), s.boundClerk n with
  | some e, _ => refuse s e
  | none, none => refuse s .noClerk
  | none, some c =>
    match s.order c with
    | none => refuse s .noOrder
    | some o =>
      match firstOf [(o.holder != some n, .notHolder), (o.labelInFlight, .orderBusy)] with
      | some e => refuse s e
      | none => (s.park c, okReply (summaryOpen (s.park c) c))

/-- PARK ORDER (R76). -/
def execParkOrder (n : StationNo) (s : State) : Result := answer (.s n) .parkOrder (parkOrderRequest n) s

/-- An order's holder and revision, as the replies to a claim carry them (R77, R78). -/
def holderPair (o : Order) : List Byte :=
  optional 1 (o.holder.map fun h => be 1 (ordinal h)) ++ be 2 o.revision

/-- The tests of CLAIM ORDER from 5 to 7 (R77). -/
def claimTests (s : State) (n : StationNo) (c : ClerkNo) (o : Order) (holder : Option StationNo)
    (revision : Nat) : List (Bool × ResultCode) :=
  [((s.holding n).isSome && s.holding n != some c, .stationBusy),
    (o.holder != holder || o.revision != revision, .heldElsewhere), (o.labelInFlight, .orderBusy)]

/-- The move a claim makes (R78). -/
def State.claim (s : State) (c : ClerkNo) (n : StationNo) : State :=
  let s1 := if (s.clerk c).bound = some n then s else ((s.bind c none).unbindKeep n).bind c (some n)
  s1.onOrder c fun o => { o with holder := some n, revision := stepRevision o.revision }

/-- A CLAIM ORDER request (R77, R78). -/
def claimOrderRequest (n : StationNo) (p : List Byte) (s : State) : Answer :=
  match firstOf (linkTests s n), decodeClaim p with
  | some e, _ => refuse s e
  | none, none => refuse s .badValue
  | none, some (c, holder, revision) =>
    match s.order c with
    | none => refuse s .noOrder
    | some o =>
      match firstOf (claimTests s n c o holder revision) with
      | some .stationBusy => refuse s .stationBusy
      | some e => (s, ⟨e, holderPair o⟩)
      | none => (s.claim c n, okReply (holderPair o ++ summaryOpen (s.claim c n) c))

/-- CLAIM ORDER (R77, R78). -/
def execClaimOrder (n : StationNo) (s : State) : Result :=
  answer (.s n) .claimOrder (claimOrderRequest n) s

end Sys2Proof.Machine
end

