-- ==== Sys2Proof/Machine/Labels.lean ====
section
/-! DEFINITION. The label composer: codes and sell-by dates, label records and their push parts, composing into
a print slot, the ends of a label, and reprints (R88 to R106, R181, R182). -/

namespace Sys2Proof.Machine

/-! ## Codes (R93, R94, R97) -/

/-- The last `k` decimal digits of a number, most significant first. -/
def decimalDigits : Nat → Nat → List Nat
  | 0, _ => []
  | k + 1, x => x / 10 ^ k % 10 :: decimalDigits k x

/-- The weighted sum of digits: odd positions count once, even positions three times (R94). -/
def weightedSum : List Nat → Nat
  | [] => 0
  | [a] => a
  | a :: b :: rest => a + 3 * b + weightedSum rest

/-- The check digit over twelve digits (R94). -/
def checkDigit (ds : List Nat) : Nat := (10 - weightedSum ds % 10) % 10

/-- The 13 digits of a code: prefix, five-digit number, five-digit value and check digit; absent when the value
does not fit in five digits (R93, R97). -/
def codeOf (codePrefix number value : Nat) : Option (List Nat) :=
  if 99999 < value then none
  else
    let ds := decimalDigits 2 codePrefix ++ decimalDigits 5 number ++ decimalDigits 5 value
    some (ds ++ [checkDigit ds])

/-- The item code: the value is the price or the net, by the PLU's code kind; NONE has no code (R93). -/
def itemCode (codePrefix plu : Nat) (kind : CodeKind) (price amount : Nat) : Option (List Nat) :=
  match kind with
  | .price => codeOf codePrefix plu price
  | .weight => codeOf codePrefix plu amount
  | .nothing => none

/-- The sell-by date: absent when the shelf days are 0 (R92, R95). -/
def sellBy (packed : Date) (shelfDays : Nat) : Option Date :=
  if shelfDays = 0 then none else some (packed.advance shelfDays)

/-! ## Label records (R92, R96, R104) -/

/-- The station record shows a printer (R152). -/
def State.hasPrinter (s : State) (n : StationNo) : Bool :=
  (((s.station n).record).map (·.printer)).getD false

/-- The station's label width; a station that composes a label has a station record (R92, R152). -/
def State.labelWidth (s : State) (n : StationNo) : Nat := (((s.station n).record).map (·.width)).getD 0

/-- The description printed at a width: 16 characters at 40 mm, all of it at 60 mm (R92). -/
def printedDescription (width : Nat) (d : List Byte) : List Byte := if width = 40 then d.take 16 else d

/-- The next label number after one (R89). -/
def nextLabel (k : Nat) : Nat := if k = Config.lastLabelNumber then 1 else k + 1

/-- The ITEM label record of an item just accepted (R92). -/
def itemRecord (s : State) (n : StationNo) (c : ClerkNo) (order : Nat) (f : PluFields) (i : Item)
    (number : Nat) : LabelRecord :=
  { kind := .item, station := n, number := number, original := number, order := order, clerk := c
    time := i.time
    code := itemCode s.pricing.settings.itemPrefix i.plu f.codeKind i.price i.amount
    duplicate := false, width := s.labelWidth n
    body :=
      .item
        { itemNumber := i.number, plu := i.plu
          description := printedDescription (s.labelWidth n) f.description
          kind := i.kind, amount := i.amount, tare := i.tare, unitPrice := i.unitPrice
          markdown := decide (0 < i.markdown), price := i.price
          sellBy := sellBy i.time.date f.shelfDays } }

/-- The line of a CONFIRMED or VOIDED item (R96). -/
def lineOf (i : Item) : LabelLine :=
  ⟨i.number, i.plu, i.kind, i.amount, i.price, i.station, i.label, i.state == .voided⟩

/-- The TOTAL label record of a closing order (R96, R97). -/
def totalRecord (s : State) (n : StationNo) (c : ClerkNo) (o : Order) (number : Nat) : LabelRecord :=
  { kind := .total, station := n, number := number, original := number, order := o.number, clerk := c
    time := s.clock
    code := codeOf s.pricing.settings.orderPrefix o.number (o.valueOf .confirmed)
    duplicate := false, width := s.labelWidth n
    body :=
      .total
        { queueNumber := o.queueNumber
          lines := (o.items.filter fun i => i.state != .pending).map lineOf
          itemCount := (o.inState .confirmed).length
          voidedCount := (o.inState .voided).length
          total := o.valueOf .confirmed
          zNumber := s.totals.z } }

/-- The REPRINT record: a copy of the last label (R104). -/
def reprintRecord (last : LabelRecord) (number : Nat) : LabelRecord :=
  { last with kind := .reprint, number := number, original := last.number, duplicate := true }

/-! ## Push parts (R181, R182) -/

/-- The kind, ITEM or TOTAL, of the label a record was first composed as (R181). -/
def LabelBody.originalKind : LabelBody → LabelKind
  | .item _ => .item
  | .total _ => .total

/-- A 13-digit code as 13 characters, or 13 bytes of 0 when absent (R181). -/
def codeBytes : Option (List Nat) → List Byte
  | some ds => ds.flatMap fun d => be 1 (0x30 + d)
  | none => List.replicate 13 0

/-- Bits of a flags byte, lowest first. -/
def flagBits : List Bool → Nat
  | [] => 0
  | b :: bs => (if b then 1 else 0) + 2 * flagBits bs

/-- The flags of a label head: DUPLICATE, CODE_OMITTED, markdown, sell-by present, queue number present (R181). -/
def LabelRecord.flags (r : LabelRecord) : Nat :=
  match r.body with
  | .item b => flagBits [r.duplicate, r.code.isNone, b.markdown, b.sellBy.isSome, false]
  | .total b => flagBits [r.duplicate, r.code.isNone, false, false, b.queueNumber.isSome]

/-- The label head at offsets 5 to 34 (R181). -/
def LabelRecord.head (r : LabelRecord) : List Byte :=
  be 1 r.kind.code ++ be 1 r.body.originalKind.code ++ be 1 r.flags ++ be 1 r.width
    ++ be 1 (ordinal r.station) ++ be 3 r.original ++ be 2 r.order ++ be 1 (ordinal r.clerk)
    ++ r.time.bytes ++ codeBytes r.code

/-- An ITEM label from offset 35 (R181). -/
def ItemLabel.bytes (b : ItemLabel) : List Byte :=
  be 1 b.itemNumber ++ be 3 b.plu ++ be 1 b.kind.code ++ be 2 b.amount ++ be 2 b.tare ++ be 3 b.unitPrice
    ++ be 3 b.price ++ (match b.sellBy with | some d => d.bytes | none => List.replicate 3 0)
    ++ descriptionBytes b.description

/-- A TOTAL label from offset 35 (R181). -/
def TotalLabel.bytes (b : TotalLabel) : List Byte :=
  be 1 (b.queueNumber.getD 0) ++ be 1 b.itemCount ++ be 1 b.voidedCount ++ be 4 b.total ++ be 2 b.zNumber

/-- An item line in its 14 bytes (R181). -/
def LabelLine.bytes (l : LabelLine) : List Byte :=
  be 1 l.itemNumber ++ be 3 l.plu
    ++ be 1 (flagBits [l.kind == .byCount, l.voided, l.label.isNone])
    ++ be 2 l.amount ++ be 3 l.price ++ be 1 (ordinal l.station) ++ be 3 (l.label.getD 0)

/-- Lines sixteen to a part, the last part with the remainder; `fuel` is at least the number of lines (R182). -/
def lineGroups : Nat → List LabelLine → List (List LabelLine)
  | 0, _ => []
  | _ + 1, [] => []
  | fuel + 1, l :: ls => (l :: ls).take 16 :: lineGroups fuel ((l :: ls).drop 16)

/-- What the parts of a label carry after their heads, part 1 first (R182). -/
def LabelRecord.partBodies (r : LabelRecord) : List (List Byte) :=
  match r.body with
  | .item b => [r.head ++ b.bytes]
  | .total b =>
    (r.head ++ b.bytes) :: (lineGroups b.lines.length b.lines).map fun g => g.flatMap LabelLine.bytes

/-- Part bodies put behind their heads: label number, part index from `i` on, part count (R181). -/
def partFrames (number count : Nat) : Nat → List (List Byte) → List TxFrame
  | _, [] => []
  | i, b :: bs =>
    ⟨labelKind, 0, be 3 number ++ be 1 i ++ be 1 count ++ b⟩ :: partFrames number count (i + 1) bs

/-- The LABEL push parts of a record, in index order (R182). -/
def LabelRecord.parts (r : LabelRecord) : List TxFrame :=
  partFrames r.number r.partBodies.length 1 r.partBodies

/-! ## Composing (R89, R90) -/

/-- A station's print slot is BUSY (R88). -/
def State.slotBusy (s : State) (n : StationNo) : Bool := (s.printer n).slot.isSome

/-- A label composed at a station: its number is taken, the slot becomes BUSY with no deadline, and the parts are
handed to the link (R89, R90). `mk` builds the record of that number. -/
def State.compose (s : State) (n : StationNo) (mk : Nat → LabelRecord) : State :=
  let k := (s.printer n).nextNumber
  (s.setPrinter n { s.printer n with slot := some ⟨mk k, none⟩, nextNumber := nextLabel k }).onPort (.s n)
    (·.pushLabel (mk k).parts)

/-! ## Ending a label (R98 to R103) -/

/-- A station's slot freed: the deadline goes with it, and its parts still waiting are discarded (R99 to R102,
R178). -/
def State.freeSlot (s : State) (n : StationNo) : State :=
  (s.setPrinter n { s.printer n with slot := none }).onPort (.s n) fun p => { p with labelLane := [] }

/-- What PRINT_FAILED carries of a label that failed (R103). -/
def failedFields (n : StationNo) (r : LabelRecord) (cause : FailCause) : NoticeFields where
  station := some n
  clerk := if r.kind = .reprint then none else some r.clerk
  order := if r.kind = .reprint then none else some r.order
  plu :=
    match r.kind, r.body with
    | .item, .item b => some b.plu
    | _, _ => none
  variant := .print r.number cause

/-- A failed label handed on by kind: the item removed, or the order returned to OPEN (R100). -/
def State.handFailure (s : State) (r : LabelRecord) : State :=
  match r.kind, r.body with
  | .item, .item b => s.removeItem r.clerk b.itemNumber
  | .total, _ => s.reopenOrder r.clerk
  | _, _ => s

/-- A label that ends without PRINT DONE (R100, R101, R102). -/
def State.failLabel (s : State) (n : StationNo) (r : LabelRecord) (cause : FailCause) : State :=
  ((s.freeSlot n).raise .printFailed (failedFields n r cause)).handFailure r

/-- A label that ends with PRINT DONE: the last label, the counts, and the order manager's part by kind (R99). -/
def State.finishLabel (s : State) (n : StationNo) (r : LabelRecord) : State :=
  let s1 := s.freeSlot n
  let kept := (s1.setPrinter n { s1.printer n with last := some r }).countLabel n
  match r.kind, r.body with
  | .item, .item b => kept.confirmItem r.clerk b.itemNumber
  | .total, _ => kept.closePrinted r.clerk n
  | _, _ => s1.countReprint n

/-- The label in a station's slot, when it has that number: what a print report is compared with (R98). -/
def State.matching (s : State) (n : StationNo) (k : Nat) : Option LabelRecord :=
  match (s.printer n).slot with
  | some p => if p.record.number = k then some p.record else none
  | none => none

/-- A PRINT DONE report reaches the label composer (R98, R99). -/
def State.printDone (s : State) (n : StationNo) (k : Nat) : State :=
  match s.matching n k with
  | some r => s.finishLabel n r
  | none => s

/-- A PRINT FAIL report reaches the label composer (R98, R100). -/
def State.printFail (s : State) (n : StationNo) (k : Nat) : State :=
  match s.matching n k with
  | some r => s.failLabel n r .fail
  | none => s

/-- PRINT DONE: a station's report arrives (R98, R99). -/
def execPrintDone (n : StationNo) (label : Nat) (s : State) : Result :=
  unlessReset s fun s => (s.goodFrame (.s n)).printDone n label

/-- PRINT FAIL: a station's report arrives (R98, R100). -/
def execPrintFail (n : StationNo) (label : Nat) (s : State) : Result :=
  unlessReset s fun s => (s.goodFrame (.s n)).printFail n label

/-- A slot's deadline runs out with the label still in it (R91, R101). -/
def State.deadlineExpired (s : State) (n : StationNo) : State :=
  match (s.printer n).slot with
  | some p => if p.deadline.isSome then s.failLabel n p.record .timeout else s
  | none => s

/-- PRINT_DEADLINE_EXPIRY (R91, R101). -/
def execPrintDeadlineExpiry (n : StationNo) (s : State) : Result := unlessReset s (·.deadlineExpired n)

/-- A station's label composer at the loss of the station: the label in the slot fails LOST, the parts still
waiting are discarded, and the last label becomes absent (R102, R178). -/
def State.loseLabels (s : State) (n : StationNo) : State :=
  let s1 :=
    match (s.printer n).slot with
    | some p => s.failLabel n p.record .lost
    | none => s.freeSlot n
  s1.setPrinter n { s1.printer n with last := none }

/-! ## REPRINT (R104) -/

/-- The tests of REPRINT (R104). -/
def reprintTests (s : State) (n : StationNo) : List (Bool × ResultCode) :=
  linkTests s n ++
    [(!s.hasPrinter n, .noPrinter), (s.slotBusy n, .printerBusy), ((s.printer n).last.isNone, .noLabel)]

/-- A REPRINT request (R104). -/
def reprintRequest (n : StationNo) (_ : List Byte) (s : State) : Answer :=
  match firstOf (reprintTests s n), (s.printer n).last with
  | some e, _ => refuse s e
  | none, none => refuse s .noLabel
  | none, some last =>
    (s.compose n (reprintRecord last),
      okReply (be 3 (s.printer n).nextNumber ++ be 3 last.number ++ be 1 last.kind.code))

/-- REPRINT (R104). -/
def execReprint (n : StationNo) (s : State) : Result := answer (.s n) .reprint (reprintRequest n) s

end Sys2Proof.Machine
end

