-- ==== Sys2Proof/Machine/Sales.lean ====
section
/-! DEFINITION. Taking a sale and closing an order: LABEL, ADD ITEM and CLOSE ORDER (R49 to R52, R70, R72, R79,
R80). -/

namespace Sys2Proof.Machine

/-! ## The tests of a sale (R49, R50) -/

/-- The label mode in which a station makes a sale: LABEL_EACH by LABEL, TOTAL_ONLY by ADD ITEM (R49 test 3). -/
def saleMode (labelled : Bool) : LabelMode := if labelled then .labelEach else .totalOnly

/-- The tests of a sale from 1 to 4 (R49). -/
def saleTests (s : State) (n : StationNo) (labelled : Bool) : List (Bool × ResultCode) :=
  linkTests s n ++ [((s.profile n).mode != saleMode labelled, .refusedMode), (s.notTrading, .refusedState)]

/-- The tests of a sale from 6 to 11, for the clerk bound at the station (R49). -/
def orderTests (s : State) (n : StationNo) (c : ClerkNo) (labelled : Bool) : List (Bool × ResultCode) :=
  let o := s.order c
  [((o.map fun o => o.holder != some n).getD false, .notHolder),
    ((o.map fun o => o.state == .closing).getD false, .busy),
    (o.isNone && s.counter.state == .draining, .refusedState),
    (labelled && !s.hasPrinter n, .noPrinter), (labelled && s.slotBusy n, .printerBusy),
    ((o.map fun o =>
        decide (Config.itemsPerOrder ≤ o.items.length) || decide (Config.itemNumbersEnd ≤ o.nextItem)).getD
      false, .orderFull),
    (s.poolFree == 0, .poolFull)]

/-- The order total after a sale of a price (R50 test 17). -/
def totalAfter (o : Option Order) (price : Nat) : Nat := (o.map Order.total).getD 0 + price

/-! ## Acceptance (R52, R70, R72) -/

/-- The item of an accepted sale (R52, R69, R72). -/
def saleItem (s : State) (n : StationNo) (o : Order) (r : Priced) (label : Option Nat) : Item :=
  { number := o.nextItem, plu := r.record.fields.number, kind := r.record.fields.kind, amount := r.amount
    tare := r.tare, unitPrice := r.unitPrice, markdown := r.markdown, price := r.price
    generation := s.generation, station := n, label := label, time := s.clock
    state := if label.isSome then .pending else .confirmed }

/-- The order a sale joins: the clerk's own, opened first when there is none (R70). -/
def State.withOrder (s : State) (c : ClerkNo) (n : StationNo) : State :=
  if (s.order c).isNone then s.openOrder c n else s

/-- The reply to an accepted sale (R52). -/
def saleReply (order : Nat) (i : Item) : List Byte :=
  be 1 i.number ++ be 2 order ++ (match i.label with | some k => be 3 k | none => []) ++ be 2 i.amount
    ++ be 2 i.tare ++ be 3 i.unitPrice ++ flagByte (decide (0 < i.markdown)) ++ be 3 i.price
    ++ be 4 i.generation

/-- An accepted LABEL: the item PENDING and its item label composed (R52, R72, R90, R20). -/
def State.acceptLabel (s : State) (c : ClerkNo) (n : StationNo) (r : Priced) (o : Order) : State :=
  let i := saleItem s n o r (some (s.printer n).nextNumber)
  let s1 := s.onOrder c (·.allocate i)
  (s1.compose n (itemRecord s1 n c o.number r.record.fields i)).useTare n r.source

/-- An accepted ADD ITEM: the item CONFIRMED, and its queue number handed on as goods confirmed (R52, R72, R20). -/
def State.acceptItem (s : State) (c : ClerkNo) (n : StationNo) (r : Priced) (o : Order) : State :=
  ((s.onOrder c (·.allocate (saleItem s n o r none))).goodsConfirmed c o.queueNumber).useTare n r.source

/-- A sale that no test refuses, in the state in which its order is open. -/
def acceptSale (n : StationNo) (c : ClerkNo) (labelled : Bool) (r : Priced) (s : State) : Answer :=
  match s.order c with
  | none => (s, okReply [])
  | some o =>
    if labelled then
      (s.acceptLabel c n r o, okReply (saleReply o.number (saleItem s n o r (some (s.printer n).nextNumber))))
    else (s.acceptItem c n r o, okReply (saleReply o.number (saleItem s n o r none)))

/-- A LABEL or ADD ITEM request: the tests of R49 and R50 in order, then the acceptance of R52. -/
def saleRequest (labelled : Bool) (n : StationNo) (p : List Byte) (s : State) : Answer :=
  match firstOf (saleTests s n labelled), s.boundClerk n with
  | some e, _ => refuse s e
  | none, none => refuse s .noClerk
  | none, some c =>
    match firstOf (orderTests s n c labelled) with
    | some e => refuse s e
    | none =>
      match s.priceSale n (decodeSale p) true with
      | .error e => refuse s e
      | .ok r =>
        if Config.orderTotalLimit < totalAfter (s.order c) r.price then refuse s .totalLimit
        else acceptSale n c labelled r (s.withOrder c n)

/-- LABEL (R49 to R52). -/
def execLabel (n : StationNo) (s : State) : Result := answer (.s n) .label (saleRequest true n) s

/-- ADD ITEM (R49 to R52). -/
def execAddItem (n : StationNo) (s : State) : Result := answer (.s n) .addItem (saleRequest false n) s

/-! ## CLOSE ORDER (R79, R80) -/

/-- The tests of CLOSE ORDER on the clerk's order: R79's 5 and 6, then R80's when it has a CONFIRMED item. -/
def closeTests (s : State) (n : StationNo) (o : Order) : List (Bool × ResultCode) :=
  let goods := !(o.inState .confirmed).isEmpty
  [(o.holder != some n, .notHolder), (o.labelInFlight, .busy), (goods && !s.hasPrinter n, .noPrinter),
    (goods && s.slotBusy n, .printerBusy)]

/-- An order with goods closes: its total label composed, its state CLOSING, its revision stepped (R80). -/
def State.beginClose (s : State) (c : ClerkNo) (n : StationNo) (o : Order) : State :=
  (s.compose n (totalRecord s n c o)).onOrder c (·.setState .closing)

/-- A CLOSE ORDER request (R79, R80). -/
def closeOrderRequest (n : StationNo) (_ : List Byte) (s : State) : Answer :=
  match firstOf (linkTests s n), s.boundClerk n with
  | some e, _ => refuse s e
  | none, none => refuse s .noClerk
  | none, some c =>
    match s.order c with
    | none => refuse s .noOrder
    | some o =>
      match firstOf (closeTests s n o) with
      | some e => refuse s e
      | none =>
        if (o.inState .confirmed).isEmpty then
          (s.closeEmpty c, okReply (be 1 0 ++ be 2 o.number ++ be 1 (o.inState .voided).length))
        else
          (s.beginClose c n o,
            okReply (be 1 1 ++ be 3 (s.printer n).nextNumber ++ summaryOpen (s.beginClose c n o) c
              ++ be 3 (o.valueOf .confirmed)))

/-- CLOSE ORDER (R79, R80). -/
def execCloseOrder (n : StationNo) (s : State) : Result :=
  answer (.s n) .closeOrder (closeOrderRequest n) s

end Sys2Proof.Machine
end

