-- ==== Sys2Proof/Machine/Stations.lean ====
section
/-! DEFINITION. The counter controller but for the clock and power: enrolment and loss of stations, the beat, the
counter's opening and closing, settings, profiles and status (R138 to R145, R151 to R157). -/

namespace Sys2Proof.Machine

/-! ## Loss (R156) -/

/-- The station's transmit path at its loss: LABEL parts still waiting and the state lane are dropped; replies
stay (R178). -/
def LinkPort.drop (p : LinkPort) : LinkPort := { p with labelLane := [], stateLane := [] }

/-- The number of the order a station holds, if it holds one. -/
def State.heldOrderNumber (s : State) (n : StationNo) : Option Nat :=
  (s.holding n).bind fun c => (s.order c).map (·.number)

/-- Every block's part of a station's loss but the notice STATION_LOST (R156, R102, R84, R119, R23, R178). -/
def State.detach (s : State) (n : StationNo) : State :=
  (((((s.loseLabels n).parkHeld n).unbindRelease n).clearContext n).setStation n absentEntry).onPort (.s n)
    LinkPort.drop

/-- A station declared lost: STATION_LOST carries the clerk bound and the order held when it was declared (R156). -/
def State.loseStation (s : State) (n : StationNo) : State :=
  (s.detach n).raise .stationLost
    { station := some n, clerk := s.boundClerk n, order := s.heldOrderNumber n }

/-- A station declared lost when it is ENROLLED or SERVICE (R154, R155). -/
def State.loseIfPresent (s : State) (n : StationNo) : State :=
  if s.link n = .absent then s else s.loseStation n

/-- SILENCE_EXPIRY: the station's silence timer runs out (R154). -/
def execSilenceExpiry (n : StationNo) (s : State) : Result :=
  unlessReset s fun s => if (s.station n).silence.isSome then s.loseIfPresent n else s

/-- LINK RESET: a station's report arrives (R155). -/
def execLinkReset (n : StationNo) (s : State) : Result :=
  unlessReset s fun s => (s.goodFrame (.s n)).loseIfPresent n

/-! ## Enrolment (R152, R153) -/

/-- The metrology lock holds a service session OPEN on a station (R152, R158). -/
def State.sessionOn (s : State) (n : StationNo) : Bool :=
  match s.lock.session with
  | .opened st _ _ => st == n
  | _ => false

/-- The link state an enrolment takes (R152 step 2). -/
def State.enrolledLink (s : State) (n : StationNo) : LinkState :=
  if s.sessionOn n then .service else .enrolled

/-- An ABSENT station enrolled with a station record (R152). -/
def State.enrolAbsent (s : State) (n : StationNo) (r : StationRecord) : State :=
  (s.setStation n ⟨s.enrolledLink n, some r, some Config.silenceMs⟩).clearContext n

/-- A station enrolled, after its loss when it is ENROLLED or SERVICE (R152, R153). -/
def State.enrolStation (s : State) (n : StationNo) (r : StationRecord) : State :=
  (if s.link n = .absent then s else s.detach n).enrolAbsent n r

/-- An ENROL request (R152, R153). -/
def enrolRequest (n : StationNo) (p : List Byte) (s : State) : Answer :=
  match decodeEnrol p with
  | none => refuse s .badValue
  | some r =>
    (s.enrolStation n r,
      okReply (be 1 (s.enrolledLink n).code ++ be 1 s.counter.state.code ++ s.clock.bytes
        ++ be 4 s.generation ++ flagByte s.markdownActive ++ (s.profile n).bytes))

/-- ENROL (R152, R153). -/
def execEnrol (n : StationNo) (s : State) : Result := answer (.s n) .enrol (enrolRequest n) s

/-! ## The beat (R151) -/

/-- The payload of a BEAT push for a station (R151, R183). -/
def beatPayload (s : State) (n : StationNo) : List Byte :=
  s.clock.bytes ++ be 4 s.generation ++ flagByte s.markdownActive ++ be 1 s.counter.state.code
    ++ optional 1 ((s.boundClerk n).map fun c => be 1 (ordinal c))

/-- The BEAT push of one station, sent when it is ENROLLED or SERVICE (R151). -/
def State.beatTo (s : State) (n : StationNo) : State :=
  if s.link n = .absent then s else s.pushToStation n beatKind (beatPayload s n)

/-- The beat timer runs out: every station present is sent a beat, and the timer restarts (R151). -/
def State.beatAll (s : State) : State :=
  let s1 := (List.finRange 12).foldl State.beatTo s
  { s1 with counter := { s1.counter with beat := some Config.beatMs } }

/-- BEAT_EXPIRY (R151). -/
def execBeatExpiry (s : State) : Result :=
  unlessReset s fun s => if s.counter.beat.isSome then s.beatAll else s

/-! ## OPEN COUNTER and CLOSE COUNTER (R140, R141) -/

/-- An OPEN COUNTER request (R140). -/
def openCounterRequest (_ : List Byte) (s : State) : Answer :=
  match s.counter.state with
  | .closed => (s.enterState .opened, okReply (be 1 CounterState.opened.code))
  | .loading => refuse s .refusedState
  | .opened => refuse s .refusedState
  | .draining => refuse s .refusedState

/-- OPEN COUNTER (R140). -/
def execOpenCounter (s : State) : Result := answer .b .openCounter openCounterRequest s

/-- What a CLOSE COUNTER that is not refused leaves (R141). -/
def State.closeCounter (s : State) : State :=
  match s.counter.state with
  | .opened => if s.openOrderCount = 0 then s.enterState .closed else s.enterState .draining
  | .loading => s
  | .closed => s
  | .draining => s

/-- A CLOSE COUNTER request (R141). -/
def closeCounterRequest (_ : List Byte) (s : State) : Answer :=
  if s.counter.state = .loading then refuse s .refusedState
  else (s.closeCounter, okReply (be 1 s.closeCounter.counter.state.code ++ be 1 s.openOrderCount))

/-- CLOSE COUNTER (R141). -/
def execCloseCounter (s : State) : Result := answer .b .closeCounter closeCounterRequest s

/-! ## Settings and profiles (R144, R145) -/

/-- Every setting written, each into its owning block (R144). -/
def State.writeSettings (s : State) (r : SettingsRequest) : State :=
  { s with
    pricing := { s.pricing with settings := r.prices }
    queue :=
      { s.queue with rollLength := r.rollLength, rollLow := r.rollLow, queueLong := r.queueLong } }

/-- A SETTINGS WRITE request (R144). -/
def settingsWriteRequest (p : List Byte) (s : State) : Answer :=
  if s.trading then refuse s .refusedState
  else
    match decodeSettings p with
    | none => refuse s .badValue
    | some r => (s.writeSettings r, okReply [])

/-- SETTINGS WRITE (R144). -/
def execSettingsWrite (s : State) : Result := answer .b .settingsWrite settingsWriteRequest s

/-- A SETTINGS READ request (R144). -/
def settingsReadRequest (_ : List Byte) (s : State) : Answer :=
  (s, okReply (settingsBytes s.pricing.settings s.queue.rollLength s.queue.rollLow s.queue.queueLong))

/-- SETTINGS READ (R144). -/
def execSettingsRead (s : State) : Result := answer .b .settingsRead settingsReadRequest s

/-- A station's profile written (R145). -/
def State.writeProfile (s : State) (n : StationNo) (r : Profile) : State :=
  { s with lock := { s.lock with profiles := s.lock.profiles.put n r } }

/-- A PROFILE WRITE request (R145). -/
def profileWriteRequest (p : List Byte) (s : State) : Answer :=
  if s.trading then refuse s .refusedState
  else
    match decodeProfile p with
    | none => refuse s .badValue
    | some (n, r) => (s.writeProfile n r, okReply [])

/-- PROFILE WRITE (R145). -/
def execProfileWrite (s : State) : Result := answer .b .profileWrite profileWriteRequest s

/-! ## STATUS READ (R157) -/

/-- What STATUS READ returns of one station (R157). -/
def stationStatus (s : State) (n : StationNo) : List Byte :=
  be 1 (s.link n).code ++ optional 3 ((s.station n).record.map StationRecord.bytes) ++ (s.profile n).bytes

/-- A STATUS READ request (R157). -/
def statusReadRequest (_ : List Byte) (s : State) : Answer :=
  (s, okReply (be 1 s.counter.state.code ++ s.clock.bytes ++ (List.finRange 12).flatMap (stationStatus s)
    ++ be 1 s.openOrderCount ++ be 1 s.pricing.batch.code ++ be 1 (bufferCode s.totals)))

/-- STATUS READ, taken from B's or V's FIFO (R157). -/
def execStatusRead (p : Port) (s : State) : Result := answer p .statusRead statusReadRequest s

end Sys2Proof.Machine
end

