-- ==== Sys2Proof/Machine/Links.lean ====
section
/-! DEFINITION. The link controller: the check, the receive hunter, the sorting of accepted frames, and the end of
a frame's sending (R173 to R178). -/

namespace Sys2Proof.Machine

/-! ## The check (R174) -/

/-- One bit fed into the check register (R174). -/
def crcBit (r : BitVec 16) (bit : Bool) : BitVec 16 :=
  if r.getLsbD 15 != bit then (r <<< 1) ^^^ 0x1021 else r <<< 1

/-- One byte fed in, most significant bit first (R174). -/
def crcByte (r : BitVec 16) (b : Byte) : BitVec 16 :=
  [7, 6, 5, 4, 3, 2, 1, 0].foldl (fun r i => crcBit r (b.getLsbD i)) r

/-- The check of some bytes, from 0xFFFF (R174). -/
def checkOf (bs : List Byte) : BitVec 16 := bs.foldl crcByte 0xFFFF

/-! ## Frames as bytes (R174) -/

/-- The sync byte. -/
def syncByte : Byte := 0xA5

/-- The bytes the check covers: kind, tag, length and payload. -/
def checkedBytes (kind tag : Byte) (payload : List Byte) : List Byte :=
  kind :: tag :: BitVec.ofNat 8 payload.length :: payload

/-- The bytes of a frame with a check, sync byte first (R174). -/
def frameBytes (kind tag : Byte) (payload : List Byte) (check : BitVec 16) : List Byte :=
  syncByte :: (checkedBytes kind tag payload ++ be 2 check.toNat)

/-- The bytes the hub sends for a frame of its transmit path (R174). -/
def TxFrame.bytes (f : TxFrame) : List Byte :=
  frameBytes f.kind f.tag f.payload (checkOf (checkedBytes f.kind f.tag f.payload))

/-! ## The receive hunter (R175) -/

/-- What the bytes after a sync byte are found to be: a frame still incomplete, one to be discarded, or one that
is accepted, with the bytes that follow it. -/
inductive Found where
  | incomplete
  | discard
  | accepted (f : Request) (rest : List Byte)
  deriving DecidableEq, Repr

/-- The bytes after a sync byte examined: the length limit when the length byte is there, the check when the whole
frame is (R175). -/
def examine : List Byte → Found
  | kind :: tag :: len :: body =>
    let n := len.toNat
    if Config.maxPayload < n then .discard
    else if body.length < n + 2 then .incomplete
    else if (checkOf (checkedBytes kind tag (body.take n))).toNat = natAt body n 2 then
      .accepted ⟨kind, tag, body.take n⟩ (body.drop (n + 2))
    else .discard
  | _ => .incomplete

/-- The hunter's search through bytes from HUNTING: the accepted frames in order, and the hunter's state after.
A discarded frame's search resumes at the byte after its sync byte (R175). `fuel` is at least the byte count. -/
def scan : Nat → List Byte → List Request × Option (List Byte)
  | 0, _ => ([], none)
  | _ + 1, [] => ([], none)
  | fuel + 1, b :: bs =>
    if b = syncByte then
      match examine bs with
      | .incomplete => ([], some bs)
      | .discard => scan fuel bs
      | .accepted f rest => (f :: (scan fuel rest).1, (scan fuel rest).2)
    else scan fuel bs

/-- The search over all of some bytes. -/
def hunt (bs : List Byte) : List Request × Option (List Byte) := scan bs.length bs

/-- The bytes a hunter has not yet decided, its sync byte first. -/
def undecided : Option (List Byte) → List Byte
  | none => []
  | some held => syncByte :: held

/-! ## Sorting accepted frames (R176) -/

/-- A refusal at arrival: answered at once, or discarded while the reply lane is full (R176, R178). -/
def State.refuseFrame (s : State) (p : Port) (f : Request) (c : ResultCode) : State :=
  s.onPort p fun x =>
    if x.replyLane.length < Config.replyLaneFrames then x.pushReply (replyFrame f.kind f.tag (refusal c)) else x

/-- A report handed to the block that handles it (R176). -/
def State.report (s : State) (n : StationNo) (k : ReportKind) (payload : List Byte) : State :=
  match k with
  | .sample => s.sample n (intAt payload 0 3)
  | .printDone => s.printDone n (natAt payload 0 3)
  | .printFail => s.printFail n (natAt payload 0 3)
  | .linkReset => s.loseIfPresent n

/-- The tests of a request at arrival (R176). -/
def arrivalTests (s : State) (p : Port) (k : RequestKind) (payload : List Byte) : List (Bool × ResultCode) :=
  [(!k.permitted p, .notPermitted), (!k.lengths.contains payload.length, .badRequest),
    (decide (Config.fifoPlaces ≤ (s.port p).fifo.length), .full)]

/-- A request at arrival: refused, or appended to the port's FIFO (R176). -/
def State.arrive (s : State) (p : Port) (k : RequestKind) (f : Request) : State :=
  match firstOf (arrivalTests s p k f.payload) with
  | some c => s.refuseFrame p f c
  | none => s.onPort p fun x => { x with fifo := x.fifo ++ [f] }

/-- A report at arrival: handed on when its port is a station's and its length is the kind's, else discarded
(R176). -/
def State.arriveReport (s : State) (p : Port) (k : ReportKind) (f : Request) : State :=
  match p with
  | .s n => if f.payload.length = k.length then s.report n k f.payload else s
  | _ => s

/-- A frame a port's hunter accepts: the silence timer first, then the frame by its kind (R176). -/
def State.acceptFrame (p : Port) (s : State) (f : Request) : State :=
  let s1 := s.goodFrame p
  match classify f.kind with
  | .unknown => s1.refuseFrame p f .badRequest
  | .hubOnly => s1
  | .report k => s1.arriveReport p k f
  | .request k => s1.arrive p k f

/-- The hunter's state and gap timer after a search; the gap runs while IN_FRAME (R175). -/
def State.setHunter (s : State) (p : Port) (h : Option (List Byte)) : State :=
  s.onPort p fun x => { x with hunter := h, gap := if h.isSome then some Config.gapMs else none }

/-- A search's outcome taken over: the hunter's state, then each accepted frame in order. -/
def State.takeHunt (s : State) (p : Port) (r : List Request × Option (List Byte)) : State :=
  r.1.foldl (State.acceptFrame p) (s.setHunter p r.2)

/-- Bytes received on a port with no gap between them (R175). -/
def State.receive (s : State) (p : Port) (bs : List Byte) : State :=
  s.takeHunt p (hunt (undecided (s.port p).hunter ++ bs))

/-- CHARACTER_RECEIVED: one byte at a port's hunter (R175). -/
def execCharacterReceived (p : Port) (b : Byte) (s : State) : Result := unlessReset s (·.receive p [b])

/-- FRAME_ARRIVAL: the bytes of a whole frame at a port's hunter, with no gap between them (R175, R176). -/
def execFrameArrival (p : Port) (kind tag : Byte) (payload : List Byte) (check : BitVec 16) (s : State) : Result :=
  unlessReset s (·.receive p (frameBytes kind tag payload check))

/-- The gap limit runs out: the partial frame is discarded and the search resumes after its sync byte (R175). -/
def State.gapExpired (s : State) (p : Port) : State :=
  match (s.port p).hunter with
  | some held => if (s.port p).gap.isSome then s.takeHunt p (hunt held) else s
  | none => s

/-- GAP_LIMIT_EXPIRY (R175). -/
def execGapLimitExpiry (p : Port) (s : State) : Result := unlessReset s (·.gapExpired p)

/-! ## The end of a frame's sending (R178, R91) -/

/-- A frame is the last part of the push of a label: its part index is its part count (R91, R181). -/
def TxFrame.lastPartOf (f : TxFrame) (label : Nat) : Bool :=
  f.kind == labelKind && natAt f.payload 0 3 == label && natAt f.payload 3 1 == natAt f.payload 4 1

/-- The slot's deadline set when the last part of its label's push has left the link (R91). -/
def State.setDeadline (s : State) (n : StationNo) (f : TxFrame) : State :=
  match (s.printer n).slot with
  | none => s
  | some x =>
    if f.lastPartOf x.record.number then
      s.setPrinter n { s.printer n with slot := some { x with deadline := some Config.printMs } }
    else s

/-- The frame begun on a port has left the link (R178). -/
def State.frameSent (s : State) (p : Port) : State :=
  match (s.port p).sending with
  | none => s
  | some f =>
    let s1 := s.onPort p fun x => { x with sending := none }
    match p with
    | .s n => s1.setDeadline n f
    | _ => s1

/-- FRAME_SENT (R178). -/
def execFrameSent (p : Port) (s : State) : Result := unlessReset s (·.frameSent p)

end Sys2Proof.Machine
end

