-- ==== Sys2Proof/Machine/Notices.lean ====
section
/-! DEFINITION. The notice unit's requests: NOTICE TAKE, NOTICE ENABLE, NOTICE DISABLE, FLAGS READ and FLAGS CLEAR
(R186 to R188). -/

namespace Sys2Proof.Machine

/-- The notice unit changed by a function. -/
def State.onNotices (s : State) (f : NoticeUnit → NoticeUnit) : State := { s with notices := f s.notices }

/-- A NOTICE TAKE request (R186). -/
def noticeTakeRequest (_ : List Byte) (s : State) : Answer :=
  match s.notices.queue with
  | [] => (s, okReply (List.replicate 25 0))
  | r :: rest => (s.onNotices fun u => { u with queue := rest }, okReply (be 1 1 ++ r.bytes ++ be 1 rest.length))

/-- NOTICE TAKE (R186). -/
def execNoticeTake (s : State) : Result := answer .b .noticeTake noticeTakeRequest s

/-- The reply of NOTICE ENABLE and NOTICE DISABLE: OK with the enable mask after the event, and with no field when the
request's mask was 0 (R187). -/
def enableReply (asked after : BitVec 16) : Reply := okReply (if asked = 0 then [] else maskBytes after)

/-- A NOTICE ENABLE request (R187). -/
def noticeEnableRequest (p : List Byte) (s : State) : Answer :=
  if maskBad (maskAt p) then refuse s .badValue
  else
    let m := setFlags s.notices.enabled (maskAt p)
    (s.onNotices fun u => { u with enabled := m }, enableReply (maskAt p) m)

/-- NOTICE ENABLE (R187). -/
def execNoticeEnable (s : State) : Result := answer .b .noticeEnable noticeEnableRequest s

/-- A NOTICE DISABLE request (R187). -/
def noticeDisableRequest (p : List Byte) (s : State) : Answer :=
  if maskBad (maskAt p) then refuse s .badValue
  else
    let m := clearFlags s.notices.enabled (maskAt p)
    (s.onNotices fun u => { u with enabled := m }, enableReply (maskAt p) m)

/-- NOTICE DISABLE (R187). -/
def execNoticeDisable (s : State) : Result := answer .b .noticeDisable noticeDisableRequest s

/-- A FLAGS READ request (R188). -/
def flagsReadRequest (_ : List Byte) (s : State) : Answer :=
  (s, okReply (maskBytes s.notices.occurred ++ maskBytes s.notices.enabled ++ be 1 s.notices.queue.length))

/-- FLAGS READ (R188). -/
def execFlagsRead (s : State) : Result := answer .b .flagsRead flagsReadRequest s

/-- A FLAGS CLEAR request (R188). -/
def flagsClearRequest (p : List Byte) (s : State) : Answer :=
  if maskBad (maskAt p) then refuse s .badValue
  else
    let m := clearFlags s.notices.occurred (maskAt p)
    (s.onNotices fun u => { u with occurred := m }, okReply (maskBytes m))

/-- FLAGS CLEAR (R188). -/
def execFlagsClear (s : State) : Result := answer .b .flagsClear flagsClearRequest s

end Sys2Proof.Machine
end

