-- ==== Sys2Proof/Machine/Clock.lean ====
section
/-! DEFINITION. The counter clock: its seconds, TIME SET, and the day change (R148 to R150, R164). -/

namespace Sys2Proof.Machine

/-- The session after a day change: a lockout ends, any other session stands (R164). -/
def Session.afterDay : Session → Session
  | .lockedOut => .idle
  | x => x

/-- A day change: the last date follows the clock, the failure count is 0 and a lockout ends (R150, R164). -/
def State.changeDay (s : State) : State :=
  { s with
    counter := { s.counter with lastDate := s.counter.clock.date }
    lock := { s.lock with failures := 0, session := s.lock.session.afterDay } }

/-- A day change when the clock's date differs from the last date (R150). -/
def State.dayCheck (s : State) : State :=
  if s.counter.clock.date = s.counter.lastDate then s else s.changeDay

/-- The clock moved to a date-time. -/
def State.setClock (s : State) (t : DateTime) : State := { s with counter := { s.counter with clock := t } }

/-- CLOCK_TICK: one second; the day change and the batch's instant follow within the event (R148). While RESET is
low the clock alone goes on (R146). -/
def execClockTick (s : State) : Result :=
  if s.resetLow then .next (s.setClock s.clock.tick)
  else finish ((s.setClock s.clock.tick).dayCheck.activateIfDue)

/-- The signed step of a TIME SET in whole seconds (R149). -/
def timeStep (s : State) (t : DateTime) : Int := (t.seconds : Int) - (s.clock.seconds : Int)

/-- What a TIME SET that is not refused does (R149). -/
def State.stepTime (s : State) (t : DateTime) : State :=
  let s1 := s.setClock t
  let s2 :=
    if 2 < (timeStep s t).natAbs then s1.raise .timeStepped { variant := .step (timeStep s t) } else s1
  s2.dayCheck.activateIfDue

/-- A TIME SET request (R149). -/
def timeSetRequest (p : List Byte) (s : State) : Answer :=
  match decodeTime p with
  | none => refuse s .badValue
  | some t =>
    if 120 < (timeStep s t).natAbs ∧ s.trading = true then refuse s .refusedState
    else (s.stepTime t, okReply (t.bytes ++ beInt 6 (timeStep s t)))

/-- TIME SET (R149). -/
def execTimeSet (s : State) : Result := answer .b .timeSet timeSetRequest s

end Sys2Proof.Machine
end

