-- ==== Sys2Proof/Machine/Service.lean ====
section
/-! DEFINITION. The metrology lock: the key sequence, the open session and its captures, and the ends of a session
(R158 to R172). -/

namespace Sys2Proof.Machine

/-! ## Session states (R159) -/

namespace State

/-- The metrology lock changed by a function. -/
def onLock (s : State) (f : MetrologyLock → MetrologyLock) : State := { s with lock := f s.lock }

/-- The session IDLE with both timers stopped and everything it held discarded (R158). -/
def idleSession (s : State) : State :=
  s.onLock fun k => { k with session := .idle, sequence := none, inactivity := none }

/-- The inactivity timer started again at 15 min (R165). -/
def restartInactivity (s : State) : State := s.onLock fun k => { k with inactivity := some Config.inactivityMs }

end State

/-- What a request meets that only OPEN takes: outside OPEN it is refused by R159; in OPEN it restarts the
inactivity timer, answered OK or refused (R165). -/
def inOpen (act : StationNo → CalFields → Option (List Word32) → State → Answer) (s : State) : Answer :=
  match s.lock.session with
  | .opened st staged key => act st staged key s.restartInactivity
  | .lockedOut => refuse s .lockedOut
  | .idle => refuse s .refusedState
  | .synced _ _ => refuse s .refusedState

/-! ## The key sequence (R160 to R163) -/

/-- A SERVICE OPEN request (R159, R160). -/
def serviceOpenRequest (p : List Byte) (s : State) : Answer :=
  match s.lock.session with
  | .lockedOut => (s, ⟨.lockedOut, be 1 s.lock.failures⟩)
  | .synced _ _ => refuse s .refusedState
  | .opened _ _ _ => refuse s .refusedState
  | .idle =>
    match decodeServiceOpen p with
    | none => refuse s .badValue
    | some st =>
      (s.onLock fun k => { k with session := .synced st [], sequence := some Config.sequenceMs },
        okReply (be 4 s.lock.audit ++ be 1 s.lock.failures))

/-- SERVICE OPEN (R160). -/
def execServiceOpen (s : State) : Result := answer .v .serviceOpen serviceOpenRequest s

/-- A key failure on a session station (R162). -/
def State.failKey (s : State) (st : StationNo) : State :=
  let k := s.lock.failures + 1
  ((s.idleSession).onLock fun l =>
      { l with failures := k, session := if k = Config.lockoutFailures then .lockedOut else .idle }).raise
    .serviceKeyFailed { station := some st, variant := .failures k }

/-- The reply to a key failure (R162). -/
def failReply (k : Nat) : Reply :=
  if k = Config.lockoutFailures then refusal .lockedOut else ⟨.badValue, be 1 k⟩

/-- The tests of a matching key on the session station (R163). -/
def openTests (s : State) (st : StationNo) : List (Bool × ResultCode) :=
  [(s.link st == .absent, .noStation), (s.slotBusy st || (s.holding st).isSome, .stationBusy)]

/-- A session opened on a station (R163, R85, R21). -/
def State.openSession (s : State) (st : StationNo) : State :=
  let s1 :=
    s.onLock fun k =>
      { k with
        session := .opened st (s.calibration st).fields none, failures := 0, sequence := none
        inactivity := some Config.inactivityMs }
  ((s1.setStation st { s1.station st with link := .service }).unbindRelease st).emptyWindow st

/-- The two forms of SERVICE KEY's OK reply, in R161's order: the next key index after words 1 to 3, and the session
opened by word 4 (R161, R163, R183; log entry 6). -/
inductive KeyReply where
  | nextIndex (index : Nat)
  | opened (st : StationNo) (copied : CalRecord)
  deriving DecidableEq, Repr

/-- The fields of SERVICE KEY's OK reply, behind the form's byte (R161, R163, R183). -/
def KeyReply.bytes : KeyReply → List Byte
  | .nextIndex index => be 1 0 ++ be 1 index
  | .opened st copied => be 1 1 ++ be 1 (ordinal st) ++ copied.bytes

/-- Four words judged: a failure, a refusal that ends the sequence, or the session opened (R162, R163). -/
def judgeKey (s : State) (st : StationNo) (words : List Word32) : Answer :=
  if words = s.lock.key then
    match firstOf (openTests s st) with
    | some e => (s.idleSession, refusal e)
    | none => (s.openSession st, okReply (KeyReply.opened st (s.calibration st)).bytes)
  else (s.failKey st, failReply (s.lock.failures + 1))

/-- A SERVICE KEY request (R159, R161). -/
def serviceKeyRequest (p : List Byte) (s : State) : Answer :=
  match s.lock.session with
  | .lockedOut => refuse s .lockedOut
  | .idle => refuse s .refusedState
  | .opened _ _ _ => refuse s .refusedState
  | .synced st words =>
    let words' := words ++ [BitVec.ofNat 32 (natAt p 0 4)]
    if words'.length < 4 then
      (s.onLock fun k => { k with session := .synced st words' }, okReply (KeyReply.nextIndex (words'.length + 1)).bytes)
    else judgeKey s st words'

/-- SERVICE KEY (R161). -/
def execServiceKey (s : State) : Result := answer .v .serviceKey serviceKeyRequest s

/-- SEQUENCE_TIMER_EXPIRY: the sequence ends uncounted (R161). -/
def execSequenceTimerExpiry (s : State) : Result :=
  unlessReset s fun s => if s.lock.sequence.isSome then s.idleSession else s

/-! ## Working in an open session (R165 to R169) -/

/-- A flag that is set when something is present. -/
def presentFlag {α : Type} (x : Option α) : List Byte := flagByte x.isSome

/-- A CAL READ request (R165). -/
def calReadRequest (_ : List Byte) (s : State) : Answer :=
  inOpen (fun st staged key s =>
    (s, okReply (be 1 (ordinal st) ++ be 1 (s.link st).code ++ (s.calibration st).bytes ++ staged.bytes
      ++ presentFlag key ++ be 1 (s.context st).window.length ++ be 4 s.lock.audit))) s

/-- CAL READ (R165). -/
def execCalRead (s : State) : Result := answer .v .calRead calReadRequest s

/-- The staged calibration with the fields a CAL WRITE carries (R166). -/
def CalFields.write (f : CalFields) (c : CalChanges) : CalFields :=
  ⟨c.z.getD f.z, c.s.getD f.s, c.l.getD f.l, c.max1.getD f.max1, c.e1.getD f.e1, c.max2.getD f.max2,
    c.e2.getD f.e2⟩

/-- The staged calibration of the open session replaced; the staged key stays. -/
def State.stage (s : State) (st : StationNo) (f : CalFields) (key : Option (List Word32)) : State :=
  s.onLock fun k => { k with session := .opened st f key }

/-- A CAL WRITE request (R166). -/
def calWriteRequest (p : List Byte) (s : State) : Answer :=
  inOpen (fun st staged key s =>
    let c := decodeCalWrite p
    if c.valid then (s.stage st (staged.write c) key, okReply (staged.write c).bytes)
    else refuse s .badValue) s

/-- CAL WRITE (R166). -/
def execCalWrite (s : State) : Result := answer .v .calWrite calWriteRequest s

/-- The raw counts of a station's window, oldest first. -/
def State.rawCounts (s : State) (st : StationNo) : List Int := (s.context st).window.map (·.raw)

/-- The raw tolerance: the counts that half an e1 graduation spans (R167). -/
def CalFields.tolerance (f : CalFields) : Nat := f.s * f.e1 / (2 * f.l)

/-- The mean of six raw counts, halves away from zero (R167). -/
def rawMean (counts : List Int) : Int := roundHalfAway counts.sum 6

/-- The tests the captures share: NO_SAMPLES, BAD_CAL, NOT_STABLE (R167 tests 1 to 3, R168 tests 2 to 4). -/
def captureTests (s : State) (st : StationNo) (f : CalFields) : List (Bool × ResultCode) :=
  [(s.link st == .absent || decide ((s.rawCounts st).length < Config.windowEntries), .noSamples),
    (!(spanOk f.s && loadOk f.l && intervalOk f.e1), .badCal),
    (decide ((f.tolerance : Int) < spread (s.rawCounts st)), .notStable)]

/-- A CAPTURE ZERO request (R167). -/
def captureZeroRequest (_ : List Byte) (s : State) : Answer :=
  inOpen (fun st staged key s =>
    match firstOf (captureTests s st staged) with
    | some e => refuse s e
    | none =>
      let z := rawMean (s.rawCounts st)
      (s.stage st { staged with z := z } key,
        okReply (beInt 3 z ++ be 3 (spread (s.rawCounts st)).toNat))) s

/-- CAPTURE ZERO (R167). -/
def execCaptureZero (s : State) : Result := answer .v .captureZero captureZeroRequest s

/-- The tests of CAPTURE SPAN against a load (R168). -/
def spanTests (s : State) (st : StationNo) (f : CalFields) (load : Nat) : List (Bool × ResultCode) :=
  let rise := rawMean (s.rawCounts st) - f.z
  [(!loadOk load, .badValue)] ++ captureTests s st f ++
    [(decide (rise < 10000) || decide (8000000 < rise), .outOfRange)]

/-- A CAPTURE SPAN request (R168). -/
def captureSpanRequest (p : List Byte) (s : State) : Answer :=
  inOpen (fun st staged key s =>
    let load := natAt p 0 2
    match firstOf (spanTests s st staged load) with
    | some e => refuse s e
    | none =>
      let span := (rawMean (s.rawCounts st) - staged.z).toNat
      (s.stage st { staged with s := span, l := load } key,
        okReply (be 3 span ++ be 2 load ++ be 3 (spread (s.rawCounts st)).toNat))) s

/-- CAPTURE SPAN (R168). -/
def execCaptureSpan (s : State) : Result := answer .v .captureSpan captureSpanRequest s

/-- A KEY CHANGE request (R169). -/
def keyChangeRequest (p : List Byte) (s : State) : Answer :=
  inOpen (fun st staged _ s => (s.stage st staged (some (decodeKey p)), okReply [])) s

/-- KEY CHANGE (R169). -/
def execKeyChange (s : State) : Result := answer .v .keyChange keyChangeRequest s

/-! ## Ending a session (R170 to R172) -/

/-- A station's return from SERVICE to ENROLLED; one that is ABSENT stays so (R170 step 4, R171, R172). -/
def State.leaveService (s : State) (st : StationNo) : State :=
  if s.link st = .service then s.setStation st { s.station st with link := .enrolled } else s

/-- The open session ended with no calibration change: staging and staged key discarded, the window emptied at a
return from SERVICE (R171, R22). -/
def State.endUnchanged (s : State) (st : StationNo) : State :=
  let s1 := s.idleSession
  if s1.link st = .service then (s1.leaveService st).emptyWindow st else s1

/-- A changed calibration committed: the record SET with the staged fields, the audit counter stepped,
CALIBRATION_CHANGED raised and the context restarted (R170 step 1, R22). -/
def State.commitCal (s : State) (st : StationNo) (f : CalFields) : State :=
  (((s.onLock fun k =>
      { k with records := k.records.put st ⟨true, f⟩, audit := k.audit + 1 }).raise .calibrationChanged
    { station := some st, variant := .audit (s.lock.audit + 1) }).setContext st (clearedContext true))

/-- A staged key becomes the service key (R170 step 2). -/
def State.commitKey (s : State) (key : Option (List Word32)) : State :=
  s.onLock fun k => { k with key := key.getD k.key }

/-- A change is present: a field differs, or the record in force is UNSET (R170). -/
def calChanged (r : CalRecord) (staged : CalFields) : Bool := !r.isSet || r.fields != staged

/-- The place of the first check that fails, counted from 0 in R170's order; 12 when none fails. -/
def CalFields.firstFailing (f : CalFields) : Nat := (f.checks.takeWhile id).length

/-- What a SERVICE CLOSE that is not refused does (R170). -/
def State.closeSession (s : State) (st : StationNo) (f : CalFields) (key : Option (List Word32)) : State :=
  if calChanged (s.calibration st) f then (((s.commitCal st f).commitKey key).idleSession).leaveService st
  else (s.commitKey key).endUnchanged st

/-- A SERVICE CLOSE request (R170). -/
def serviceCloseRequest (_ : List Byte) (s : State) : Answer :=
  inOpen (fun st staged key s =>
    let changed := calChanged (s.calibration st) staged
    if staged.valid = false then (s, ⟨.badCal, be 1 staged.firstFailing⟩)
    else if changed && s.lock.audit == Config.lastAudit then refuse s .refusedState
    else
      (s.closeSession st staged key,
        okReply (flagByte changed ++ presentFlag key ++ be 4 (s.closeSession st staged key).lock.audit))) s

/-- SERVICE CLOSE (R170). -/
def execServiceClose (s : State) : Result := answer .v .serviceClose serviceCloseRequest s

/-- A SERVICE ABANDON request (R159, R171). -/
def serviceAbandonRequest (_ : List Byte) (s : State) : Answer :=
  match s.lock.session with
  | .idle => refuse s .refusedState
  | .lockedOut => refuse s .lockedOut
  | .synced _ _ => (s.idleSession, okReply [])
  | .opened st _ _ => (s.endUnchanged st, okReply [])

/-- SERVICE ABANDON (R171). -/
def execServiceAbandon (s : State) : Result := answer .v .serviceAbandon serviceAbandonRequest s

/-- The inactivity timer runs out in OPEN: the session is abandoned (R171). -/
def State.inactivityExpired (s : State) : State :=
  match s.lock.session with
  | .opened st _ _ => if s.lock.inactivity.isSome then s.endUnchanged st else s
  | .idle => s
  | .synced _ _ => s
  | .lockedOut => s

/-- INACTIVITY_EXPIRY (R171). -/
def execInactivityExpiry (s : State) : Result := unlessReset s (·.inactivityExpired)

end Sys2Proof.Machine
end

