-- ==== Sys2Proof/Machine/Power.lean ====
section
/-! DEFINITION. The RESET and LOAD_HOLD lines and the retained store: reset, power-on handling, formatting (R39,
R41, R87, R88, R107, R126, R138, R139, R146, R147, R158, R173, R184). -/

namespace Sys2Proof.Machine

/-! ## While RESET is low (R146) -/

/-- A station's print deadline stopped. -/
def LabelStation.stopped (x : LabelStation) : LabelStation :=
  { x with slot := x.slot.map fun p => { p with deadline := none } }

/-- RESET driven low: no frame is received or sent, partial frames, waiting requests and unsent frames are lost,
and every timer stops (R146, R173). -/
def State.enterReset (s : State) : State :=
  { s with
    resetLow := true
    ports := Table.fill 15 emptyPort
    counter :=
      { s.counter with
        beat := none, roster := s.counter.roster.each fun r => { r with silence := none } }
    labels := s.labels.each LabelStation.stopped
    lock := { s.lock with sequence := none, inactivity := none } }

/-- RESET_ASSERT (R146). -/
def execResetAssert (s : State) : Result := .next s.enterReset

/-- BATTERY_FAILURE: with the supply off, which holds RESET low, the store loses its contents and the marker is
wrong (R146; log entry 14). -/
def execBatteryFailure (s : State) : Result :=
  .next (if s.resetLow then { s with markerOk := false } else s)

/-! ## Reset release (R146, R147) -/

/-- The retained store formatted: every block's retained state at its formatted value, the clock and last date at
2000-01-01, and the marker correct (R146). -/
def State.format (s : State) : State :=
  { s with
    markerOk := true
    counter := { s.counter with clock := epoch, lastDate := epochDate }
    plu := emptyTable
    pricing := { s.pricing with settings := defaultPrices }
    orders := { s.orders with clerks := Table.fill 32 blankClerk }
    labels := s.labels.each fun x => { x with nextNumber := 1 }
    queue := { s.queue with rollLength := 2000, rollLow := 100, queueLong := 30 }
    totals := zeroTotals
    lock :=
      { s.lock with
        records := Table.fill 12 unsetCal, profiles := Table.fill 12 defaultProfile, key := zeroKey
        audit := 0, failures := 0 } }

/-- The check of the validity marker (R146). -/
def State.checkMarker (s : State) : State := if s.markerOk then s else s.format

/-- The pricing unit at power-on (R41). -/
def PricingUnit.powerOn (u : PricingUnit) : PricingUnit :=
  { u with generation := 1, batch := .empty, entries := [], instant := none, result := none }

/-- The order manager at power-on (R62, R87). -/
def OrderManager.powerOn (u : OrderManager) : OrderManager :=
  { clerks := u.clerks.each fun e => { e with bound := none }, orders := Table.fill 32 none
    lastOrderNumber := 0 }

/-- The queue unit controller at power-on (R107). -/
def QueueUnit.powerOn (q : QueueUnit) : QueueUnit :=
  { q with
    nextNumber := 1, roll := q.rollLength, waiting := [], serving := Table.fill 32 none, missed := []
    blocked := false }

/-- The metrology lock at power-on: LOCKED_OUT when the failure count is 3 (R158). -/
def MetrologyLock.powerOn (k : MetrologyLock) : MetrologyLock :=
  { k with
    session := if k.failures = Config.lockoutFailures then .lockedOut else .idle
    sequence := none, inactivity := none }

/-- The notice unit at power-on (R184). -/
def noticesAtPowerOn : NoticeUnit := ⟨0, allClasses, []⟩

/-- Step 1 of the power-on handling: every block's volatile state (R147). -/
def State.initVolatile (s : State) : State :=
  { s with
    ports := Table.fill 15 emptyPort
    notices := noticesAtPowerOn
    counter := { s.counter with roster := Table.fill 12 absentEntry }
    weighing := Vector.ofFn fun n => clearedContext (s.calibration n).isSet
    plu := s.plu.restartGenerations
    pricing := s.pricing.powerOn
    orders := s.orders.powerOn
    labels := s.labels.each fun x => { x with slot := none, last := none }
    queue := s.queue.powerOn
    lock := s.lock.powerOn }

/-- Step 2: the orders open when RESET fell counted as lost, and ORDERS_LOST raised (R126, R147). -/
def State.countLost (s : State) : State :=
  let k := s.totals.openOrders
  if k = 0 then s
  else
    (s.onTotals fun t =>
      { t with
        openOrders := 0
        counter := { t.counter with ordersLost := addCount t.counter.ordersLost k } }).raise .ordersLost
      { variant := .count k }

/-- Step 4: the counter enters LOADING or CLOSED as LOAD_HOLD stands (R139). -/
def State.sampleLoadHold (s : State) : State := s.enterState (if s.loadHold then .loading else .closed)

/-- The power-on handling, with the beat timer started at its end (R147, R151). -/
def State.powerOn (s : State) : State :=
  let s1 := ((s.checkMarker.initVolatile).countLost.dayCheck).sampleLoadHold
  { s1 with counter := { s1.counter with beat := some Config.beatMs } }

/-- RESET_RELEASE: RESET, held low, goes high (R146, R147). -/
def execResetRelease (s : State) : Result :=
  if s.resetLow then finish ({ s with resetLow := false } : State).powerOn else .next s

/-! ## LOAD_HOLD (R139) -/

/-- LOAD_HOLD_RELEASE: the line deasserts; in LOADING the counter enters CLOSED (R139). -/
def execLoadHoldRelease (s : State) : Result :=
  let s1 : State := { s with loadHold := false }
  unlessReset s1 fun s => if s.counter.state = .loading then s.enterState .closed else s

/-- LOAD_HOLD_ASSERT: the line is driven high; a running hub does nothing at it (R139). -/
def execLoadHoldAssert (s : State) : Result := .next { s with loadHold := true }

end Sys2Proof.Machine
end

