-- ==== Sys2Proof/Machine/Dispatch.lean ====
section
/-! DEFINITION. One arm per command: the meaning each command calls. -/

namespace Sys2Proof.Machine

def exec (i : Instr) (s : State) : Host.Outcome State Fault Refusal :=
  match i with
  | .resetAssert => Sys2Proof.Machine.execResetAssert s
  | .resetRelease => Sys2Proof.Machine.execResetRelease s
  | .loadHoldRelease => Sys2Proof.Machine.execLoadHoldRelease s
  | .frameArrival p kind tag payload check => Sys2Proof.Machine.execFrameArrival p kind tag payload check s
  | .gapLimitExpiry p => Sys2Proof.Machine.execGapLimitExpiry p s
  | .frameSent p => Sys2Proof.Machine.execFrameSent p s
  | .sample n count => Sys2Proof.Machine.execSample n count s
  | .printDone n label => Sys2Proof.Machine.execPrintDone n label s
  | .printFail n label => Sys2Proof.Machine.execPrintFail n label s
  | .linkReset n => Sys2Proof.Machine.execLinkReset n s
  | .printDeadlineExpiry n => Sys2Proof.Machine.execPrintDeadlineExpiry n s
  | .silenceExpiry n => Sys2Proof.Machine.execSilenceExpiry n s
  | .beatExpiry => Sys2Proof.Machine.execBeatExpiry s
  | .clockTick => Sys2Proof.Machine.execClockTick s
  | .batchActivation => Sys2Proof.Machine.execBatchActivation s
  | .sequenceTimerExpiry => Sys2Proof.Machine.execSequenceTimerExpiry s
  | .inactivityExpiry => Sys2Proof.Machine.execInactivityExpiry s
  | .enrol n => Sys2Proof.Machine.execEnrol n s
  | .zero n => Sys2Proof.Machine.execZero n s
  | .tareKey n => Sys2Proof.Machine.execTareKey n s
  | .tareSet n => Sys2Proof.Machine.execTareSet n s
  | .tareClear n => Sys2Proof.Machine.execTareClear n s
  | .clerkOn n => Sys2Proof.Machine.execClerkOn n s
  | .clerkOff n => Sys2Proof.Machine.execClerkOff n s
  | .quote n => Sys2Proof.Machine.execQuote n s
  | .label n => Sys2Proof.Machine.execLabel n s
  | .addItem n => Sys2Proof.Machine.execAddItem n s
  | .voidItem n => Sys2Proof.Machine.execVoidItem n s
  | .parkOrder n => Sys2Proof.Machine.execParkOrder n s
  | .claimOrder n => Sys2Proof.Machine.execClaimOrder n s
  | .closeOrder n => Sys2Proof.Machine.execCloseOrder n s
  | .reprint n => Sys2Proof.Machine.execReprint n s
  | .callNext n => Sys2Proof.Machine.execCallNext n s
  | .recall n => Sys2Proof.Machine.execRecall n s
  | .recallMissed n => Sys2Proof.Machine.execRecallMissed n s
  | .pluWrite => Sys2Proof.Machine.execPluWrite s
  | .pluRead => Sys2Proof.Machine.execPluRead s
  | .pluRemove => Sys2Proof.Machine.execPluRemove s
  | .pluWipe => Sys2Proof.Machine.execPluWipe s
  | .batchAdd => Sys2Proof.Machine.execBatchAdd s
  | .batchCommit => Sys2Proof.Machine.execBatchCommit s
  | .batchClear => Sys2Proof.Machine.execBatchClear s
  | .batchStatus => Sys2Proof.Machine.execBatchStatus s
  | .openCounter => Sys2Proof.Machine.execOpenCounter s
  | .closeCounter => Sys2Proof.Machine.execCloseCounter s
  | .timeSet => Sys2Proof.Machine.execTimeSet s
  | .settingsWrite => Sys2Proof.Machine.execSettingsWrite s
  | .settingsRead => Sys2Proof.Machine.execSettingsRead s
  | .clerkWrite => Sys2Proof.Machine.execClerkWrite s
  | .clerkRead => Sys2Proof.Machine.execClerkRead s
  | .profileWrite => Sys2Proof.Machine.execProfileWrite s
  | .statusRead p => Sys2Proof.Machine.execStatusRead p s
  | .totalsRead => Sys2Proof.Machine.execTotalsRead s
  | .zClose => Sys2Proof.Machine.execZClose s
  | .reportRead => Sys2Proof.Machine.execReportRead s
  | .reportRelease => Sys2Proof.Machine.execReportRelease s
  | .noticeTake => Sys2Proof.Machine.execNoticeTake s
  | .noticeEnable => Sys2Proof.Machine.execNoticeEnable s
  | .noticeDisable => Sys2Proof.Machine.execNoticeDisable s
  | .flagsRead => Sys2Proof.Machine.execFlagsRead s
  | .flagsClear => Sys2Proof.Machine.execFlagsClear s
  | .serviceOpen => Sys2Proof.Machine.execServiceOpen s
  | .serviceKey => Sys2Proof.Machine.execServiceKey s
  | .calRead => Sys2Proof.Machine.execCalRead s
  | .calWrite => Sys2Proof.Machine.execCalWrite s
  | .captureZero => Sys2Proof.Machine.execCaptureZero s
  | .captureSpan => Sys2Proof.Machine.execCaptureSpan s
  | .keyChange => Sys2Proof.Machine.execKeyChange s
  | .serviceClose => Sys2Proof.Machine.execServiceClose s
  | .serviceAbandon => Sys2Proof.Machine.execServiceAbandon s
  | .take => Sys2Proof.Machine.execTake s
  | .rollLoaded => Sys2Proof.Machine.execRollLoaded s
  | .characterReceived p b => Sys2Proof.Machine.execCharacterReceived p b s
  | .loadHoldAssert => Sys2Proof.Machine.execLoadHoldAssert s
  | .batteryFailure => Sys2Proof.Machine.execBatteryFailure s

end Sys2Proof.Machine
end

