-- ==== Sys2Proof/Safety.lean ====
section
/-! DEFINITION. What holds between events: the laws the manual states of the whole hub, as predicates on a state,
and the words the statements use for a request that waits and one that has been answered. -/

namespace Sys2Proof.Machine

/-! ## Requests waiting and answered (R177) -/

/-- A request of a kind, with a tag and a payload, is the oldest of a port's FIFO, and its owner may take it:
RESET is high and the reply lane has room (R146, R177, R178). -/
def Waits (s : State) (p : Port) (k : RequestKind) (tag : Byte) (payload : List Byte) (rest : List Request) : Prop :=
  s.resetLow = false ∧ (s.port p).fifo = ⟨k.code, tag, payload⟩ :: rest
    ∧ (s.port p).replyLane.length < Config.replyLaneFrames

/-- The port and the kind of the request that a command takes; none for the other events (R177, R179). -/
def requestOf : Instr → Option (Port × RequestKind)
  | .enrol n => some (.s n, .enrol)
  | .zero n => some (.s n, .zero)
  | .tareKey n => some (.s n, .tareKey)
  | .tareSet n => some (.s n, .tareSet)
  | .tareClear n => some (.s n, .tareClear)
  | .clerkOn n => some (.s n, .clerkOn)
  | .clerkOff n => some (.s n, .clerkOff)
  | .quote n => some (.s n, .quote)
  | .label n => some (.s n, .label)
  | .addItem n => some (.s n, .addItem)
  | .voidItem n => some (.s n, .voidItem)
  | .parkOrder n => some (.s n, .parkOrder)
  | .claimOrder n => some (.s n, .claimOrder)
  | .closeOrder n => some (.s n, .closeOrder)
  | .reprint n => some (.s n, .reprint)
  | .callNext n => some (.s n, .callNext)
  | .recall n => some (.s n, .recall)
  | .recallMissed n => some (.s n, .recallMissed)
  | .pluWrite => some (.b, .pluWrite)
  | .pluRead => some (.b, .pluRead)
  | .pluRemove => some (.b, .pluRemove)
  | .pluWipe => some (.b, .pluWipe)
  | .batchAdd => some (.b, .batchAdd)
  | .batchCommit => some (.b, .batchCommit)
  | .batchClear => some (.b, .batchClear)
  | .batchStatus => some (.b, .batchStatus)
  | .openCounter => some (.b, .openCounter)
  | .closeCounter => some (.b, .closeCounter)
  | .timeSet => some (.b, .timeSet)
  | .settingsWrite => some (.b, .settingsWrite)
  | .settingsRead => some (.b, .settingsRead)
  | .clerkWrite => some (.b, .clerkWrite)
  | .clerkRead => some (.b, .clerkRead)
  | .profileWrite => some (.b, .profileWrite)
  | .statusRead p => some (p, .statusRead)
  | .totalsRead => some (.b, .totalsRead)
  | .zClose => some (.b, .zClose)
  | .reportRead => some (.b, .reportRead)
  | .reportRelease => some (.b, .reportRelease)
  | .noticeTake => some (.b, .noticeTake)
  | .noticeEnable => some (.b, .noticeEnable)
  | .noticeDisable => some (.b, .noticeDisable)
  | .flagsRead => some (.b, .flagsRead)
  | .flagsClear => some (.b, .flagsClear)
  | .serviceOpen => some (.v, .serviceOpen)
  | .serviceKey => some (.v, .serviceKey)
  | .calRead => some (.v, .calRead)
  | .calWrite => some (.v, .calWrite)
  | .captureZero => some (.v, .captureZero)
  | .captureSpan => some (.v, .captureSpan)
  | .keyChange => some (.v, .keyChange)
  | .serviceClose => some (.v, .serviceClose)
  | .serviceAbandon => some (.v, .serviceAbandon)
  | .take => some (.q, .take)
  | .rollLoaded => some (.q, .rollLoaded)
  | .resetAssert => none
  | .resetRelease => none
  | .loadHoldRelease => none
  | .frameArrival _ _ _ _ _ => none
  | .gapLimitExpiry _ => none
  | .frameSent _ => none
  | .sample _ _ => none
  | .printDone _ _ => none
  | .printFail _ _ => none
  | .linkReset _ => none
  | .printDeadlineExpiry _ => none
  | .silenceExpiry _ => none
  | .beatExpiry => none
  | .clockTick => none
  | .batchActivation => none
  | .sequenceTimerExpiry => none
  | .inactivityExpiry => none
  | .characterReceived _ _ => none
  | .loadHoldAssert => none
  | .batteryFailure => none

/-- The state with a port's FIFO place freed: its requests are the rest (R177). -/
def State.freed (s : State) (p : Port) (rest : List Request) : State :=
  s.onPort p fun x => { x with fifo := rest }

/-- The state after a request's reply has been handed to its port and the transmitters have begun what they can: a
REPLY of the request's kind code plus 0x80, its tag, the result code and the fields (R177, R178; how a frame begins is
log entry 4's reading, in every statement that names this state). -/
def replied (p : Port) (k : RequestKind) (tag : Byte) (a : Answer) : State :=
  (a.1.onPort p (·.pushReply ⟨k.code + 0x80, tag, be 1 a.2.code.value ++ a.2.fields⟩)).startAll

/-- The kind codes of R179's table: requests, reports, pushes and replies. -/
def kindInTable (b : Byte) : Bool :=
  (1 ≤ b.toNat && b.toNat ≤ 0x12) || (0x20 ≤ b.toNat && b.toNat ≤ 0x39) || (0x40 ≤ b.toNat && b.toNat ≤ 0x48)
    || (0x50 ≤ b.toNat && b.toNat ≤ 0x51) || (0x60 ≤ b.toNat && b.toNat ≤ 0x63)
    || (0x70 ≤ b.toNat && b.toNat ≤ 0x73) || (0x81 ≤ b.toNat && b.toNat ≤ 0x92)
    || (0xA0 ≤ b.toNat && b.toNat ≤ 0xB9) || (0xC0 ≤ b.toNat && b.toNat ≤ 0xC8)
    || (0xD0 ≤ b.toNat && b.toNat ≤ 0xD1)

/-- A kind code only the hub sends: a push or a reply (R176, R179). -/
def hubKind (b : Byte) : Bool := kindInTable b && (0x70 ≤ b.toNat)

/-- RESET is high and a port's hunter is HUNTING, its gap timer stopped (R175). -/
def Hunting (s : State) (p : Port) : Prop :=
  s.resetLow = false ∧ (s.port p).hunter = none ∧ (s.port p).gap = none

/-! ## Links and notices -/

/-- A state lane holds at most one WEIGHT and at most one BEAT push, and nothing else (R178). -/
def StateLaneOk (fs : List TxFrame) : Prop :=
  (fs.map (·.kind)).Nodup ∧ ∀ f ∈ fs, f.kind = weightKind ∨ f.kind = beatKind

/-- What holds of one port: FIFO and reply lane within their places, the state lane as R178 has it, the gap timer
running exactly while IN_FRAME, and a partial frame that is still undecided (R173, R175, R178). -/
def LinkPort.Ok (p : LinkPort) : Prop :=
  p.fifo.length ≤ Config.fifoPlaces ∧ p.replyLane.length ≤ Config.replyLaneFrames ∧ StateLaneOk p.stateLane
    ∧ p.gap.isSome = p.hunter.isSome ∧ ∀ held ∈ p.hunter, examine held = .incomplete

/-- The links' law: every port within its bounds, and at most 16 DISPLAY pushes waiting on Q (R173, R178). -/
def State.LinksOk (s : State) : Prop :=
  (∀ i : Fin 15, (s.ports.get i).Ok) ∧ (s.port .q).labelLane.length ≤ Config.displayLaneFrames

/-- The notice unit's law: at most 32 records, and masks of fourteen classes (R184, R187). -/
def State.NoticesOk (s : State) : Prop :=
  s.notices.queue.length ≤ Config.noticeQueueRecords ∧ maskBad s.notices.occurred = false
    ∧ maskBad s.notices.enabled = false

/-! ## Clock, batch, generation -/

/-- The clock shows a date and time the calendar has, and, out of RESET, the last date is its date (R148, R150). -/
def State.ClockOk (s : State) : Prop :=
  s.counter.clock.valid = true ∧ (s.resetLow = false → s.counter.lastDate = s.counter.clock.date)

/-- The staged batch agrees with its state (R41, R54, R55). -/
def State.BatchOk (s : State) : Prop :=
  s.pricing.entries.length ≤ Config.batchPlaces ∧ (∀ e ∈ s.pricing.entries, e.valid = true) ∧
    match s.pricing.batch with
    | .empty => s.pricing.entries = [] ∧ s.pricing.instant = none
    | .filling => s.pricing.entries ≠ [] ∧ s.pricing.instant = none
    | .armed => s.pricing.entries ≠ [] ∧ s.pricing.instant ≠ none

/-- The price generation is within its range, and no PLU record and no item of an open order carries a
generation above it (R29, R53). -/
def State.GenerationOk (s : State) : Prop :=
  1 ≤ s.generation ∧ s.generation ≤ Config.lastGeneration
    ∧ (∀ l : LeafNo, ∀ leaf ∈ s.plu.pool.get l, ∀ k : Fin 32, ∀ r ∈ leaf.get k, r.changedGen ≤ s.generation)
    ∧ ∀ c : ClerkNo, ∀ o ∈ s.order c, ∀ i ∈ o.items, i.generation ≤ s.generation

/-! ## PLU table (R25 to R27) -/

/-- What a directory entry promises: its leaf is allocated, holds a record, and every record in it stands in its
own slot with valid selling fields (R25, R26, R27). -/
def PluTable.EntryOk (t : PluTable) (e : Nat × LeafNo) : Prop :=
  e.1 ≤ 3124 ∧ ∃ leaf ∈ t.pool.get e.2,
    (∃ k : Fin 32, (leaf.get k).isSome) ∧
      ∀ k : Fin 32, ∀ r ∈ leaf.get k, r.fields.number = e.1 * 32 + k.val ∧ r.fields.valid = true

/-- The PLU table's law: entries by rising index, no leaf named twice, each entry's leaf as it promises, and a leaf
allocated exactly when an entry names it (R25, R26). -/
def PluTable.Ok (t : PluTable) : Prop :=
  (t.directory.map (·.1)).Pairwise (· < ·) ∧ (t.directory.map (·.2)).Nodup
    ∧ (∀ e ∈ t.directory, t.EntryOk e)
    ∧ ∀ l : LeafNo, (t.pool.get l).isSome = true → l ∈ t.directory.map (·.2)

/-! ## Weighing (R2, R7, R12) -/

/-- What holds of one weighing context under its calibration in force (R2, R7, R12). -/
def WeighContext.Ok (x : WeighContext) (r : CalRecord) : Prop :=
  x.window.length ≤ Config.windowEntries ∧ (x.state = .noCal ↔ r.isSet = false)
    ∧ (x.zero = none ↔ x.state = .noCal ∨ x.state = .noZero) ∧ (x.initialZero = none ↔ x.zero = none)
    ∧ (x.tareUsed = true → x.tare ≠ none)
    ∧ ∀ z ∈ x.zero, ∀ z0 ∈ x.initialZero, (z - z0).natAbs ≤ r.fields.max2 * 20

/-- The weighing engine's law, with the metrology lock's of its records: a SET record passes every check, an UNSET
one holds zeros (R1, R2, R158). -/
def State.WeighingOk (s : State) : Prop :=
  ∀ n : StationNo, (s.context n).Ok (s.calibration n)
    ∧ if (s.calibration n).isSet then (s.calibration n).fields.valid = true
      else (s.calibration n).fields = zeroCal

/-! ## Orders and labels (R62, R67, R68, R72, R126, R138, R163) -/

/-- What holds of one open order of a clerk. -/
def Order.Ok (o : Order) : Prop :=
  1 ≤ o.number ∧ o.number ≤ Config.lastOrderNumber ∧ o.revision < 65536
    ∧ o.items.length ≤ Config.itemsPerOrder ∧ 1 ≤ o.nextItem ∧ o.nextItem ≤ Config.itemNumbersEnd
    ∧ (o.items.map (·.number)).Pairwise (· < ·) ∧ ∀ i ∈ o.items, 1 ≤ i.number ∧ i.number < o.nextItem

/-- The order manager's laws: a station has at most one bound clerk, a held order's clerk is bound at the holder,
no two open orders share a number, the pool is not overdrawn, the retained count is the count of open orders, no
order is open in LOADING or CLOSED, and a station that is not ENROLLED has no bound clerk. -/
def State.OrdersOk (s : State) : Prop :=
  (∀ c : ClerkNo, ∀ o ∈ s.order c, o.Ok ∧ (∀ n ∈ o.holder, (s.clerk c).bound = some n))
    ∧ (∀ c d : ClerkNo, ∀ n ∈ (s.clerk c).bound, (s.clerk d).bound = some n → c = d)
    ∧ (∀ c d : ClerkNo, ∀ o ∈ s.order c, ∀ u ∈ s.order d, o.number = u.number → c = d)
    ∧ s.poolUsed ≤ Config.poolSlots ∧ s.totals.openOrders = s.openOrderCount
    ∧ (s.trading = false → s.openOrderCount = 0)
    ∧ (∀ c : ClerkNo, ∀ n ∈ (s.clerk c).bound, s.link n = .enrolled)
    ∧ s.orders.lastOrderNumber ≤ Config.lastOrderNumber

/-- What a label in a station's slot stands for: the PENDING item of its number, or the CLOSING order (R72). -/
def State.SlotOk (s : State) (n : StationNo) (r : LabelRecord) : Prop :=
  match r.kind, r.body with
  | .item, .item b =>
    ∃ o ∈ s.order r.clerk, o.holder = some n ∧
      ∃ i ∈ o.items, i.number = b.itemNumber ∧ i.state = .pending ∧ i.station = n ∧ i.label = some r.number
  | .total, .total _ => ∃ o ∈ s.order r.clerk, o.holder = some n ∧ o.state = .closing
  | .reprint, _ => True
  | _, _ => False

/-- A label of a kind, for a clerk, stands in a station's slot. -/
def State.SlotHas (s : State) (n : StationNo) (k : LabelKind) (c : ClerkNo) (p : LabelRecord → Prop) : Prop :=
  ∃ x ∈ (s.printer n).slot, x.record.kind = k ∧ x.record.clerk = c ∧ p x.record

/-- A label record of an item number. -/
def LabelRecord.ofItem (k : Nat) (r : LabelRecord) : Prop :=
  match r.body with
  | .item b => b.itemNumber = k
  | .total _ => False

/-- The law of labels in flight: a slot is BUSY only at an ENROLLED station; its label stands for a PENDING item or a
CLOSING order, each of which has its label in the slot of its station (R72, R88, R163). -/
def State.LabelsOk (s : State) : Prop :=
  (∀ n : StationNo, ∀ x ∈ (s.printer n).slot, s.link n = .enrolled ∧ s.SlotOk n x.record)
    ∧ ∀ c : ClerkNo, ∀ o ∈ s.order c,
        (∀ i ∈ o.items, i.state = .pending →
          o.holder = some i.station ∧ s.SlotHas i.station .item c (LabelRecord.ofItem i.number))
        ∧ (o.state = .closing → ∃ n ∈ o.holder, s.SlotHas n .total c fun _ => True)

/-! ## Queue (R107, R109) -/

/-- Every ticket number in use: waiting, being served, missed (R109). -/
def QueueUnit.numbers (q : QueueUnit) : List Nat :=
  q.waiting.map (·.number) ++ (q.serving.rows.filterMap id).map (·.number) ++ q.missed.map (·.number)

/-- The queue's law: no number is in use twice, every number is a ticket's, the missed list has at most 8 entries,
and counts and settings are within their ranges (R107, R108, R109). -/
def State.QueueOk (s : State) : Prop :=
  s.queue.numbers.Nodup ∧ (∀ k ∈ s.queue.numbers, 1 ≤ k ∧ k ≤ Config.lastTicket)
    ∧ s.queue.missed.length ≤ Config.missedPlaces ∧ 1 ≤ s.queue.nextNumber
    ∧ s.queue.nextNumber ≤ Config.lastTicket ∧ s.queue.roll ≤ 9999 ∧ 1 ≤ s.queue.rollLength
    ∧ s.queue.rollLength ≤ 9999

/-! ## Totals (R130) -/

/-- The sum of a figure over a table's entries. -/
def sumOf {n : Nat} {α : Type} (t : Table n α) (f : α → Nat) : Nat := (t.rows.map f).sum

/-- The totals' law over clerks, stations and GT: each sum equals the counter's, modulo 10^12 for values and 2^32 for
counts (R125, R127, R130). -/
def State.LedgerOk (s : State) : Prop :=
  let t := s.totals
  t.counter.value = sumOf t.clerks (·.value) % Config.valueModulus
    ∧ t.counter.value = sumOf t.stations (·.value) % Config.valueModulus
    ∧ t.gt < Config.valueModulus ∧ t.gtLast < Config.valueModulus
    ∧ t.counter.value = (t.gt + Config.valueModulus - t.gtLast) % Config.valueModulus
    ∧ t.counter.orders = sumOf t.clerks (·.orders) % Config.countModulus
    ∧ t.counter.items = sumOf t.clerks (·.items) % Config.countModulus
    ∧ t.counter.voidedValue = sumOf t.clerks (·.voidedValue) % Config.valueModulus

/-- The totals' law over departments and PLU records (R130). -/
def State.GoodsLedgerOk (s : State) : Prop :=
  s.totals.counter.value = sumOf s.totals.departments (·.value) % Config.valueModulus
    ∧ s.totals.counter.value = (s.plu.records.map (·.totals.value)).sum % Config.valueModulus

/-- Every item of an open order names a PLU record that is in the table (R31, R127). -/
def State.ItemsNamed (s : State) : Prop :=
  ∀ c : ClerkNo, ∀ o ∈ s.order c, ∀ i ∈ o.items, (s.plu.find i.plu).isSome = true

/-! ## Service sessions (R158 to R163) -/

/-- The metrology lock's law: the console is LOCKED_OUT exactly at three failures, a sequence has fewer than four
words, a station in SERVICE is the session's, the session's station is never ENROLLED, and, out of RESET, the timers
run exactly in their states (R158, R161, R163). -/
def State.SessionOk (s : State) : Prop :=
  s.lock.failures ≤ Config.lockoutFailures ∧ s.lock.audit ≤ Config.lastAudit ∧ s.lock.key.length = 4
    ∧ (s.lock.session = .lockedOut ↔ s.lock.failures = Config.lockoutFailures)
    ∧ (∀ n : StationNo, s.link n = .service → s.sessionOn n = true)
    ∧ (∀ n : StationNo, s.sessionOn n = true → s.link n ≠ .enrolled)
    ∧ (match s.lock.session with
      | .synced _ ws => ws.length < 4
      | .opened _ _ key => ∀ ws ∈ key, ws.length = 4
      | _ => True)
    ∧ (s.resetLow = false →
        (s.lock.sequence.isSome = match s.lock.session with | .synced _ _ => true | _ => false)
        ∧ (s.lock.inactivity.isSome = match s.lock.session with | .opened _ _ _ => true | _ => false))

/-! ## Roster (R152) -/

/-- The roster's law: a station record is held exactly while the station is not ABSENT, and, out of RESET, so does
the silence timer run (R152, R154). -/
def State.RosterOk (s : State) : Prop :=
  ∀ n : StationNo, ((s.station n).record.isSome = true ↔ s.link n ≠ .absent)
    ∧ (s.resetLow = false → ((s.station n).silence.isSome = true ↔ s.link n ≠ .absent))

end Sys2Proof.Machine
end

