-- ==== Sys2Proof/WellFormed.lean ====
section
/-! DEFINITION. Which terms of Instr are commands the hub's partners can bring about: the ranges of the
fields that a frame carries (R174, R179), and the ports of the one request that two links may send. -/

namespace Sys2Proof

/-- A raw load-cell count is a signed 24-bit integer (01_weighing section 1.3). -/
def rawCountOk (c : Int) : Bool := -8388608 ≤ c && c ≤ 8388607

/-- A label number travels in three bytes (R179). -/
def labelFieldOk (k : Nat) : Bool := k < 16777216

/-- STATUS READ is permitted on links B and V (R157, R179). -/
def statusPortOk : Port → Bool
  | .b => true
  | .v => true
  | .s _ => false
  | .q => false

/-- A command whose every field lies in the range its frame can carry. -/
def WellFormed : Instr → Bool
  | .frameArrival _ _ _ payload _ => payload.length ≤ Config.maxPayload
  | .sample _ c => rawCountOk c
  | .printDone _ k => labelFieldOk k
  | .printFail _ k => labelFieldOk k
  | .statusRead p => statusPortOk p
  | _ => true

end Sys2Proof
end

