-- ==== Sys2Proof/Certificates/Slice0/Obligations.lean ====
section
/-! DEFINITION. The statements for the provers, family by family: the queue of commands, lines and power, links,
weighing, the PLU table, pricing, orders and labels, the ticket queue, totals, the counter, the service session, the
notices, encodings, and the laws that every step keeps. -/

open Sys2Proof Sys2Proof.Machine

/-! ## The queue of commands -/

/-- A step carries out the command at the front of the queue with the queue's rest; an empty queue idles (the model's
own queue, log entry 9). -/
def Obligations.FrontCommandRuns : Prop :=
  (∀ (c : Instr) (cs : List Instr) (s : State), s.pending = c :: cs → step s = exec c (s.withPending cs))
    ∧ ∀ s : State, s.pending = [] → step s = .next s

/-- Events that find nothing to do: a command that takes a request changes nothing unless that request is the oldest of
its port's FIFO, RESET is high and the reply lane has room; while RESET is low every command but the lines', the
clock's and the battery's changes nothing; a reset release with RESET high changes nothing, and a frame sent on a link
that sends none only lets the transmitters begin. That such events change nothing is the model's reading (log entries
5 and 26). -/
def Obligations.NothingToDoChangesNothing : Prop :=
  (∀ (s : State) (i : Instr) (p : Port) (k : RequestKind), requestOf i = some (p, k) →
    (∀ tag payload rest, ¬Waits s p k tag payload rest) → exec i s = .next s)
  ∧ (∀ (s : State) (i : Instr), s.resetLow = true →
    i ∉ [.resetAssert, .resetRelease, .loadHoldRelease, .loadHoldAssert, .clockTick, .batteryFailure] →
      exec i s = .next s)
  ∧ (∀ s : State, s.resetLow = false → exec .resetRelease s = .next s)
  ∧ ∀ (s : State) (p : Port), s.resetLow = false → (s.port p).sending = none →
    exec (.frameSent p) s = .next s.startAll

/-! ## Lines and power (08 sections 8.1 and 8.3) -/

/-- RESET driven low: every port is emptied, NOTICE is deasserted, every timer stops, and nothing else changes.
LOAD_HOLD's levels, and the battery: a release in LOADING enters CLOSED, empties the queue unit controller's lists and
raises COUNTER_STATE; every other change of the line changes its level alone; a battery failure makes the marker wrong
while RESET is low and does nothing else (log entry 14). The rotation standing at the reply lane after reset is the
model's choice (log entry 2). -/
def Obligations.ResetAndLoadHoldLines : Prop :=
  (∀ s : State, ∃ t, exec .resetAssert s = .next t ∧ t.resetLow = true ∧ (∀ p : Port, t.port p = emptyPort)
    ∧ t.noticeLine = false ∧ t.counter.beat = none
    ∧ (∀ n : StationNo, t.station n = { s.station n with silence := none }
        ∧ t.printer n = { s.printer n with slot := (s.printer n).slot.map fun x => { x with deadline := none } })
    ∧ t.lock = { s.lock with sequence := none, inactivity := none }
    ∧ t.counter = { s.counter with beat := none, roster := t.counter.roster }
    ∧ { t with resetLow := s.resetLow, ports := s.ports, counter := s.counter, labels := s.labels, lock := s.lock }
      = s)
  ∧
  ((∀ s : State, s.resetLow = false → s.counter.state = .loading →
    exec .loadHoldRelease s =
      .next
        (({ s with
            loadHold := false, counter := { s.counter with state := .closed }
            queue :=
              { s.queue with waiting := [], missed := [], serving := Table.fill 32 none, blocked := false } }
          : State).raise .counterState { variant := .state .closed }).startAll)
    ∧ (∀ s : State, s.resetLow = false → s.counter.state ≠ .loading →
      exec .loadHoldRelease s = .next ({ s with loadHold := false } : State).startAll)
    ∧ (∀ s : State, s.resetLow = true → exec .loadHoldRelease s = .next { s with loadHold := false })
    ∧ (∀ s : State, exec .loadHoldAssert s = .next { s with loadHold := true })
    ∧ (∀ s : State, s.resetLow = true → exec .batteryFailure s = .next { s with markerOk := false })
    ∧ ∀ s : State, s.resetLow = false → exec .batteryFailure s = .next s)

/-- Reset release on a store whose marker is wrong: the store is formatted and the hub stands as State.reset has it,
in LOADING or CLOSED as LOAD_HOLD stands. Reset release on a sound store: the retained state stands, every volatile
state takes its power-on value, the orders open at the reset are counted as lost, a date that has changed makes a day
change, and the counter enters LOADING or CLOSED as LOAD_HOLD stands. The rotation standing at the reply lane, and
State.reset being a formatted store, are the model's choices (log entries 2 and 3). -/
def Obligations.ResetReleaseRestartsHub : Prop :=
  (∀ s : State, s.resetLow = true → s.markerOk = false →
    (s.loadHold = false → exec .resetRelease s = .next { State.reset with pending := s.pending })
    ∧ (s.loadHold = true →
      exec .resetRelease s =
        .next
          { State.reset with
            pending := s.pending, loadHold := true
            counter := { State.reset.counter with state := .loading }
            notices :=
              { State.reset.notices with
                queue := [⟨.counterState, epoch, none, none, none, none, .state .loading⟩] } }))
  ∧
  (∀ s : State, s.resetLow = true → s.markerOk = true →
    let sameDay := s.counter.clock.date = s.counter.lastDate
    let entered : CounterState := if s.loadHold then .loading else .closed
    let lost := s.totals.openOrders
    ∃ t, exec .resetRelease s = .next t
      ∧ t.pending = s.pending ∧ t.resetLow = false ∧ t.loadHold = s.loadHold ∧ t.markerOk = true
      ∧ (∀ p : Port, t.port p = emptyPort)
      ∧ t.counter =
        { state := entered, clock := s.counter.clock, lastDate := s.counter.clock.date
          beat := some Config.beatMs, roster := Table.fill 12 absentEntry }
      ∧ (∀ n : StationNo, t.context n = clearedContext (s.calibration n).isSet
          ∧ t.printer n = ⟨none, (s.printer n).nextNumber, none⟩)
      ∧ t.plu = s.plu.mapRecords (fun r => { r with changedGen := 1 })
      ∧ t.pricing =
        { generation := 1, settings := s.pricing.settings, batch := .empty, entries := [], instant := none
          result := none }
      ∧ (∀ c : ClerkNo, t.clerk c = { s.clerk c with bound := none } ∧ t.order c = none)
      ∧ t.orders.lastOrderNumber = 0
      ∧ t.queue =
        { nextNumber := 1, roll := s.queue.rollLength, waiting := [], serving := Table.fill 32 none, missed := []
          blocked := false, rollLength := s.queue.rollLength, rollLow := s.queue.rollLow
          queueLong := s.queue.queueLong }
      ∧ t.totals =
        { s.totals with
          openOrders := 0
          counter :=
            if lost = 0 then s.totals.counter
            else { s.totals.counter with ordersLost := (s.totals.counter.ordersLost + lost) % 4294967296 } }
      ∧ t.lock =
        { s.lock with
          failures := if sameDay then s.lock.failures else 0
          session := if sameDay ∧ s.lock.failures = 3 then .lockedOut else .idle
          sequence := none, inactivity := none }
      ∧ t.notices =
        { occurred := if lost = 0 then 0x2000 else 0x2400, enabled := 0x3FFF
          queue :=
            (if lost = 0 then []
              else [⟨.ordersLost, s.counter.clock, none, none, none, none, .count lost⟩])
              ++ [⟨.counterState, s.counter.clock, none, none, none, none, .state entered⟩] })

/-! ## Links (10 sections 10.1 and 10.2) -/

/-- The check's computation: the register starts at 0xFFFF, each byte is fed in most significant bit first, and the
example's nine bytes leave 0x29B1. -/
def Obligations.CheckIsAsComputed : Prop :=
  checkOf [0x31, 0x32, 0x33, 0x34, 0x35, 0x36, 0x37, 0x38, 0x39] = 0x29B1
    ∧ checkOf [] = 0xFFFF
    ∧ (∀ (bs : List Byte) (b : Byte),
      checkOf (bs ++ [b]) =
        [b.getLsbD 7, b.getLsbD 6, b.getLsbD 5, b.getLsbD 4, b.getLsbD 3, b.getLsbD 2, b.getLsbD 1, b.getLsbD 0].foldl
          (fun (r : BitVec 16) (bit : Bool) => if r.getLsbD 15 = bit then r <<< 1 else (r <<< 1) ^^^ 0x1021) (checkOf bs))
    ∧ ∀ (bs cs : List Byte), checkOf bs = checkOf cs → ∀ ds, checkOf (bs ++ ds) = checkOf (cs ++ ds)

/-- A frame with a right check that carries a request: the silence timer, then NOT_PERMITTED, BAD_REQUEST or FULL in
that order, answered at once while the reply lane has room and dropped while it has none; otherwise the request is
appended to the port's FIFO. The bytes arriving without a gap (log entry 10), the payload lengths that are right (log
entry 6) and a refusal dropped for want of room (log entry 23) are the model's readings. -/
def Obligations.RequestFrameIsSorted : Prop :=
  ∀ (s : State) (p : Port) (k : RequestKind) (tag : Byte) (payload : List Byte),
    Hunting s p → payload.length ≤ 240 →
      let s1 := s.goodFrame p
      let refused (c : ResultCode) : State :=
        if (s.port p).replyLane.length < 8 then
          s1.onPort p fun x => { x with replyLane := x.replyLane ++ [⟨k.code + 0x80, tag, [BitVec.ofNat 8 c.value]⟩] }
        else s1
      exec (.frameArrival p k.code tag payload (checkOf (checkedBytes k.code tag payload))) s =
        .next
          (State.startAll
            (if k.permitted p = false then refused .notPermitted
              else if payload.length ∉ k.lengths then refused .badRequest
              else if 4 ≤ (s.port p).fifo.length then refused .full
              else s1.onPort p fun x => { x with fifo := x.fifo ++ [⟨k.code, tag, payload⟩] }))

/-- Frames with a right check that carry no request: a kind outside the table is answered BAD_REQUEST, a reply or a
push is discarded, and a report on a port or of a length that is not its own is discarded; each restarts a station's
silence timer. A kind of 0x80 or above outside the table has no stated reply kind (free value, log entry 1). A
report's frame with a right check has, on a station's port, the effect of the report's own command. A frame whose
check differs, and in which no later byte is a sync byte, changes nothing. The bytes arriving without a gap (log entry
10), a report's command being its arrival (log entry 11) and a refusal dropped for want of room (log entry 23) are the
model's readings. -/
def Obligations.OtherFramesAreSorted : Prop :=
  (∀ (s : State) (p : Port) (kind tag : Byte) (payload : List Byte),
    Hunting s p → payload.length ≤ 240 →
      let s1 := s.goodFrame p
      let arrives := exec (.frameArrival p kind tag payload (checkOf (checkedBytes kind tag payload))) s
      (kindInTable kind = false → (s.port p).replyLane.length < 8 →
        arrives =
          .next
            (s1.onPort p fun x =>
              { x with
                replyLane :=
                  x.replyLane
                    ++ [⟨if kind < 0x80 then kind + 0x80 else Config.replyKindPastByte kind, tag, [2]⟩] }).startAll)
      ∧ (kindInTable kind = false → 8 ≤ (s.port p).replyLane.length → arrives = .next s1.startAll)
      ∧ (hubKind kind = true → arrives = .next s1.startAll)
      ∧ (∀ k : ReportKind, kind = k.code → payload.length ≠ k.length ∨ (∀ n, p ≠ .s n) → arrives = .next s1.startAll))
  ∧
  (∀ (s : State) (n : StationNo) (tag : Byte), Hunting s (.s n) →
    (∀ c : Int, rawCountOk c = true →
      exec (.frameArrival (.s n) 0x60 tag (beInt 3 c) (checkOf (checkedBytes 0x60 tag (beInt 3 c)))) s
        = exec (.sample n c) s)
    ∧ (∀ k : Nat, k < 16777216 →
      exec (.frameArrival (.s n) 0x61 tag (be 3 k) (checkOf (checkedBytes 0x61 tag (be 3 k)))) s
        = exec (.printDone n k) s
      ∧ exec (.frameArrival (.s n) 0x62 tag (be 3 k) (checkOf (checkedBytes 0x62 tag (be 3 k)))) s
        = exec (.printFail n k) s)
    ∧ exec (.frameArrival (.s n) 0x63 tag [] (checkOf (checkedBytes 0x63 tag []))) s = exec (.linkReset n) s)
  ∧
  (∀ (s : State) (p : Port) (kind tag : Byte) (payload : List Byte) (check : BitVec 16),
    Hunting s p → payload.length ≤ 240 → check ≠ checkOf (checkedBytes kind tag payload) →
      (∀ b ∈ checkedBytes kind tag payload ++ be 2 check.toNat, b ≠ syncByte) →
        exec (.frameArrival p kind tag payload check) s = .next s.startAll)

/-- The hunter's search: a frame the hub encodes is read back whole, with the search of what follows after it; and the
search does not depend on how the bytes are cut: searching some bytes, and then the bytes it has not decided with the
bytes that follow, finds what one search of them all finds. -/
def Obligations.SearchFindsWholeFrames : Prop :=
  (∀ (kind tag : Byte) (payload : List Byte), payload.length ≤ 240 →
    let bytes := frameBytes kind tag payload (checkOf (checkedBytes kind tag payload))
    bytes.length = payload.length + 6 ∧ hunt bytes = ([⟨kind, tag, payload⟩], none)
      ∧ ∀ more : List Byte, hunt (bytes ++ more) = (⟨kind, tag, payload⟩ :: (hunt more).1, (hunt more).2))
  ∧ ∀ xs ys : List Byte,
    hunt (xs ++ ys) =
      ((hunt xs).1 ++ (hunt (undecided (hunt xs).2 ++ ys)).1, (hunt (undecided (hunt xs).2 ++ ys)).2)

/-- Bytes as they come, and the gap limit: bytes without a gap join what the hunter holds (log entry 10), the search
finds the frames among them, each in order has its effect, and the gap timer runs exactly while a frame is partial (log
entry 12). One character: in HUNTING a byte other than 0xA5 is dropped and 0xA5 begins a frame; in IN_FRAME a byte that
leaves the frame incomplete joins it, and the last byte of a good frame has the frame's effect. At the gap limit the
search resumes after the partial frame's sync byte; with no sync byte there the hunter returns to HUNTING; with the timer
stopped nothing happens (log entry 5). -/
def Obligations.CharactersAndGap : Prop :=
  ∀ (s : State) (p : Port), s.resetLow = false →
    let found (r : List Request × Option (List Byte)) : Host.Outcome State Fault Refusal :=
      .next
        (r.1.foldl (State.acceptFrame p)
          (s.onPort p fun x => { x with hunter := r.2, gap := if r.2 = none then none else some 5 })).startAll
    (∀ b : Byte, exec (.characterReceived p b) s = found (hunt (undecided (s.port p).hunter ++ [b])))
    ∧ (∀ (kind tag : Byte) (payload : List Byte) (check : BitVec 16),
      exec (.frameArrival p kind tag payload check) s =
        found (hunt (undecided (s.port p).hunter ++ frameBytes kind tag payload check)))
    ∧ (∀ held : List Byte, (s.port p).hunter = some held → (s.port p).gap ≠ none →
      exec (.gapLimitExpiry p) s = found (hunt held))
    ∧ ((s.port p).gap = none ∨ (s.port p).hunter = none → exec (.gapLimitExpiry p) s = .next s.startAll)
    ∧ (∀ b : Byte, (s.port p).hunter = none → (s.port p).gap = none → b ≠ 0xA5 →
      exec (.characterReceived p b) s = .next s.startAll)
    ∧ ((s.port p).hunter = none →
      exec (.characterReceived p 0xA5) s =
        .next (s.onPort p fun x => { x with hunter := some [], gap := some 5 }).startAll)
    ∧ (∀ (held : List Byte) (b : Byte), (s.port p).hunter = some held → examine (held ++ [b]) = .incomplete →
      exec (.characterReceived p b) s =
        .next (s.onPort p fun x => { x with hunter := some (held ++ [b]), gap := some 5 }).startAll)
    ∧ (∀ (held : List Byte) (b kind tag : Byte) (payload : List Byte),
      (s.port p).hunter = some held → payload.length ≤ 240 →
        held ++ [b] = checkedBytes kind tag payload ++ be 2 (checkOf (checkedBytes kind tag payload)).toNat →
          exec (.characterReceived p b) s =
            exec (.frameArrival p kind tag payload (checkOf (checkedBytes kind tag payload)))
              (s.onPort p fun x => { x with hunter := none, gap := none }))
    ∧ ∀ held : List Byte, (s.port p).hunter = some held → (s.port p).gap ≠ none → (∀ b ∈ held, b ≠ 0xA5) →
      exec (.gapLimitExpiry p) s = .next (s.onPort p fun x => { x with hunter := none, gap := none }).startAll

/-- A frame has left a link: the last part of the label in a station's slot sets its deadline to 10 s; then the
transmitter, free again, takes the lanes in rotation and skips those that are empty. Where the rotation stands after
reset, a begun frame leaving its lane and transmitters beginning within the event are the model's readings (log
entries 2 and 4). -/
def Obligations.FrameSentRotatesLanes : Prop :=
  (∀ (s : State) (n : StationNo) (f : TxFrame), s.resetLow = false → (s.port (.s n)).sending = some f →
    let s1 := s.onPort (.s n) fun x => { x with sending := none }
    exec (.frameSent (.s n)) s =
      .next
        (match (s.printer n).slot with
          | some x =>
            if f.kind = 0x72 ∧ natAt f.payload 0 3 = x.record.number ∧ natAt f.payload 3 1 = natAt f.payload 4 1 then
              s1.setPrinter n { s.printer n with slot := some { x with deadline := some 10000 } }
            else s1
          | none => s1).startAll)
    ∧ (∀ (s : State) (p : Port) (f : TxFrame), s.resetLow = false → (∀ n, p ≠ .s n) →
      (s.port p).sending = some f →
        exec (.frameSent p) s = .next (s.onPort p fun x => { x with sending := none }).startAll)
    ∧ (∀ (s : State) (p : Port), s.startAll.port p = (s.port p).start)
    ∧ ∀ x : LinkPort,
      (x.sending ≠ none → x.start = x)
      ∧ (x.replyLane = [] → x.labelLane = [] → x.stateLane = [] → x.start = x)
      ∧ ∀ (f : TxFrame) (fs : List TxFrame), x.sending = none →
        (x.replyLane = f :: fs →
          (x.turn = .reply ∨ (x.turn = .state ∧ x.stateLane = [])
              ∨ (x.turn = .label ∧ x.labelLane = [] ∧ x.stateLane = [])) →
            x.start = { x with replyLane := fs, sending := some f, turn := .label })
        ∧ (x.labelLane = f :: fs →
          (x.turn = .label ∨ (x.turn = .reply ∧ x.replyLane = [])
              ∨ (x.turn = .state ∧ x.stateLane = [] ∧ x.replyLane = [])) →
            x.start = { x with labelLane := fs, sending := some f, turn := .state })
        ∧ (x.stateLane = f :: fs →
          (x.turn = .state ∨ (x.turn = .label ∧ x.labelLane = [])
              ∨ (x.turn = .reply ∧ x.replyLane = [] ∧ x.labelLane = [])) →
            x.start = { x with stateLane := fs, sending := some f, turn := .reply })

/-! ## Weighing (01) -/

/-- m of a count: the exact product over S rounded to the nearest mg, halves away from zero, then saturated.
A displayed weight is the multiple of its interval nearest to the value, halves away from zero: e1 up to Max1 and
for every negative value, e2 above.
The WEIGHT push of a calibrated station, byte by byte: state code, flags, gross and net with their intervals when
the gross is in range, the station tare with its origin. -/
def Obligations.WeightsAreRoundedAndPushed : Prop :=
  (∀ (c : CalFields) (count : Int), 0 < c.s →
    let num : Int := (count - c.z) * (c.l * 1000)
    ∃ q : Int,
      (2 * (q * c.s - num)).natAbs ≤ c.s
      ∧ ((2 * (q * c.s - num)).natAbs = c.s → num.natAbs < (q * c.s).natAbs)
      ∧ c.mass count = (if 99999999 < q then 99999999 else if q < -99999999 then -99999999 else q))
  ∧
  (∀ (c : CalFields) (v : Int), 0 < c.e1 → 0 < c.e2 →
    let e : Int := if v ≤ c.max1 * 1000 then c.e1 else c.e2
    ∃ q : Int, c.shown v = q * e
      ∧ (2 * (q * e * 1000 - v)).natAbs ≤ (e * 1000).natAbs
      ∧ ((2 * (q * e * 1000 - v)).natAbs = (e * 1000).natAbs → v.natAbs < (q * e * 1000).natAbs))
  ∧
  (∀ (r : CalRecord) (x : WeighContext) (v : Reading), x.newest = some v → x.state ≠ .noCal →
    let c := r.fields
    let inRange := -((20 * c.e1 * 1000 : Nat) : Int) ≤ v.gross ∧ v.gross ≤ ((c.max2 + 9 * c.e2) * 1000 : Nat)
    let stable := x.state = .weighing ∧ windowStable c x.window = true
    let limit := x.state ≠ .noZero ∧ x.zeroLimit = true
    weightOf r x =
      [BitVec.ofNat 8
          (match x.state with
            | .noCal => 0
            | .noZero => 1
            | .weighing => 2
            | .overload => 3
            | .underload => 4),
        BitVec.ofNat 8
          ((if stable then 1 else 0) + (if limit then 2 else 0) + (if inRange then 4 else 0)
            + (if x.tare = none then 0 else 8))]
        ++ (if inRange then
              beInt 4 (c.shown v.gross) ++ [BitVec.ofNat 8 (c.interval v.gross)] ++ beInt 4 (c.shown v.net)
                ++ [BitVec.ofNat 8 (c.interval v.net)]
            else List.replicate 10 0)
        ++ (match x.tare with
            | some t => be 2 (t.mg / 1000) ++ [if t.origin = .key then 1 else 2]
            | none => [0, 0, 0]))

/-- A sample that the hub does not weigh: from an ABSENT station it is discarded; from an ENROLLED station whose
calibration is UNSET it leaves NO_CAL with a window entry without gross, and a push with the state alone. A sample
from a station in SERVICE is weighed with the staged calibration of the open session: the window alone changes, and
the push carries state SERVICE. The command as the report's arrival, the newest result left alone in SERVICE and held
as one value, and a NO_CAL push without tare and flags are the model's readings (log entries 11, 15, 16 and 17). -/
def Obligations.OtherSamplesAreTaken : Prop :=
  (∀ (s : State) (n : StationNo) (count : Int), s.resetLow = false →
    (s.link n = .absent → exec (.sample n count) s = .next s.startAll)
    ∧ (s.link n = .enrolled → (s.calibration n).isSet = false →
      let x := s.context n
      let w := (if x.window.length < 6 then x.window else x.window.tail) ++ [⟨count, none⟩]
      exec (.sample n count) s =
        .next
          ((((s.setStation n { s.station n with silence := some 2000 }).setContext n
              { x with state := .noCal, window := w, newest := none }).onPort (.s n)
            (·.pushState ⟨0x70, 0, List.replicate 15 0⟩)).startAll)))
  ∧
  (∀ (s : State) (n : StationNo) (count : Int) (f : CalFields) (key : Option (List Word32)),
    s.resetLow = false → s.link n = .service → s.lock.session = .opened n f key →
      let x := s.context n
      let gross : Option Int := if f.checks.all id then some (f.mass count) else none
      let w := (if x.window.length < 6 then x.window else x.window.tail) ++ [⟨count, gross⟩]
      let flags := (if windowStable f w then 1 else 0) + (match gross with
        | some g => if -((20 * f.e1 * 1000 : Nat) : Int) ≤ g ∧ g ≤ ((f.max2 + 9 * f.e2) * 1000 : Nat) then 4 else 0
        | none => 0)
      let weights : List Byte := match gross with
        | some g =>
          if -((20 * f.e1 * 1000 : Nat) : Int) ≤ g ∧ g ≤ ((f.max2 + 9 * f.e2) * 1000 : Nat) then
            beInt 4 (f.shown g) ++ be 1 (f.interval g) ++ beInt 4 (f.shown g) ++ be 1 (f.interval g)
          else List.replicate 10 0
        | none => List.replicate 10 0
      exec (.sample n count) s =
        .next
          ((((s.setStation n { s.station n with silence := some 2000 }).setContext n { x with window := w }).onPort (.s n)
            (·.pushState ⟨0x70, 0, [5, BitVec.ofNat 8 flags] ++ weights ++ [0, 0, 0]⟩)).startAll))

/-- A sample of an ENROLLED station whose calibration is SET: count to mg, range, window, at most one adjustment
(initial zero, auto-clear, tracking), the sample taken again after one, and one WEIGHT push. The command as the
report's arrival and the newest result held as one value are the model's readings (log entries 11 and 16). -/
def Obligations.SampleIsWeighed : Prop :=
  ∀ (s : State) (n : StationNo) (count : Int),
    s.resetLow = false → s.link n = .enrolled → (s.calibration n).isSet = true →
      let c := (s.calibration n).fields
      let x := s.context n
      let m := c.mass count
      let tare : Int := ((x.tare.map (·.mg)).getD 0 : Nat)
      let gross := m - x.zero.getD 0
      let rangeState (g : Int) : WeighState :=
        if ((c.max2 + 9 * c.e2) * 1000 : Nat) < g then .overload
        else if g < -((20 * c.e1 * 1000 : Nat) : Int) then .underload else .weighing
      let state : WeighState := if x.zero = none then .noZero else rangeState gross
      let w := (if x.window.length < 6 then x.window else x.window.tail) ++ [⟨count, some gross⟩]
      let stable := windowStable c w
      let taken : WeighContext := { x with state := state, window := w, newest := some ⟨m, gross, gross - tare⟩ }
      let again (zero tare' : Int) (y : WeighContext) : WeighContext :=
        { y with
          state := rangeState (m - zero), window := [⟨count, some (m - zero)⟩]
          newest := some ⟨m, m - zero, m - zero - tare'⟩ }
      let z0 := x.initialZero.getD 0
      let candidate : Int :=
        if z0 + c.max2 * 20 < m then z0 + c.max2 * 20 else if m < z0 - c.max2 * 20 then z0 - c.max2 * 20 else m
      let y : WeighContext :=
        if x.zero = none then
          if stable = true ∧ m.natAbs ≤ c.max2 * 100 then
            again m tare { taken with initialZero := some m, zero := some m, zeroLimit := false }
          else taken
        else if state ≠ .weighing ∨ stable = false ∨ c.e1 * 500 < gross.natAbs then taken
        else if (s.profile n).autoClear = true ∧ x.tare ≠ none ∧ x.tareUsed = true then
          again (x.zero.getD 0) 0 { taken with tare := none, tareUsed := false }
        else if x.tare = none then
          if x.zero = some candidate then { taken with zeroLimit := decide (candidate ≠ m) }
          else again candidate 0 { taken with zero := some candidate, zeroLimit := decide (candidate ≠ m) }
        else taken
      exec (.sample n count) s =
        .next
          ((((s.setStation n { s.station n with silence := some 2000 }).setContext n y).onPort (.s n)
            (·.pushState ⟨0x70, 0, weightOf (s.calibration n) y⟩)).startAll)

/-- ZERO: the seven tests in order; otherwise the zero becomes m of the newest sample, ZERO_LIMIT is cleared and the
window is emptied. TARE KEY: the tests in order; otherwise the gross rounded to e1 becomes the station tare, KEY. TARE
SET: the tests in order; otherwise the value rounded to e1, halves up, becomes the station tare, NUMERIC. TARE CLEAR:
refused from ABSENT and SERVICE, otherwise OK; a station tare present is removed, tare used cleared and the window
emptied; with none present the context is unchanged. Reading an absent newest result and an absent initial zero as 0,
where no reachable state comes to, is the model's choice (log entry 16). -/
def Obligations.ZeroAndTareAnswered : Prop :=
  (∀ (s : State) (n : StationNo) (tag : Byte) (payload : List Byte) (rest : List Request),
    Waits s (.s n) .zero tag payload rest →
      let s1 := s.freed (.s n) rest
      let x := s.context n
      let c := (s.calibration n).fields
      let m := (x.newest.map (·.m)).getD 0
      exec (.zero n) s =
        .next
          (replied (.s n) .zero tag
            (if s.link n = .absent then refuse s1 .noStation
              else if s.link n = .service then refuse s1 .inService
              else if (s.calibration n).isSet = false then refuse s1 .noCal
              else if x.state = .noZero then refuse s1 .noZero
              else if windowStable c x.window = false then refuse s1 .notStable
              else if c.max2 * 20 < (m - x.initialZero.getD 0).natAbs then refuse s1 .outOfRange
              else if x.tare ≠ none then refuse s1 .tareActive
              else (s1.setContext n { x with zero := some m, zeroLimit := false, window := [] }, okReply []))))
  ∧
  (∀ (s : State) (n : StationNo) (tag : Byte) (payload : List Byte) (rest : List Request),
    Waits s (.s n) .tareKey tag payload rest →
      let s1 := s.freed (.s n) rest
      let x := s.context n
      let c := (s.calibration n).fields
      let gross := (x.newest.map (·.gross)).getD 0
      let g := ((2 * gross.toNat + c.e1 * 1000) / (2 * (c.e1 * 1000))) * c.e1
      exec (.tareKey n) s =
        .next
          (replied (.s n) .tareKey tag
            (if s.link n = .absent then refuse s1 .noStation
              else if s.link n = .service then refuse s1 .inService
              else if (s.calibration n).isSet = false then refuse s1 .noCal
              else if x.state = .noZero then refuse s1 .noZero
              else if x.state = .overload then refuse s1 .overload
              else if x.state = .underload then refuse s1 .underload
              else if windowStable c x.window = false then refuse s1 .notStable
              else if gross ≤ 0 then refuse s1 .outOfRange
              else if g = 0 then refuse s1 .outOfRange
              else if c.max1 < g then refuse s1 .tareLimit
              else
                (s1.setContext n { x with tare := some ⟨g * 1000, .key⟩, tareUsed := false, window := [] },
                  okReply (be 2 g)))))
  ∧
  (∀ (s : State) (n : StationNo) (tag : Byte) (payload : List Byte) (rest : List Request),
    Waits s (.s n) .tareSet tag payload rest →
      let s1 := s.freed (.s n) rest
      let x := s.context n
      let c := (s.calibration n).fields
      let value := natAt payload 0 2
      let g := ((2 * value + c.e1) / (2 * c.e1)) * c.e1
      exec (.tareSet n) s =
        .next
          (replied (.s n) .tareSet tag
            (if s.link n = .absent then refuse s1 .noStation
              else if s.link n = .service then refuse s1 .inService
              else if (s.calibration n).isSet = false then refuse s1 .noCal
              else if 30000 < value then refuse s1 .badValue
              else if g = 0 then refuse s1 .badValue
              else if c.max1 < g then refuse s1 .tareLimit
              else
                (s1.setContext n { x with tare := some ⟨g * 1000, .numeric⟩, tareUsed := false, window := [] },
                  okReply (be 2 g)))))
  ∧
  (∀ (s : State) (n : StationNo) (tag : Byte) (payload : List Byte) (rest : List Request),
    Waits s (.s n) .tareClear tag payload rest →
      let s1 := s.freed (.s n) rest
      exec (.tareClear n) s =
        .next
          (replied (.s n) .tareClear tag
            (if s.link n = .absent then refuse s1 .noStation
              else if s.link n = .service then refuse s1 .inService
              else if (s.context n).tare = none then (s1, okReply [])
              else
                (s1.setContext n { s.context n with tare := none, tareUsed := false, window := [] }, okReply []))))

/-! ## The PLU table (02) -/

/-- The table reads back: a record placed, changed or removed is found so under its own number, and every other
number is found as before; a placement fails exactly when a leaf is needed and none is free. -/
def Obligations.PluTableReadsBack : Prop :=
  ∀ (t : PluTable), t.Ok →
    (∀ (r : PluRecord), r.fields.valid = true →
      (∀ u, t.place r = some u →
        ∀ p : Nat, p ≤ 99999 → u.find p = if p = r.fields.number then some r else t.find p)
      ∧ (t.place r = none ↔
        t.leafAt (r.fields.number / 32) = none ∧ ∀ l : LeafNo, (t.pool.get l).isSome = true))
    ∧ (∀ (p q : Nat) (f : PluRecord → PluRecord), p ≤ 99999 → q ≤ 99999 →
      (t.update p f).find q = if q = p then (t.find p).map f else t.find q)
    ∧ (∀ p q : Nat, p ≤ 99999 → q ≤ 99999 → (t.remove p).find q = if q = p then none else t.find q)
    ∧ ∀ (p : Nat) (r : PluRecord), p ≤ 99999 → (t.find p = some r ↔ r ∈ t.records ∧ r.fields.number = p)

/-- PLU WRITE: refused in OPEN and DRAINING, for fields outside their ranges, for want of a leaf, and at the last
generation, in that order; otherwise the record is placed ACTIVE with its totals kept, or 0 for a new number, and the
generation steps.
PLU REMOVE: its tests in order; otherwise the record is removed when it is unsold and unreferenced and retired
otherwise, and the generation steps. -/
def Obligations.PluWriteAndRemoveAnswered : Prop :=
  (∀ (s : State) (tag : Byte) (payload : List Byte) (rest : List Request),
    Waits s .b .pluWrite tag payload rest →
      let s1 := s.freed .b rest
      exec .pluWrite s =
        .next
          (replied .b .pluWrite tag
            (if s.counter.state = .opened ∨ s.counter.state = .draining then refuse s1 .refusedState
              else
                match pluFieldsAt payload 0 with
                | none => refuse s1 .badValue
                | some f =>
                  let old := s.plu.find f.number
                  let gen := s.pricing.generation + 1
                  match s.plu.place ⟨f, .active, gen, (old.map (·.totals)).getD ⟨0, 0, 0, 0⟩⟩ with
                  | none => refuse s1 .tableFull
                  | some t =>
                    if s.pricing.generation = 4294967295 then refuse s1 .refusedState
                    else
                      ({ s1 with plu := t, pricing := { s.pricing with generation := gen } },
                        okReply
                          (be 1 (match old with | none => 0 | some r => if r.state = .active then 1 else 2)
                            ++ be 4 gen ++ be 1 t.freeLeaves ++ be 2 t.records.length)))))
  ∧
  (∀ (s : State) (tag : Byte) (payload : List Byte) (rest : List Request),
    Waits s .b .pluRemove tag payload rest →
      let s1 := s.freed .b rest
      let p := natAt payload 0 3
      let gen := s.pricing.generation + 1
      exec .pluRemove s =
        .next
          (replied .b .pluRemove tag
            (if s.counter.state = .opened ∨ s.counter.state = .draining then refuse s1 .refusedState
              else if p = 0 ∨ 99999 < p then refuse s1 .badValue
              else
                match s.plu.find p with
                | none => refuse s1 .noPlu
                | some r =>
                  if s.pricing.generation = 4294967295 then refuse s1 .refusedState
                  else
                    let unsold := r.totals = ⟨0, 0, 0, 0⟩ ∧ s.pluReferenced r.fields.number = false
                    let t :=
                      if unsold then s.plu.remove r.fields.number
                      else s.plu.update r.fields.number fun x => { x with state := .retired, changedGen := gen }
                    ({ s1 with plu := t, pricing := { s.pricing with generation := gen } },
                      okReply
                        (be 1 (if unsold then 0 else 1) ++ be 4 gen ++ be 1 t.freeLeaves
                          ++ be 2 t.records.length)))))

/-- PLU WIPE: refused in OPEN and DRAINING, and at the last generation when it would remove or newly retire a record;
otherwise, with no order open, records with totals all 0 are removed, the others are RETIRED, those that become so
take the new generation, and the generation steps when any record was removed or newly retired. PLU READ: BAD_VALUE
for a mode or number outside its values, NO_PLU when none is found, otherwise the whole record, EXACT by the number or
NEXT at the lowest number at or above it; nothing changes. That an unknown search mode is BAD_VALUE is the model's
reading (log entry 7). -/
def Obligations.PluWipeAndReadAnswered : Prop :=
  (∀ (s : State) (tag : Byte) (payload : List Byte) (rest : List Request),
    Waits s .b .pluWipe tag payload rest →
      let s1 := s.freed .b rest
      let done (a : Answer) := exec .pluWipe s = .next (replied .b .pluWipe tag a)
      let trading := s.counter.state = .opened ∨ s.counter.state = .draining
      let gen := s.pricing.generation + 1
      let removed := s.plu.records.filter fun r => r.totals == ⟨0, 0, 0, 0⟩
      let retired := s.plu.records.filter fun r => r.totals != ⟨0, 0, 0, 0⟩ && r.state == .active
      let changes := removed ≠ [] ∨ retired ≠ []
      let gen' := if removed = [] ∧ retired = [] then s.pricing.generation else gen
      (trading → done (refuse s1 .refusedState))
      ∧ (¬trading → s.pricing.generation = 4294967295 → changes → done (refuse s1 .refusedState))
      ∧ (¬trading → (s.pricing.generation = 4294967295 → ¬changes) → s.plu.Ok → s.openOrderCount = 0 →
        ∃ t : PluTable, t.Ok
          ∧ (∀ p : Nat, p ≤ 99999 →
            t.find p =
              match s.plu.find p with
              | none => none
              | some r =>
                if r.totals = ⟨0, 0, 0, 0⟩ then none
                else some { r with state := .retired, changedGen := if r.state = .active then gen else r.changedGen })
          ∧ done
            ({ s1 with plu := t, pricing := { s.pricing with generation := gen' } },
              okReply
                (be 2 removed.length ++ be 2 retired.length ++ be 4 gen' ++ be 1 t.freeLeaves
                  ++ be 2 t.records.length))))
  ∧
  (∀ (s : State) (tag : Byte) (payload : List Byte) (rest : List Request),
    Waits s .b .pluRead tag payload rest →
      let s1 := s.freed .b rest
      let p := natAt payload 0 3
      let mode := natAt payload 3 1
      exec .pluRead s =
        .next
          (replied .b .pluRead tag
            (if 1 < mode then refuse s1 .badValue
              else if p = 0 ∨ 99999 < p then refuse s1 .badValue
              else
                match (if mode = 0 then s.plu.find p else s.plu.records.find? fun r => p ≤ r.fields.number) with
                | none => refuse s1 .noPlu
                | some r =>
                  (s1,
                    okReply
                      (r.fields.bytes ++ be 1 (if r.state = .active then 0 else 1) ++ be 4 r.changedGen
                        ++ r.totals.bytes ++ be 4 s.pricing.generation ++ be 1 s.plu.freeLeaves
                        ++ be 2 s.plu.records.length)))))

/-! ## Pricing and price changes (03) -/

/-- The item price: the exact product over 1000 (BY_WEIGHT) or 1 (BY_COUNT), rounded once to the step by the mode in
force. -/
def Obligations.PriceIsRoundedOnceToStep : Prop :=
  ∀ (p : PriceSettings) (kind : ProductKind) (amount up : Nat), 0 < p.step →
    let den := match kind with | .byWeight => 1000 | .byCount => 1
    let num := amount * up
    let price := itemPrice p kind amount up
    p.step ∣ price
      ∧ (p.rounding = .down → price * den ≤ num ∧ num < (price + p.step) * den)
      ∧ (p.rounding = .up → num ≤ price * den ∧ price * den < num + p.step * den)
      ∧ (p.rounding = .nearest →
        2 * price * den ≤ 2 * num + p.step * den ∧ 2 * num < (2 * price + p.step) * den)
      ∧ ∀ k : Nat, num = k * p.step * den → price = k * p.step

/-- The lookup for selling: BAD_VALUE, NO_PLU, PLU_RETIRED, or the ACTIVE record, in that order. The markdown window
is active from the start time to just before the end time, and never when they are equal. The pricing read: its tests
in order, the tare in force, the priced net and the minimum for sale. A sale priced: the lookup, the quantity, the
stale-price check where it is made, the pricing read, then the unit price in force, the price and its limits, in that
order. Reading an absent newest result as a gross of 0, where no reachable state comes to, is the model's choice (log
entry 16). -/
def Obligations.SalePricedInOrder : Prop :=
  (∀ (t : PluTable) (p : Nat),
    lookupForSale t p =
      if p = 0 ∨ 99999 < p then .error .badValue
      else
        match t.find p with
        | none => .error .noPlu
        | some r => if r.state = .retired then .error .pluRetired else .ok r)
  ∧
  (∀ (p : PriceSettings) (t : DateTime),
    (windowActive p t = true ↔
      p.windowStart.hour * 3600 + p.windowStart.minute * 60 ≤ t.hour * 3600 + t.minute * 60 + t.second
        ∧ t.hour * 3600 + t.minute * 60 + t.second < p.windowEnd.hour * 3600 + p.windowEnd.minute * 60)
    ∧ (p.windowStart = p.windowEnd → windowActive p t = false))
  ∧
  (∀ (s : State) (n : StationNo) (preset : Nat),
    let x := s.context n
    let c := (s.calibration n).fields
    let gross := (x.newest.map (·.gross)).getD 0
    let rounded := ((2 * preset + c.e1) / (2 * c.e1)) * c.e1
    let t : Nat × TareSource :=
      match x.tare with
      | some a => (a.mg / 1000, .station)
      | none => if rounded = 0 then (0, .none) else (rounded, .plu)
    let net := c.shown (gross - ((t.1 * 1000 : Nat) : Int))
    pricingRead s n preset =
      if (s.calibration n).isSet = false then .error .noCal
      else if x.state = .noZero then .error .noZero
      else if x.state = .overload then .error .overload
      else if x.state = .underload then .error .underload
      else if windowStable c x.window = false then .error .notStable
      else if t.2 = .plu ∧ c.max1 < t.1 then .error .tareLimit
      else if net ≤ 0 ∨ net < 20 * c.e1 then .error .belowMin
      else .ok ⟨net.toNat, t.1, t.2⟩)
  ∧
  (∀ (s : State) (n : StationNo) (q : SaleRequest) (stale : Bool),
    s.priceSale n q stale =
      match lookupForSale s.plu q.plu with
      | .error e => .error e
      | .ok r =>
        let pct := if s.markdownActive then r.fields.markdown else 0
        let up := if 0 < pct then r.fields.unitPrice * (100 - pct) / 100 else r.fields.unitPrice
        let priced (amount tare : Nat) (source : TareSource) : Except ResultCode Priced :=
          let price := itemPrice s.pricing.settings r.fields.kind amount up
          if price = 0 then .error .priceZero
          else if 999999 < price then .error .priceOverflow
          else .ok ⟨r, amount, tare, source, up, pct, price⟩
        if r.fields.kind = .byCount ∧ (q.quantity.getD 0 = 0 ∨ 99 < q.quantity.getD 0) then .error .badValue
        else if stale = true ∧ (q.quoted < r.changedGen ∨ s.pricing.generation < q.quoted) then .error .stalePrice
        else
          match r.fields.kind with
          | .byCount => priced (q.quantity.getD 0) 0 .none
          | .byWeight =>
            match pricingRead s n r.fields.presetTare with
            | .error e => .error e
            | .ok w => priced w.net w.tare w.source)

/-- QUOTE: station and counter tests, then the pricing of the sale without the stale check; the reply carries the
figures and the current generation, and nothing changes. The layout of the request and reply is R183's as the model
reads it (log entry 6). -/
def Obligations.QuoteAnswered : Prop :=
  ∀ (s : State) (n : StationNo) (tag : Byte) (payload : List Byte) (rest : List Request),
    Waits s (.s n) .quote tag payload rest →
      let s1 := s.freed (.s n) rest
      exec (.quote n) s =
        .next
          (replied (.s n) .quote tag
            (if s.link n = .absent then refuse s1 .noStation
              else if s.link n = .service then refuse s1 .inService
              else if s.counter.state = .loading ∨ s.counter.state = .closed then refuse s1 .refusedState
              else
                match s.priceSale n (decodeSale payload) false with
                | .error e => refuse s1 e
                | .ok r =>
                  (s1,
                    okReply
                      (be 2 r.amount ++ be 2 r.tare
                        ++ be 1 (match r.source with | .station => 0 | .plu => 1 | .none => 2)
                        ++ be 3 r.unitPrice ++ be 1 (if 0 < r.markdown then 1 else 0) ++ be 3 r.price
                        ++ be 4 s.pricing.generation))))

/-- BATCH ADD, BATCH CLEAR and BATCH STATUS: ADD refuses an armed batch, a bad entry and a full batch, in that order,
and otherwise appends; CLEAR empties in any state; STATUS changes nothing. BATCH COMMIT: its tests in order; otherwise
the batch is armed for the clock plus the delay, and with delay 0 it activates within the event. Layouts are R183's as
the model reads it, and an unknown form is BAD_VALUE (log entries 6 and 7); a commit at delay 0 activates within its
event (log entry 8). -/
def Obligations.BatchRequestsAnswered : Prop :=
  (∀ (s : State) (tag : Byte) (payload : List Byte) (rest : List Request),
    let s1 := s.freed .b rest
    let u := s.pricing
    let state : Nat := match u.batch with | .empty => 0 | .filling => 1 | .armed => 2
    (Waits s .b .batchAdd tag payload rest →
      exec .batchAdd s =
        .next
          (replied .b .batchAdd tag
            (if u.batch = .armed then refuse s1 .batchArmed
              else
                match decodeBatchEntry payload with
                | none => refuse s1 .badValue
                | some e =>
                  if 64 ≤ u.entries.length then refuse s1 .batchFull
                  else
                    ({ s1 with pricing := { u with batch := .filling, entries := u.entries ++ [e] } },
                      okReply (be 1 (u.entries.length + 1))))))
    ∧ (Waits s .b .batchClear tag payload rest →
      exec .batchClear s =
        .next
          (replied .b .batchClear tag
            ({ s1 with pricing := { u with batch := .empty, entries := [], instant := none } },
              okReply (be 1 u.entries.length))))
    ∧ (Waits s .b .batchStatus tag payload rest →
      exec .batchStatus s =
        .next
          (replied .b .batchStatus tag
            (s1,
              okReply
                (be 1 state ++ be 1 u.entries.length
                  ++ (match u.instant with | some t => 1 :: t.bytes | none => List.replicate 7 0)
                  ++ be 4 u.generation
                  ++ (match u.result with | some r => 1 :: r.bytes | none => List.replicate 8 0))))))
  ∧
  (∀ (s : State) (tag : Byte) (payload : List Byte) (rest : List Request),
    Waits s .b .batchCommit tag payload rest →
      let s1 := s.freed .b rest
      let delay := natAt payload 0 2
      let u := s.pricing
      exec .batchCommit s =
        .next
          (replied .b .batchCommit tag
            (if u.batch = .empty then refuse s1 .batchEmpty
              else if u.batch = .armed then refuse s1 .batchArmed
              else if 1439 < delay then refuse s1 .badValue
              else
                match s.counter.clock.addMinutes delay with
                | none => refuse s1 .badValue
                | some t =>
                  if u.generation = 4294967295 then refuse s1 .refusedState
                  else
                    let armed : State := { s1 with pricing := { u with batch := .armed, instant := some t } }
                    if delay = 0 then (armed.activate, okReply (t.bytes ++ [0]))
                    else (armed, okReply (t.bytes ++ [2])))))

/-- BATCH_ACTIVATION at the instant: entries handed over oldest first, each applied or skipped against the table as
the earlier ones left it; the generation steps when one applied; the result record is replaced, BATCH_APPLIED and,
after a skip, BATCH_SKIPPED are raised, and the batch is emptied. Short of the instant nothing happens (log entry 8).
One batch entry: CHANGE and RETIRE of a number with no record are skipped NO_PLU, NEW of one with a record EXISTS and
for want of a leaf TABLE_FULL; each that is applied takes the generation given, and changes the table alone. That the
first skipped PLU stands in the variant part only is the model's reading (log entry 18). -/
def Obligations.ActivationAppliesBatch : Prop :=
  ((∀ (s : State) (t : DateTime), s.resetLow = false → s.pricing.batch = .armed → s.pricing.instant = some t →
    t.seconds ≤ s.counter.clock.seconds →
      let gen := s.pricing.generation + 1
      let ended := s.pricing.generation = 4294967295
      ∃ (s' : State) (r : BatchResult),
        s.pricing.entries.foldl
            (fun (a : State × BatchResult) e =>
              match (if ended then Except.error ResultCode.refusedState else a.1.applyEntry e gen) with
              | .ok b => (b, { a.2 with applied := a.2.applied + 1 })
              | .error c =>
                (a.1,
                  { a.2 with
                    skipped := a.2.skipped + 1, firstSkipped := some (a.2.firstSkipped.getD (e.plu, c)) }))
            (s, ⟨0, 0, none⟩) = (s', r)
        ∧ r.applied + r.skipped = s.pricing.entries.length
        ∧ exec .batchActivation s =
          .next
            (({ (if r.skipped = 0 then s'.raise .batchApplied { variant := .batch r }
                  else (s'.raise .batchApplied { variant := .batch r }).raise .batchSkipped { variant := .batch r }) with
                pricing :=
                  { s.pricing with
                    generation := if r.applied = 0 then s.pricing.generation else gen
                    batch := .empty, entries := [], instant := none, result := some r } } : State).startAll))
    ∧ (∀ s : State, s.resetLow = false →
      (s.pricing.batch ≠ .armed ∨ (∀ t, s.pricing.instant = some t → s.counter.clock.seconds < t.seconds)) →
        exec .batchActivation s = .next s.startAll))
  ∧
  (∀ (s : State) (gen p price markdown : Nat) (d : Option (List Byte)) (f : PluFields),
    (s.applyEntry (.change p price markdown d) gen =
      if s.plu.find p = none then .error .noPlu
      else
        .ok
          { s with
            plu :=
              s.plu.update p fun r =>
                { r with
                  fields :=
                    { r.fields with
                      unitPrice := price, markdown := markdown, description := d.getD r.fields.description }
                  changedGen := gen } })
    ∧ (s.applyEntry (.new f) gen =
      if s.plu.find f.number ≠ none then .error .exists
      else
        match s.plu.place ⟨f, .active, gen, ⟨0, 0, 0, 0⟩⟩ with
        | none => .error .tableFull
        | some t => .ok { s with plu := t })
    ∧ (s.applyEntry (.retire p) gen =
      match s.plu.find p with
      | none => .error .noPlu
      | some r =>
        .ok
          { s with
            plu :=
              if r.totals = ⟨0, 0, 0, 0⟩ ∧ s.pluReferenced r.fields.number = false then
                s.plu.remove r.fields.number
              else s.plu.update r.fields.number fun x => { x with state := .retired, changedGen := gen } }))

/-! ## Clerks and orders (04) -/

/-- CLERK ON: the tests in order, ORDER_BUSY with the order's summary; otherwise the clerk is bound here, a binding
elsewhere ends with the order held there parked, a clerk bound here is unbound, and nothing else changes. The summary
in ORDER_BUSY without a presence byte is the model's reading (log entry 6). -/
def Obligations.ClerkOnAnswered : Prop :=
  ∀ (s : State) (n : StationNo) (tag : Byte) (payload : List Byte) (rest : List Request),
    Waits s (.s n) .clerkOn tag payload rest → s.OrdersOk →
      let s1 := s.freed (.s n) rest
      let done (a : Answer) := exec (.clerkOn n) s = .next (replied (.s n) .clerkOn tag a)
      (s.link n = .absent → done (refuse s1 .noStation))
      ∧ (s.link n = .service → done (refuse s1 .inService))
      ∧ (s.link n = .enrolled → decodeClerkOn payload = none → done (refuse s1 .badValue))
      ∧ ∀ (c : ClerkNo) (code : Nat), s.link n = .enrolled → decodeClerkOn payload = some (c, code) →
        let e := s.clerk c
        let inFlightElsewhere := ∃ m o, e.bound = some m ∧ m ≠ n ∧ s.order c = some o ∧ o.holder = some m
          ∧ o.labelInFlight = true
        ((e.enabled = false ∨ e.code ≠ code) → done (refuse s1 .clerkCode))
        ∧ (e.enabled = true → e.code = code →
          ((∃ d o, d ≠ c ∧ s.order d = some o ∧ o.holder = some n) → done (refuse s1 .stationBusy))
          ∧ (¬(∃ d o, d ≠ c ∧ s.order d = some o ∧ o.holder = some n) →
            (inFlightElsewhere → done (s1, ⟨.orderBusy, ((s.order c).map (orderSummary c)).getD []⟩))
            ∧ (¬inFlightElsewhere →
              ∃ t : State, { t with orders := s1.orders } = s1
                ∧ t.orders.lastOrderNumber = s.orders.lastOrderNumber
                ∧ (∀ d : ClerkNo, t.clerk d =
                    { s.clerk d with
                      bound :=
                        if d = c then some n else if (s.clerk d).bound = some n then none else (s.clerk d).bound })
                ∧ (∀ d : ClerkNo, d ≠ c → t.order d = s.order d)
                ∧ (t.order c =
                    (s.order c).map fun o =>
                      if e.bound ≠ some n ∧ e.bound ≠ none ∧ o.holder = e.bound then
                        { o with holder := none, revision := (o.revision + 1) % 65536 }
                      else o)
                ∧ done
                  (t,
                    okReply
                      (match t.order c with
                        | some o => 1 :: orderSummary c o
                        | none => List.replicate 21 0)))))

/-- CLERK OFF: the tests in order; otherwise the order held here is parked, the binding ends and the clerk's serving
number is released: served when goods were confirmed for it, at the head of the missed list otherwise. -/
def Obligations.ClerkOffAnswered : Prop :=
  ∀ (s : State) (n : StationNo) (tag : Byte) (payload : List Byte) (rest : List Request),
    Waits s (.s n) .clerkOff tag payload rest → s.OrdersOk →
      let s1 := s.freed (.s n) rest
      let done (a : Answer) := exec (.clerkOff n) s = .next (replied (.s n) .clerkOff tag a)
      (s.link n = .absent → done (refuse s1 .noStation))
      ∧ (s.link n = .service → done (refuse s1 .inService))
      ∧ (s.link n = .enrolled → (∀ c, (s.clerk c).bound ≠ some n) → done (refuse s1 .noClerk))
      ∧ ∀ c : ClerkNo, s.link n = .enrolled → (s.clerk c).bound = some n →
        let busy := ∃ o, s.order c = some o ∧ o.holder = some n ∧ o.labelInFlight = true
        (busy → done (refuse s1 .orderBusy))
        ∧ (¬busy →
          let parked := (s.order c).map fun o =>
            if o.holder = some n then { o with holder := none, revision := (o.revision + 1) % 65536 } else o
          let u := s1.setOrder c parked
          let v := u.setClerk c { s.clerk c with bound := none }
          let t : State :=
            match s.serving c with
            | none => v
            | some r =>
              let w := v.setServing c none
              if r.hadGoods then w
              else
                { w with
                  queue :=
                    { w.queue with missed := ⟨r.number, r.issued, r.called⟩ :: s.queue.missed.take 7 } }
          done
            (t,
              okReply (match parked with | some o => 1 :: orderSummary c o | none => List.replicate 21 0)))

/-- CLERK WRITE and CLERK READ: WRITE is refused in OPEN and DRAINING and for fields outside their ranges, writes the
code and the flag, and ends the binding of a clerk it disables; READ returns the entry and changes nothing. A flag
byte other than 0 and 1 is BAD_VALUE by the model's reading (log entry 7). -/
def Obligations.ClerkWriteAndReadAnswered : Prop :=
  ∀ (s : State) (tag : Byte) (payload : List Byte) (rest : List Request),
    let s1 := s.freed .b rest
    (Waits s .b .clerkWrite tag payload rest →
      let done (a : Answer) := exec .clerkWrite s = .next (replied .b .clerkWrite tag a)
      ((s.counter.state = .opened ∨ s.counter.state = .draining) → done (refuse s1 .refusedState))
      ∧ (s.counter.state ≠ .opened → s.counter.state ≠ .draining →
        (decodeClerkWrite payload = none → done (refuse s1 .badValue))
        ∧ ∀ c code enabled, decodeClerkWrite payload = some (c, code, enabled) →
          ((s.clerk c).bound = none ∨ enabled = true →
            done (s1.setClerk c { s.clerk c with code := code, enabled := enabled }, okReply []))
          ∧ ((s.clerk c).bound ≠ none → enabled = false → s.order c = none → s.serving c = none →
            done (s1.setClerk c ⟨code, false, none⟩, okReply []))))
    ∧ (Waits s .b .clerkRead tag payload rest →
      exec .clerkRead s =
        .next
          (replied .b .clerkRead tag
            (match ofOrdinal 32 (natAt payload 0 1) with
              | none => refuse s1 .badValue
              | some c =>
                (s1,
                  okReply
                    (be 2 (s.clerk c).code ++ [if (s.clerk c).enabled then 1 else 0]
                      ++ (match (s.clerk c).bound with | some n => [1, BitVec.ofNat 8 (n.val + 1)] | none => [0, 0])
                      ++ (match s.order c with | some o => 1 :: be 2 o.number | none => [0, 0, 0]))))))

/-- An order takes the next number after the last issued, from 9,999 to 1, passing over the numbers of open orders. -/
def Obligations.OrderNumberIsNextFree : Prop :=
  ∀ s : State, s.OrdersOk → s.openOrderCount ≤ 31 →
    ∃ j : Nat, 1 ≤ j ∧ j ≤ 32
      ∧ s.nextOrderNumber = (s.orders.lastOrderNumber + j - 1) % 9999 + 1
      ∧ (∀ o ∈ s.openOrders, o.number ≠ s.nextOrderNumber)
      ∧ ∀ i : Nat, 1 ≤ i → i < j → ∃ o ∈ s.openOrders, o.number = (s.orders.lastOrderNumber + i - 1) % 9999 + 1

/-- LABEL: R49's tests in order, the pricing of the sale with the stale check, the order total; otherwise the clerk's
order, opened when there is none, takes a PENDING item of the current generation, the item label, whose every field is
said, takes the station's slot and label number, and tare used is set after a sale under the station tare. -/
def Obligations.LabelAnswered : Prop :=
  ∀ (s : State) (n : StationNo) (tag : Byte) (payload : List Byte) (rest : List Request),
    Waits s (.s n) .label tag payload rest →
      let s1 := s.freed (.s n) rest
      exec (.label n) s =
        .next
          (replied (.s n) .label tag
            (if s.link n = .absent then refuse s1 .noStation
              else if s.link n = .service then refuse s1 .inService
              else if (s.profile n).mode = .totalOnly then refuse s1 .refusedMode
              else if s.counter.state = .loading ∨ s.counter.state = .closed then refuse s1 .refusedState
              else
                match s.boundClerk n with
                | none => refuse s1 .noClerk
                | some c =>
                  let held := (s.order c).getD
                    ⟨s.nextOrderNumber, some n, .opened, 0, s.counter.clock, (s.serving c).map (·.number), [], 1⟩
                  if held.holder ≠ some n then refuse s1 .notHolder
                  else if held.state = .closing then refuse s1 .busy
                  else if s.order c = none ∧ s.counter.state = .draining then refuse s1 .refusedState
                  else if s.hasPrinter n = false then refuse s1 .noPrinter
                  else if (s.printer n).slot ≠ none then refuse s1 .printerBusy
                  else if 40 ≤ held.items.length ∨ 256 ≤ held.nextItem then refuse s1 .orderFull
                  else if 512 ≤ s.poolUsed then refuse s1 .poolFull
                  else
                    match s.priceSale n (decodeSale payload) true with
                    | .error e => refuse s1 e
                    | .ok r =>
                      if 9999999 < held.total + r.price then refuse s1 .totalLimit
                      else
                        let k := (s.printer n).nextNumber
                        let i : Item :=
                          { number := held.nextItem, plu := r.record.fields.number, kind := r.record.fields.kind
                            amount := r.amount, tare := r.tare, unitPrice := r.unitPrice, markdown := r.markdown
                            price := r.price, generation := s.pricing.generation, station := n, label := some k
                            time := s.counter.clock, state := .pending }
                        let o : Order :=
                          { held with
                            items := held.items ++ [i], nextItem := held.nextItem + 1
                            revision := (held.revision + 1) % 65536 }
                        let s2 : State :=
                          if s.order c = none then
                            { s1 with
                              orders := { s.orders with lastOrderNumber := s.nextOrderNumber }
                              totals := { s.totals with openOrders := s.totals.openOrders + 1 } }
                          else s1
                        let f := r.record.fields
                        let width := ((s.station n).record.map (·.width)).getD 0
                        let record : LabelRecord :=
                          { kind := .item, station := n, number := k, original := k, order := held.number, clerk := c
                            time := s.counter.clock
                            code :=
                              match f.codeKind with
                              | .price => codeOf s.pricing.settings.itemPrefix f.number r.price
                              | .weight => codeOf s.pricing.settings.itemPrefix f.number r.amount
                              | .nothing => none
                            duplicate := false, width := width
                            body :=
                              .item
                                { itemNumber := held.nextItem, plu := f.number
                                  description := if width = 40 then f.description.take 16 else f.description
                                  kind := f.kind, amount := r.amount, tare := r.tare, unitPrice := r.unitPrice
                                  markdown := decide (0 < r.markdown), price := r.price
                                  sellBy := sellBy s.counter.clock.date f.shelfDays } }
                        let s3 := ((s2.setOrder c (some o)).setPrinter n
                          { s.printer n with
                            slot := some ⟨record, none⟩, nextNumber := if k = 999999 then 1 else k + 1 }).onPort (.s n)
                          fun x => { x with labelLane := x.labelLane ++ record.parts }
                        (if r.source = .station then s3.setContext n { s.context n with tareUsed := true } else s3,
                          okReply
                            (be 1 i.number ++ be 2 held.number ++ be 3 k ++ be 2 r.amount ++ be 2 r.tare
                              ++ be 3 r.unitPrice ++ be 1 (if 0 < r.markdown then 1 else 0) ++ be 3 r.price
                              ++ be 4 s.pricing.generation))))

/-- ADD ITEM: the tests of LABEL but those of the printer, in the other label mode; otherwise the item joins the order
CONFIRMED, with no label, and an order that carries a queue number sets had-goods of the clerk's serving record when the
numbers are equal. -/
def Obligations.AddItemAnswered : Prop :=
  ∀ (s : State) (n : StationNo) (tag : Byte) (payload : List Byte) (rest : List Request),
    Waits s (.s n) .addItem tag payload rest →
      let s1 := s.freed (.s n) rest
      exec (.addItem n) s =
        .next
          (replied (.s n) .addItem tag
            (if s.link n = .absent then refuse s1 .noStation
              else if s.link n = .service then refuse s1 .inService
              else if (s.profile n).mode = .labelEach then refuse s1 .refusedMode
              else if s.counter.state = .loading ∨ s.counter.state = .closed then refuse s1 .refusedState
              else
                match s.boundClerk n with
                | none => refuse s1 .noClerk
                | some c =>
                  let held := (s.order c).getD
                    ⟨s.nextOrderNumber, some n, .opened, 0, s.counter.clock, (s.serving c).map (·.number), [], 1⟩
                  if held.holder ≠ some n then refuse s1 .notHolder
                  else if held.state = .closing then refuse s1 .busy
                  else if s.order c = none ∧ s.counter.state = .draining then refuse s1 .refusedState
                  else if 40 ≤ held.items.length ∨ 256 ≤ held.nextItem then refuse s1 .orderFull
                  else if 512 ≤ s.poolUsed then refuse s1 .poolFull
                  else
                    match s.priceSale n (decodeSale payload) true with
                    | .error e => refuse s1 e
                    | .ok r =>
                      if 9999999 < held.total + r.price then refuse s1 .totalLimit
                      else
                        let i : Item :=
                          { number := held.nextItem, plu := r.record.fields.number, kind := r.record.fields.kind
                            amount := r.amount, tare := r.tare, unitPrice := r.unitPrice, markdown := r.markdown
                            price := r.price, generation := s.pricing.generation, station := n, label := none
                            time := s.counter.clock, state := .confirmed }
                        let o : Order :=
                          { held with
                            items := held.items ++ [i], nextItem := held.nextItem + 1
                            revision := (held.revision + 1) % 65536 }
                        let s2 : State :=
                          if s.order c = none then
                            { s1 with
                              orders := { s.orders with lastOrderNumber := s.nextOrderNumber }
                              totals := { s.totals with openOrders := s.totals.openOrders + 1 } }
                          else s1
                        let s3 := s2.setOrder c (some o)
                        let s4 :=
                          match s.serving c with
                          | some v =>
                            if held.queueNumber = some v.number then s3.setServing c (some { v with hadGoods := true })
                            else s3
                          | none => s3
                        (if r.source = .station then s4.setContext n { s.context n with tareUsed := true } else s4,
                          okReply
                            (be 1 i.number ++ be 2 held.number ++ be 2 r.amount ++ be 2 r.tare ++ be 3 r.unitPrice
                              ++ be 1 (if 0 < r.markdown then 1 else 0) ++ be 3 r.price
                              ++ be 4 s.pricing.generation))))

/-- VOID ITEM and PARK ORDER: the tests in order; otherwise the CONFIRMED item becomes VOIDED, or the holder becomes
absent, and the revision steps; nothing else changes. -/
def Obligations.VoidAndParkAnswered : Prop :=
  ∀ (s : State) (n : StationNo) (tag : Byte) (payload : List Byte) (rest : List Request),
    let s1 := s.freed (.s n) rest
    (Waits s (.s n) .voidItem tag payload rest →
      let k := natAt payload 0 1
      exec (.voidItem n) s =
        .next
          (replied (.s n) .voidItem tag
            (if s.link n = .absent then refuse s1 .noStation
              else if s.link n = .service then refuse s1 .inService
              else if k = 0 then refuse s1 .badValue
              else
                match s.boundClerk n with
                | none => refuse s1 .noClerk
                | some c =>
                  match s.order c with
                  | none => refuse s1 .noOrder
                  | some o =>
                    if o.holder ≠ some n then refuse s1 .notHolder
                    else if o.state = .closing then refuse s1 .busy
                    else
                      match o.items.find? fun i => i.number == k with
                      | none => refuse s1 .noItem
                      | some i =>
                        if i.state = .voided then refuse s1 .noItem
                        else if i.state = .pending then refuse s1 .busy
                        else
                          let o' : Order :=
                            { o with
                              items := o.items.map fun j => if j.number = k then { j with state := .voided } else j
                              revision := (o.revision + 1) % 65536 }
                          (s1.setOrder c (some o'), okReply (orderSummary c o')))))
    ∧ (Waits s (.s n) .parkOrder tag payload rest →
      exec (.parkOrder n) s =
        .next
          (replied (.s n) .parkOrder tag
            (if s.link n = .absent then refuse s1 .noStation
              else if s.link n = .service then refuse s1 .inService
              else
                match s.boundClerk n with
                | none => refuse s1 .noClerk
                | some c =>
                  match s.order c with
                  | none => refuse s1 .noOrder
                  | some o =>
                    if o.holder ≠ some n then refuse s1 .notHolder
                    else if o.labelInFlight = true then refuse s1 .orderBusy
                    else
                      let o' : Order := { o with holder := none, revision := (o.revision + 1) % 65536 }
                      (s1.setOrder c (some o'), okReply (orderSummary c o')))))

/-- CLAIM ORDER: the tests in order, HELD_ELSEWHERE and ORDER_BUSY with the order's holder and revision; otherwise the
order's holder is this station, its revision steps, the clerk is bound here, a clerk bound here before is unbound, and
the reply carries the prior pair and the summary. -/
def Obligations.ClaimOrderAnswered : Prop :=
  ∀ (s : State) (n : StationNo) (tag : Byte) (payload : List Byte) (rest : List Request),
    Waits s (.s n) .claimOrder tag payload rest → s.OrdersOk →
      let s1 := s.freed (.s n) rest
      let done (a : Answer) := exec (.claimOrder n) s = .next (replied (.s n) .claimOrder tag a)
      let pair (o : Order) : List Byte :=
        (match o.holder with | some h => [1, BitVec.ofNat 8 (h.val + 1)] | none => [0, 0]) ++ be 2 o.revision
      (s.link n = .absent → done (refuse s1 .noStation))
      ∧ (s.link n = .service → done (refuse s1 .inService))
      ∧ (s.link n = .enrolled → decodeClaim payload = none → done (refuse s1 .badValue))
      ∧ ∀ c holder revision, s.link n = .enrolled → decodeClaim payload = some (c, holder, revision) →
        (s.order c = none → done (refuse s1 .noOrder))
        ∧ ∀ o, s.order c = some o →
          let other := ∃ d u, d ≠ c ∧ s.order d = some u ∧ u.holder = some n
          (other → done (refuse s1 .stationBusy))
          ∧ (¬other → (o.holder ≠ holder ∨ o.revision ≠ revision) → done (s1, ⟨.heldElsewhere, pair o⟩))
          ∧ (¬other → o.holder = holder → o.revision = revision →
            (o.labelInFlight = true → done (s1, ⟨.orderBusy, pair o⟩))
            ∧ (o.labelInFlight = false →
              let o' : Order := { o with holder := some n, revision := (o.revision + 1) % 65536 }
              ∃ t : State, { t with orders := s1.orders } = s1
                ∧ t.orders.lastOrderNumber = s.orders.lastOrderNumber
                ∧ (∀ d : ClerkNo, t.clerk d =
                    { s.clerk d with
                      bound :=
                        if d = c then some n else if (s.clerk d).bound = some n then none else (s.clerk d).bound })
                ∧ (∀ d : ClerkNo, t.order d = if d = c then some o' else s.order d)
                ∧ done (t, okReply (pair o ++ orderSummary c o'))))

/-- CLOSE ORDER: the tests in order; an order with no CONFIRMED item closes at once as empty, counted, and ends a
drain when it was the last; otherwise its total label, whose every field is said, takes the station's slot and label
number and it becomes CLOSING. -/
def Obligations.CloseOrderAnswered : Prop :=
  ∀ (s : State) (n : StationNo) (tag : Byte) (payload : List Byte) (rest : List Request),
    Waits s (.s n) .closeOrder tag payload rest →
      let s1 := s.freed (.s n) rest
      exec (.closeOrder n) s =
        .next
          (replied (.s n) .closeOrder tag
            (if s.link n = .absent then refuse s1 .noStation
              else if s.link n = .service then refuse s1 .inService
              else
                match s.boundClerk n with
                | none => refuse s1 .noClerk
                | some c =>
                  match s.order c with
                  | none => refuse s1 .noOrder
                  | some o =>
                    if o.holder ≠ some n then refuse s1 .notHolder
                    else if o.labelInFlight = true then refuse s1 .busy
                    else if o.inState .confirmed = [] then
                      let s2 : State :=
                        ({ s1 with
                          totals :=
                            { s.totals with
                              counter :=
                                { s.totals.counter with
                                  emptyOrders := (s.totals.counter.emptyOrders + 1) % 4294967296 }
                              openOrders := s.totals.openOrders - 1 } } : State).setOrder c none
                      (if s.counter.state = .draining ∧ s2.openOrders = [] then s2.enterState .closed else s2,
                        okReply (0 :: (be 2 o.number ++ be 1 (o.inState .voided).length)))
                    else if s.hasPrinter n = false then refuse s1 .noPrinter
                    else if (s.printer n).slot ≠ none then refuse s1 .printerBusy
                    else
                      let k := (s.printer n).nextNumber
                      let good := o.items.filter fun i => i.state == .confirmed
                      let total := (good.map (·.price)).sum
                      let record : LabelRecord :=
                        { kind := .total, station := n, number := k, original := k, order := o.number, clerk := c
                          time := s.counter.clock
                          code := codeOf s.pricing.settings.orderPrefix o.number total
                          duplicate := false, width := ((s.station n).record.map (·.width)).getD 0
                          body :=
                            .total
                              { queueNumber := o.queueNumber
                                lines :=
                                  (o.items.filter fun i => i.state != .pending).map fun i =>
                                    { itemNumber := i.number, plu := i.plu, kind := i.kind, amount := i.amount
                                      price := i.price, station := i.station, label := i.label
                                      voided := i.state == .voided }
                                itemCount := good.length
                                voidedCount := (o.items.filter fun i => i.state == .voided).length
                                total := total, zNumber := s.totals.z } }
                      let o' : Order := { o with state := .closing, revision := (o.revision + 1) % 65536 }
                      (((s1.setPrinter n
                            { s.printer n with
                              slot := some ⟨record, none⟩
                              nextNumber := if k = 999999 then 1 else k + 1 }).onPort (.s n)
                          fun x => { x with labelLane := x.labelLane ++ record.parts }).setOrder c (some o'),
                        okReply
                          (1 :: (be 3 k ++ orderSummary c o'
                            ++ be 3 ((o.inState .confirmed).map (·.price)).sum)))))

/-! ## Labels (05) -/

/-- The check digit's computation over twelve digits, and the thirteen digits of a code: absent above 99,999. The
sell-by date: none for 0 shelf days, otherwise the pack date that many days on along the calendar, held at 2099-12-31.
The parts of a label, byte by byte: the part head, the label head and the body of an ITEM or a TOTAL label, and the
lines of a TOTAL, sixteen to a part, with their lengths. The layout of the parts is that of R181 and R182. -/
def Obligations.LabelFiguresAndParts : Prop :=
  ((∀ a b c d e f g h i j k l : Nat,
    checkDigit [a, b, c, d, e, f, g, h, i, j, k, l]
      = (10 - ((a + c + e + g + i + k) + 3 * (b + d + f + h + j + l)) % 10) % 10)
    ∧ ∀ pre number value : Nat, pre < 100 → number < 100000 →
      (99999 < value → codeOf pre number value = none)
      ∧ (value ≤ 99999 → ∃ ds : List Nat, codeOf pre number value = some (ds ++ [checkDigit ds]) ∧ ds.length = 12
          ∧ (∀ d ∈ ds, d < 10)
          ∧ ds.foldl (fun x d => 10 * x + d) 0 = pre * 10000000000 + number * 100000 + value))
  ∧
  (∀ (d : Date) (k : Nat), d.valid = true →
    (k = 0 → sellBy d k = none)
    ∧ (0 < k → ∃ e : Date, sellBy d k = some e ∧ e.valid = true
        ∧ e.dayNumber = min (d.dayNumber + k) lastDate.dayNumber))
  ∧
  (∀ t : DateTime,
    t.bytes
      = [BitVec.ofNat 8 (t.date.year - 2000), BitVec.ofNat 8 t.date.month, BitVec.ofNat 8 t.date.day,
          BitVec.ofNat 8 t.hour, BitVec.ofNat 8 t.minute, BitVec.ofNat 8 t.second])
  ∧
  (∀ r : LabelRecord, (∀ ds, r.code = some ds → ds.length = 13) →
    let parts := r.parts
    let codes (k : LabelKind) : Byte := match k with | .item => 1 | .total => 2 | .reprint => 3
    let omitted : Nat := (if r.duplicate then 1 else 0) + (if r.code = none then 2 else 0)
    let head (original : Byte) (flags : Nat) : List Byte :=
      [codes r.kind, original, BitVec.ofNat 8 flags, BitVec.ofNat 8 r.width, BitVec.ofNat 8 (r.station.val + 1)]
        ++ be 3 r.original ++ be 2 r.order ++ [BitVec.ofNat 8 (r.clerk.val + 1)] ++ r.time.bytes
        ++ (match r.code with | some ds => ds.map fun d => BitVec.ofNat 8 (0x30 + d) | none => List.replicate 13 0)
    let goods (k : ProductKind) : Byte := match k with | .byWeight => 1 | .byCount => 2
    let line (l : LabelLine) : List Byte :=
      be 1 l.itemNumber ++ be 3 l.plu
        ++ be 1 ((if l.kind = .byCount then 1 else 0) + (if l.voided then 2 else 0) + (if l.label = none then 4 else 0))
        ++ be 2 l.amount ++ be 3 l.price ++ be 1 (l.station.val + 1) ++ be 3 (l.label.getD 0)
    (∀ (j : Nat) (f : TxFrame), parts[j]? = some f →
      f.kind = 0x72 ∧ f.tag = 0
        ∧ f.payload.take 5 = be 3 r.number ++ [BitVec.ofNat 8 (j + 1), BitVec.ofNat 8 parts.length])
    ∧ (∀ b, r.body = .item b → b.description.length ≤ 24 →
      parts.length = 1
      ∧ ∀ f ∈ parts, f.payload.length = 78
        ∧ f.payload.drop 5 =
          head 1 (omitted + (if b.markdown then 4 else 0) + (if b.sellBy = none then 0 else 8))
            ++ be 1 b.itemNumber ++ be 3 b.plu ++ [goods b.kind] ++ be 2 b.amount ++ be 2 b.tare ++ be 3 b.unitPrice
            ++ be 3 b.price
            ++ (match b.sellBy with
                | some d => [BitVec.ofNat 8 (d.year - 2000), BitVec.ofNat 8 d.month, BitVec.ofNat 8 d.day]
                | none => [0, 0, 0])
            ++ be 1 b.description.length ++ b.description ++ List.replicate (24 - b.description.length) 0x20)
    ∧ ∀ b, r.body = .total b →
      parts.length = 1 + (b.lines.length + 15) / 16
      ∧ (∀ f ∈ parts.head?, f.payload.length = 44
        ∧ f.payload.drop 5 =
          head 2 (omitted + (if b.queueNumber = none then 0 else 16))
            ++ be 1 (b.queueNumber.getD 0) ++ be 1 b.itemCount ++ be 1 b.voidedCount ++ be 4 b.total ++ be 2 b.zNumber)
      ∧ (parts.tail.flatMap fun f => f.payload.drop 5) = b.lines.flatMap line
      ∧ ∀ j f, parts.tail[j]? = some f → f.payload.length = 5 + 14 * min 16 (b.lines.length - 16 * j))

/-- REPRINT: the tests in order; otherwise a copy of the last label, DUPLICATE, with a fresh number and the original
number, takes the slot, and nothing else of the hub changes. -/
def Obligations.ReprintAnswered : Prop :=
  ∀ (s : State) (n : StationNo) (tag : Byte) (payload : List Byte) (rest : List Request),
    Waits s (.s n) .reprint tag payload rest →
      let s1 := s.freed (.s n) rest
      exec (.reprint n) s =
        .next
          (replied (.s n) .reprint tag
            (if s.link n = .absent then refuse s1 .noStation
              else if s.link n = .service then refuse s1 .inService
              else if s.hasPrinter n = false then refuse s1 .noPrinter
              else if (s.printer n).slot ≠ none then refuse s1 .printerBusy
              else
                match (s.printer n).last with
                | none => refuse s1 .noLabel
                | some last =>
                  let k := (s.printer n).nextNumber
                  let copy : LabelRecord :=
                    { last with kind := .reprint, number := k, original := last.number, duplicate := true }
                  ((s1.setPrinter n
                      ⟨some ⟨copy, none⟩, if k = 999999 then 1 else k + 1, some last⟩).onPort (.s n)
                    fun x => { x with labelLane := x.labelLane ++ copy.parts },
                    okReply
                      (be 3 k ++ be 3 last.number
                        ++ [match last.kind with | .item => 1 | .total => 2 | .reprint => 3]))))

/-- PRINT DONE: a report that matches the slot frees it; an ITEM label becomes the last label, is counted and confirms
its item; a TOTAL label becomes the last label, is counted and closes its order into the totals, ending a drain when
it was the last; a REPRINT is counted. A report that does not match changes nothing but the silence timer. The command
as the report's arrival and the label lane emptied whole at the label's end are the model's
readings (log entries 11 and 24). -/
def Obligations.PrintDoneEndsLabel : Prop :=
  ∀ (s : State) (n : StationNo) (k : Nat), s.resetLow = false →
    let s0 := if s.link n = .absent then s else s.setStation n { s.station n with silence := some 2000 }
    let counted (f : StationTotals → StationTotals) (t : State) : State :=
      { t with totals := { t.totals with stations := t.totals.stations.put n (f (t.totals.stations.get n)) } }
    ((∀ x, (s.printer n).slot = some x → x.record.number ≠ k) → exec (.printDone n k) s = .next s0.startAll)
    ∧ ∀ (x : PrintSlot), (s.printer n).slot = some x → x.record.number = k →
      let r := x.record
      let free (last : Option LabelRecord) := (s0.setPrinter n ⟨none, (s.printer n).nextNumber, last⟩).onPort (.s n)
        fun p => { p with labelLane := [] }
      let labels := counted fun t => { t with labels := (t.labels + 1) % 4294967296 }
      (r.kind = .reprint →
        exec (.printDone n k) s =
          .next
            (counted (fun t => { t with reprints := (t.reprints + 1) % 4294967296 }) (free (s.printer n).last)).startAll)
      ∧ (∀ b o, r.kind = .item → r.body = .item b → s.order r.clerk = some o →
        let o' : Order :=
          { o with
            items := o.items.map fun i => if i.number = b.itemNumber then { i with state := .confirmed } else i
            revision := (o.revision + 1) % 65536 }
        let t := (labels (free (some r))).setOrder r.clerk (some o')
        exec (.printDone n k) s =
          .next
            (match s.serving r.clerk with
              | some v =>
                if o.queueNumber = some v.number then t.setServing r.clerk (some { v with hadGoods := true }) else t
              | none => t).startAll)
      ∧ ∀ o, r.kind = .total → s.order r.clerk = some o →
        let t := ((labels (free (some r))).accumulate r.clerk n o).setOrder r.clerk none
        exec (.printDone n k) s =
          .next
            (if s.counter.state = .draining ∧ t.openOrders = [] then t.enterState .closed else t).startAll

/-- PRINT FAIL that matches the slot, and a print deadline that runs out: the slot is freed, PRINT_FAILED is raised
with the cause, an ITEM label's item is removed and a TOTAL label's order returns to OPEN; no count is made. A PRINT
FAIL that does not match, or finds the slot FREE, changes nothing but the silence timer, and a deadline that is not
set, or of a FREE slot, does not run out. The command as the report's arrival, an expiry of a stopped timer changing
nothing and the label lane emptied whole are the model's readings (log entries 11, 5 and 24). -/
def Obligations.FailedLabelIsUndone : Prop :=
  ∀ (s : State) (n : StationNo), s.resetLow = false →
    let s0 := if s.link n = .absent then s else s.setStation n { s.station n with silence := some 2000 }
    ((s.printer n).slot = none →
      (∀ k, exec (.printFail n k) s = .next s0.startAll) ∧ exec (.printDeadlineExpiry n) s = .next s.startAll)
    ∧ ∀ x : PrintSlot, (s.printer n).slot = some x →
      let r := x.record
      let undone (s0 : State) (cause : FailCause) : State :=
        let u := (s0.setPrinter n { s.printer n with slot := none }).onPort (.s n) fun p => { p with labelLane := [] }
        let goods := r.kind ≠ .reprint
        let v := u.raise .printFailed
          { station := some n, clerk := if goods then some r.clerk else none
            order := if goods then some r.order else none
            plu := match r.kind, r.body with | .item, .item b => some b.plu | _, _ => none
            variant := .print r.number cause }
        match r.kind, r.body with
        | .item, .item b =>
          v.setOrder r.clerk
            ((s.order r.clerk).map fun o =>
              { o with
                items := o.items.filter fun i => i.number ≠ b.itemNumber, revision := (o.revision + 1) % 65536 })
        | .total, _ =>
          v.setOrder r.clerk
            ((s.order r.clerk).map fun o => { o with state := .opened, revision := (o.revision + 1) % 65536 })
        | _, _ => v
      exec (.printFail n r.number) s = .next (undone s0 .fail).startAll
      ∧ (∀ k, k ≠ r.number → exec (.printFail n k) s = .next s0.startAll)
      ∧ (x.deadline ≠ none → exec (.printDeadlineExpiry n) s = .next (undone s .timeout).startAll)
      ∧ (x.deadline = none → exec (.printDeadlineExpiry n) s = .next s.startAll)

/-! ## The service queue (06) -/

/-- TAKE and ROLL LOADED: TAKE's tests in order, the first DISPENSER_BLOCKED of an episode with its flag and notice;
otherwise one ticket joins the newest end, the next number and the roll step, the blocked flag clears, and ROLL_LOW,
ROLL_EMPTY and QUEUE_LONG are raised at their counts. ROLL LOADED sets the roll counter, with ROLL_LOW for a short roll. -/
def Obligations.TakeAndRollAnswered : Prop :=
  ∀ (s : State) (tag : Byte) (payload : List Byte) (rest : List Request),
    let s1 := s.freed .q rest
    let q := s.queue
    (Waits s .q .take tag payload rest →
      exec .take s =
        .next
          (replied .q .take tag
            (if s.counter.state ≠ .opened then refuse s1 .queueClosed
              else if q.roll = 0 then refuse s1 .rollEmpty
              else if q.nextNumber ∈ q.numbers then
                (if q.blocked then s1
                  else ({ s1 with queue := { q with blocked := true } } : State).raise .dispenserBlocked {},
                  ⟨.dispenserBlocked, []⟩)
              else
                let s2 : State :=
                  { s1 with
                    queue :=
                      { q with
                        waiting := q.waiting ++ [⟨q.nextNumber, s.counter.clock⟩]
                        nextNumber := if q.nextNumber = 99 then 1 else q.nextNumber + 1
                        roll := q.roll - 1, blocked := false } }
                let s3 := if q.roll - 1 = q.rollLow then s2.raise .rollLow {} else s2
                let s4 := if q.roll - 1 = 0 then s3.raise .rollEmpty {} else s3
                let s5 := if q.waiting.length + 1 = q.queueLong then s4.raise .queueLong {} else s4
                (s5,
                  okReply
                    (be 1 q.nextNumber ++ be 1 q.waiting.length ++ s.counter.clock.bytes ++ be 2 (q.roll - 1))))))
    ∧ (Waits s .q .rollLoaded tag payload rest →
      let s2 : State := { s1 with queue := { q with roll := q.rollLength } }
      exec .rollLoaded s =
        .next
          (replied .q .rollLoaded tag
            (if q.rollLength ≤ q.rollLow then s2.raise .rollLow {} else s2, okReply (be 2 q.rollLength))))

/-- CALL NEXT, RECALL and RECALL MISSED: each with its tests in order. CALL NEXT releases the clerk's number, served or
missed, then calls the oldest ticket, with its wait held to 65,535 s, one queue call and a DISPLAY push, or answers
QUEUE_EMPTY with the release made; RECALL pushes the clerk's number; RECALL MISSED takes the entry out of the missed
list before the release and makes it the clerk's serving record. -/
def Obligations.CallsAnswered : Prop :=
  ∀ (s : State) (n : StationNo) (tag : Byte) (payload : List Byte) (rest : List Request),
    let s1 := s.freed (.s n) rest
    let released (t : State) (c : ClerkNo) : State :=
      match s.serving c with
      | none => t
      | some r =>
        let w := t.setServing c none
        if r.hadGoods then w
        else { w with queue := { w.queue with missed := ⟨r.number, r.issued, r.called⟩ :: t.queue.missed.take 7 } }
    let display (t : State) (action k : Nat) : State :=
      t.onPort .q fun x =>
        { x with
          labelLane :=
            (x.labelLane
              ++ [(⟨0x73, 0, [BitVec.ofNat 8 action, BitVec.ofNat 8 k, BitVec.ofNat 8 (n.val + 1)]⟩ : TxFrame)]).drop
              (x.labelLane.length + 1 - 16) }
    (Waits s (.s n) .callNext tag payload rest →
      exec (.callNext n) s =
        .next
          (replied (.s n) .callNext tag
            (if s.link n = .absent then refuse s1 .noStation
              else if s.link n = .service then refuse s1 .inService
              else
                match s.boundClerk n with
                | none => refuse s1 .noClerk
                | some c =>
                  if s.counter.state ≠ .opened then refuse s1 .queueClosed
                  else
                    match s.queue.waiting with
                    | [] => (released s1 c, ⟨.queueEmpty, []⟩)
                    | t :: ts =>
                      let wait := min (s.counter.clock.seconds - t.issued.seconds) 65535
                      let u := released s1 c
                      let v : State :=
                        ({ u with
                          queue := { u.queue with waiting := ts }
                          totals :=
                            { s.totals with
                              counter :=
                                { s.totals.counter with
                                  queueCalls := (s.totals.counter.queueCalls + 1) % 4294967296
                                  waitSum := (s.totals.counter.waitSum + wait) % 4294967296 } } } : State).setServing c
                          (some ⟨t.number, t.issued, s.counter.clock, false⟩)
                      (display v 1 t.number,
                        okReply (be 1 t.number ++ t.issued.bytes ++ be 2 wait ++ be 1 ts.length)))))
    ∧ (Waits s (.s n) .recall tag payload rest →
      exec (.recall n) s =
        .next
          (replied (.s n) .recall tag
            (if s.link n = .absent then refuse s1 .noStation
              else if s.link n = .service then refuse s1 .inService
              else
                match s.boundClerk n with
                | none => refuse s1 .noClerk
                | some c =>
                  match s.serving c with
                  | none => refuse s1 .notServing
                  | some r => (display s1 2 r.number, okReply (be 1 r.number)))))
    ∧ (Waits s (.s n) .recallMissed tag payload rest →
      let k := natAt payload 0 1
      exec (.recallMissed n) s =
        .next
          (replied (.s n) .recallMissed tag
            (if s.link n = .absent then refuse s1 .noStation
              else if s.link n = .service then refuse s1 .inService
              else if k = 0 ∨ 99 < k then refuse s1 .badValue
              else
                match s.boundClerk n with
                | none => refuse s1 .noClerk
                | some c =>
                  if s.counter.state ≠ .opened then refuse s1 .queueClosed
                  else
                    match s.queue.missed.find? fun m => m.number == k with
                    | none => refuse s1 .notMissed
                    | some m =>
                      let u : State :=
                        { s1 with
                          queue := { s.queue with missed := s.queue.missed.filter fun x => x.number != k } }
                      (display ((released u c).setServing c (some ⟨k, m.issued, s.counter.clock, false⟩)) 2 k,
                        okReply (be 1 k ++ m.issued.bytes ++ m.called.bytes)))))

/-! ## Totals and the end of the day (07) -/

/-- An order closed at its printed total label: every CONFIRMED item to its PLU record and that record's department,
and the order as a whole to the clerk, the holder station, the counter, GT and the open-order count; nothing else. -/
def Obligations.OrderCloseAccumulates : Prop :=
  ∀ (s : State) (c : ClerkNo) (n : StationNo) (o : Order), s.plu.Ok →
    (∀ i ∈ o.items, i.plu ≤ 99999 ∧ (s.plu.find i.plu).isSome = true) →
      let good := o.items.filter fun i => i.state == .confirmed
      let void := o.items.filter fun i => i.state == .voided
      let total := (good.map (·.price)).sum
      let lost := (void.map (·.price)).sum
      let t := s.accumulate c n o
      { t with plu := s.plu, totals := s.totals } = s
      ∧ (∀ p : Nat, p ≤ 99999 →
        t.plu.find p =
          (s.plu.find p).map fun r =>
            { r with
              totals :=
                (good.filter fun i => i.plu == p).foldl
                  (fun (a : PluTotals) i =>
                    { items := (a.items + 1) % 4294967296
                      quantity := if i.kind = .byCount then (a.quantity + i.amount) % 4294967296 else a.quantity
                      weight := if i.kind = .byWeight then (a.weight + i.amount) % 1000000000000 else a.weight
                      value := (a.value + i.price) % 1000000000000 })
                  r.totals })
      ∧ (∀ d : DeptNo,
        t.totals.departments.get d =
          (good.filter fun i => (s.plu.find i.plu).map (·.fields.department) == some d).foldl
            (fun (a : DeptTotals) i => ⟨(a.items + 1) % 4294967296, (a.value + i.price) % 1000000000000⟩)
            (s.totals.departments.get d))
      ∧ (∀ d : ClerkNo,
        t.totals.clerks.get d =
          if d = c then
            let a := s.totals.clerks.get c
            { orders := (a.orders + 1) % 4294967296
              items := (a.items + good.length) % 4294967296
              value := (a.value + total) % 1000000000000
              voidedCount := (a.voidedCount + void.length) % 4294967296
              voidedValue := (a.voidedValue + lost) % 1000000000000 }
          else s.totals.clerks.get d)
      ∧ (∀ m : StationNo,
        t.totals.stations.get m =
          if m = n then
            { s.totals.stations.get n with value := ((s.totals.stations.get n).value + total) % 1000000000000 }
          else s.totals.stations.get m)
      ∧ { t.totals with departments := s.totals.departments, clerks := s.totals.clerks
                        stations := s.totals.stations } =
        { s.totals with
          counter :=
            { s.totals.counter with
              orders := (s.totals.counter.orders + 1) % 4294967296
              items := (s.totals.counter.items + good.length) % 4294967296
              value := (s.totals.counter.value + total) % 1000000000000
              voidedCount := (s.totals.counter.voidedCount + void.length) % 4294967296
              voidedValue := (s.totals.counter.voidedValue + lost) % 1000000000000 }
          gt := (s.totals.gt + total) % 1000000000000
          openOrders := s.totals.openOrders - 1 }

/-- TOTALS READ, REPORT READ and REPORT RELEASE: the record of the category and index with the running period and the
clock, BAD_VALUE for an unknown one; a record of a FULL buffer by its index; the buffer emptied with the Z number
released, absent when it was EMPTY. Only the release changes anything. The category byte as the form of the reply is
the model's reading (log entry 6). -/
def Obligations.TotalsReadsAnswered : Prop :=
  ∀ (s : State) (tag : Byte) (payload : List Byte) (rest : List Request),
    let s1 := s.freed .b rest
    let t := s.totals
    let time (x : Option DateTime) : List Byte := match x with | some d => 1 :: d.bytes | none => List.replicate 7 0
    (Waits s .b .totalsRead tag payload rest →
      let k := natAt payload 1 1
      let done (record : List Byte) : Answer :=
        (s1, okReply (record ++ be 2 t.z ++ time t.periodStart ++ s.counter.clock.bytes))
      exec .totalsRead s =
        .next
          (replied .b .totalsRead tag
            (match natAt payload 0 1 with
              | 0 => done (0 :: t.counter.bytes)
              | 1 =>
                match ofOrdinal 32 k with
                | some c => done (1 :: (t.clerks.get c).bytes)
                | none => refuse s1 .badValue
              | 2 =>
                match ofOrdinal 12 k with
                | some n => done (2 :: (t.stations.get n).bytes)
                | none => refuse s1 .badValue
              | 3 =>
                match ofOrdinal 16 k with
                | some d => done (3 :: (t.departments.get d).bytes)
                | none => refuse s1 .badValue
              | 4 =>
                done
                  (4 :: (be 6 t.gt ++ be 6 t.gtLast ++ be 2 t.z ++ time t.periodStart ++ be 1 t.openOrders
                    ++ [if t.report = none then 0 else 1]))
              | _ => refuse s1 .badValue)))
    ∧ (Waits s .b .reportRead tag payload rest →
      let i := natAt payload 0 2
      exec .reportRead s =
        .next
          (replied .b .reportRead tag
            (match t.report with
              | none => refuse s1 .refusedState
              | some r =>
                if i = 0 then refuse s1 .badValue
                else
                  match r.records[i - 1]? with
                  | none => refuse s1 .badValue
                  | some x => (s1, okReply (be 2 i ++ x.bytes ++ be 2 r.z ++ be 2 r.records.length)))))
    ∧ (Waits s .b .reportRelease tag payload rest →
      exec .reportRelease s =
        .next
          (replied .b .reportRelease tag
            ({ s1 with totals := { t with report := none } },
              okReply (match t.report with | some r => 1 :: be 2 r.z | none => [0, 0, 0]))))

/-- Z-CLOSE: refused outside CLOSED and while a report waits; otherwise the report holds the period's records, the
period records and the PLU records' totals are 0, RETIRED records are gone, GT at the last close is GT, the period
starts now, the Z number steps, the next ticket is number 1 and REPORT_READY is raised; nothing else changes, and the
open-order count is 0 wherever the order manager's law holds. -/
def Obligations.ZCloseAnswered : Prop :=
  ∀ (s : State) (tag : Byte) (payload : List Byte) (rest : List Request),
    Waits s .b .zClose tag payload rest → s.plu.Ok →
      let s1 := s.freed .b rest
      let t := s.totals
      let done (a : Answer) := exec .zClose s = .next (replied .b .zClose tag a)
      (s.counter.state ≠ .closed → done (refuse s1 .refusedState))
      ∧ (s.counter.state = .closed → t.report ≠ none → done (refuse s1 .reportPending))
      ∧ (s.counter.state = .closed → t.report = none →
        let sold := s.plu.records.filter fun r => r.totals != ⟨0, 0, 0, 0⟩
        let z' := if t.z = 9999 then 1 else t.z + 1
        let records : List ReportRecord :=
          .header t.z t.periodStart s.counter.clock t.gt t.gtLast (62 + sold.length) :: .counter t.counter
            :: ((List.finRange 32).map fun c => ReportRecord.clerk (t.clerks.get c))
              ++ ((List.finRange 12).map fun n => ReportRecord.station (t.stations.get n))
              ++ ((List.finRange 16).map fun d => ReportRecord.department (t.departments.get d))
              ++ sold.map fun r =>
                .plu r.fields.number r.fields.description r.fields.kind r.fields.department r.state r.totals
        (s.OrdersOk → t.openOrders = 0)
          ∧ ∃ u : PluTable, u.Ok
          ∧ (∀ p : Nat, p ≤ 99999 →
            u.find p =
              match s.plu.find p with
              | none => none
              | some r => if r.state = .retired then none else some { r with totals := ⟨0, 0, 0, 0⟩ })
          ∧ done
            (({ s1 with
                plu := u, queue := { s.queue with nextNumber := 1 }
                totals :=
                  { counter := ⟨0, 0, 0, 0, 0, 0, 0, 0, 0⟩, clerks := Table.fill 32 ⟨0, 0, 0, 0, 0⟩
                    stations := Table.fill 12 ⟨0, 0, 0⟩, departments := Table.fill 16 ⟨0, 0⟩
                    gt := t.gt, gtLast := t.gt, z := z', periodStart := some s.counter.clock
                    openOrders := t.openOrders, report := some ⟨t.z, records⟩ } } : State).raise .reportReady {},
              okReply (be 2 t.z ++ be 2 z' ++ be 2 (62 + sold.length) ++ be 6 t.gt)))

/-! ## Counter state, clock and stations (08) -/

/-- OPEN COUNTER and CLOSE COUNTER: OPEN takes CLOSED to OPEN and is refused elsewhere; CLOSE is refused in LOADING,
takes OPEN to CLOSED with no order open and to DRAINING otherwise, and leaves DRAINING and CLOSED as they are. Each entry
raises COUNTER_STATE, and an entry to CLOSED empties the queue. -/
def Obligations.CounterOpensAndCloses : Prop :=
  ∀ (s : State) (tag : Byte) (payload : List Byte) (rest : List Request),
    let s1 := s.freed .b rest
    let entered (c : CounterState) : State :=
      ({ s1 with
          counter := { s.counter with state := c }
          queue :=
            if c = .closed then
              { s.queue with waiting := [], missed := [], serving := Table.fill 32 none, blocked := false }
            else s.queue } : State).raise .counterState { variant := .state c }
    (Waits s .b .openCounter tag payload rest →
      exec .openCounter s =
        .next
          (replied .b .openCounter tag
            (if s.counter.state = .closed then (entered .opened, okReply [2]) else refuse s1 .refusedState)))
    ∧ (Waits s .b .closeCounter tag payload rest →
      let k := s.openOrders.length
      exec .closeCounter s =
        .next
          (replied .b .closeCounter tag
            (match s.counter.state with
              | .loading => refuse s1 .refusedState
              | .closed => (s1, okReply (1 :: be 1 k))
              | .draining => (s1, okReply (3 :: be 1 k))
              | .opened =>
                if k = 0 then (entered .closed, okReply (1 :: be 1 k)) else (entered .draining, okReply (3 :: be 1 k)))))

/-- SETTINGS WRITE, SETTINGS READ, PROFILE WRITE and STATUS READ: the writes are refused in OPEN and DRAINING and for
a field outside its values, and otherwise write every field; the reads return the settings and the one picture of
counter, stations, open orders, batch and report, and change nothing. The grouping of the status by station and a flag
byte other than 0 and 1 being BAD_VALUE are the model's readings (log entries 6 and 7). -/
def Obligations.SettingsAndStatusAnswered : Prop :=
  ∀ (s : State) (tag : Byte) (payload : List Byte) (rest : List Request),
    let s1 := s.freed .b rest
    (Waits s .b .settingsWrite tag payload rest →
      exec .settingsWrite s =
        .next
          (replied .b .settingsWrite tag
            (if s.counter.state = .opened ∨ s.counter.state = .draining then refuse s1 .refusedState
              else
                match decodeSettings payload with
                | none => refuse s1 .badValue
                | some r =>
                  ({ s1 with
                      pricing := { s.pricing with settings := r.prices }
                      queue :=
                        { s.queue with
                          rollLength := r.rollLength, rollLow := r.rollLow, queueLong := r.queueLong } },
                    okReply []))))
    ∧ (Waits s .b .settingsRead tag payload rest →
      exec .settingsRead s =
        .next
          (replied .b .settingsRead tag
            (s1,
              okReply (settingsBytes s.pricing.settings s.queue.rollLength s.queue.rollLow s.queue.queueLong))))
    ∧ (Waits s .b .profileWrite tag payload rest →
      exec .profileWrite s =
        .next
          (replied .b .profileWrite tag
            (if s.counter.state = .opened ∨ s.counter.state = .draining then refuse s1 .refusedState
              else
                match decodeProfile payload with
                | none => refuse s1 .badValue
                | some (n, r) =>
                  ({ s1 with lock := { s.lock with profiles := s.lock.profiles.put n r } }, okReply []))))
    ∧ ∀ p : Port, Waits s p .statusRead tag payload rest →
      exec (.statusRead p) s =
        .next
          (replied p .statusRead tag
            (s.freed p rest,
              okReply
                (be 1 s.counter.state.code ++ s.counter.clock.bytes
                  ++ ((List.finRange 12).flatMap fun n =>
                    be 1 (s.link n).code
                      ++ (match (s.station n).record with
                          | some r =>
                            [1, if r.printer then 1 else 0, BitVec.ofNat 8 r.width, BitVec.ofNat 8 r.digits]
                          | none => [0, 0, 0, 0])
                      ++ [if (s.profile n).mode = .labelEach then 0 else 1,
                          if (s.profile n).autoClear then 1 else 0])
                  ++ be 1 s.openOrders.length ++ be 1 s.pricing.batch.code
                  ++ [if s.totals.report = none then 0 else 1])))

/-- A station's loss, spelled: the label in its slot fails LOST and the last label becomes absent; the PENDING item is
removed or the CLOSING order is OPEN again, and the held order is parked; the bound clerk is unbound and the serving
number released; the weighing context is cleared; the roster entry is ABSENT; the station's label and state lanes are
dropped. A silence expiry and a LINK RESET then raise STATION_LOST; an ABSENT station is not lost. The command as the
report's arrival and an expiry of a stopped timer changing nothing are the model's readings (log entries 11 and 5). -/
def Obligations.StationLossActsOnEveryBlock : Prop :=
  ∀ (s : State) (n : StationNo), s.OrdersOk → s.LabelsOk →
    let bound := s.boundClerk n
    let held := s.holding n
    let t := s.detach n
    { t with
        ports := s.ports, notices := s.notices, counter := s.counter, weighing := s.weighing, orders := s.orders
        labels := s.labels, queue := s.queue } = s
    ∧ (∀ p : Port,
      t.port p = if p = .s n then { s.port p with labelLane := [], stateLane := [] } else s.port p)
    ∧ t.notices =
      (match (s.printer n).slot with
        | some x =>
          (s.raise .printFailed
            { station := some n
              clerk := if x.record.kind = .reprint then none else some x.record.clerk
              order := if x.record.kind = .reprint then none else some x.record.order
              plu := match x.record.kind, x.record.body with | .item, .item b => some b.plu | _, _ => none
              variant := .print x.record.number .lost }).notices
        | none => s.notices)
    ∧ (∀ m : StationNo, t.printer m = if m = n then ⟨none, (s.printer n).nextNumber, none⟩ else s.printer m)
    ∧ (∀ m : StationNo,
      t.context m =
        if m = n then ⟨if (s.calibration n).isSet then .noZero else .noCal, [], none, none, false, none, false, none⟩
        else s.context m)
    ∧ (∀ m : StationNo, t.station m = if m = n then ⟨.absent, none, none⟩ else s.station m)
    ∧ { t.counter with roster := s.counter.roster } = s.counter
    ∧ (∀ c : ClerkNo, t.clerk c = if some c = bound then { s.clerk c with bound := none } else s.clerk c)
    ∧ t.orders.lastOrderNumber = s.orders.lastOrderNumber
    ∧ (∀ c : ClerkNo,
      t.order c =
        if some c = held then
          (s.order c).map fun o =>
            { o with
              holder := none, state := .opened, items := o.items.filter fun i => i.state != .pending
              revision := (o.revision + if o.labelInFlight then 2 else 1) % 65536 }
        else s.order c)
    ∧ t.queue =
      (match bound with
        | none => s.queue
        | some c =>
          match s.serving c with
          | none => s.queue
          | some r =>
            let q : QueueUnit := { s.queue with serving := s.queue.serving.put c none }
            if r.hadGoods then q
            else { q with missed := ⟨r.number, r.issued, r.called⟩ :: s.queue.missed.take 7 })
    ∧ (let lost (u : State) : State :=
        (u.detach n).raise .stationLost
          { station := some n, clerk := bound
            order := held.bind fun c => (s.order c).map fun o => o.number }
      s.resetLow = false →
        (s.link n = .absent → exec (.linkReset n) s = .next s.startAll)
        ∧ (s.link n ≠ .absent →
          exec (.linkReset n) s = .next (lost s).startAll
          ∧ ((s.station n).silence ≠ none → exec (.silenceExpiry n) s = .next (lost s).startAll))
        ∧ ((s.station n).silence = none → exec (.silenceExpiry n) s = .next s.startAll))

/-- ENROL: a field outside its values is refused; otherwise the station, after its loss when it was present, takes the
record, SERVICE under an open session on it and ENROLLED otherwise, a running silence timer and a cleared context, and
the reply carries the counter's state, clock, generation, window and the station's profile. A printer byte other than
0 and 1 is BAD_VALUE by the model's reading (log entry 7). -/
def Obligations.EnrolAnswered : Prop :=
  ∀ (s : State) (n : StationNo) (tag : Byte) (payload : List Byte) (rest : List Request),
    Waits s (.s n) .enrol tag payload rest →
      let s1 := s.freed (.s n) rest
      let s2 := if s.link n = .absent then s1 else s1.detach n
      let width := natAt payload 1 1
      let digits := natAt payload 2 1
      let link : LinkState :=
        match s.lock.session with
        | .opened m _ _ => if m = n then .service else .enrolled
        | _ => .enrolled
      exec (.enrol n) s =
        .next
          (replied (.s n) .enrol tag
            (if 1 < natAt payload 0 1 ∨ (width ≠ 40 ∧ width ≠ 60) ∨ digits < 6 ∨ 8 < digits then refuse s1 .badValue
              else
                ((s2.setStation n ⟨link, some ⟨natAt payload 0 1 == 1, width, digits⟩, some 2000⟩).setContext n
                    ⟨if (s.calibration n).isSet then .noZero else .noCal, [], none, none, false, none, false, none⟩,
                  okReply
                    (be 1 link.code ++ be 1 s.counter.state.code ++ s.counter.clock.bytes
                      ++ be 4 s.pricing.generation ++ [if s.markdownActive then 1 else 0]
                      ++ [if (s.profile n).mode = .labelEach then 0 else 1,
                          if (s.profile n).autoClear then 1 else 0]))))

/-- BEAT_EXPIRY while the beat timer runs: every station that is not ABSENT is handed one BEAT push, replacing one not
begun, the timer restarts, and nothing else changes; with the timer stopped nothing happens (log entry 5). The place
of a replacing BEAT is the model's reading (log entry 4). -/
def Obligations.BeatReachesStations : Prop :=
  ∀ s : State, s.resetLow = false →
    (s.counter.beat = none → exec .beatExpiry s = .next s.startAll)
    ∧ (s.counter.beat ≠ none →
      ∃ t : State, exec .beatExpiry s = .next t.startAll
        ∧ t.counter = { s.counter with beat := some 1000 }
        ∧ { t with ports := s.ports, counter := s.counter } = s
        ∧ ∀ p : Port,
          t.port p =
            match p with
            | .s n =>
              if s.link n = .absent then s.port p
              else
                { s.port p with
                  stateLane :=
                    ((s.port p).stateLane.filter fun f => f.kind != 0x71)
                      ++ [⟨0x71, 0,
                        s.counter.clock.bytes ++ be 4 s.pricing.generation
                          ++ [if s.markdownActive then 1 else 0] ++ be 1 s.counter.state.code
                          ++ (match s.boundClerk n with
                              | some c => [1, BitVec.ofNat 8 (c.val + 1)]
                              | none => [0, 0])⟩] }
            | _ => s.port p)

/-- The clock: one second a tick, stopped at its last; a tick and a TIME SET make a day change when the date differs
from the last date, and activate a batch whose instant is reached. TIME SET refuses a date or time that does not exist
and, while trading, a step above 120 s; a step above 2 s raises TIME_STEPPED. A tick while RESET is low advances the
clock and does nothing else: no day change and no activation (log entry 13). The signed six bytes of a step and the
activation within the same event are the model's readings (log entries 6 and 8). -/
def Obligations.ClockMoves : Prop :=
  (∀ t : DateTime, t.valid = true →
    (t = ⟨⟨2099, 12, 31⟩, 23, 59, 59⟩ → t.tick = t)
    ∧ (t ≠ ⟨⟨2099, 12, 31⟩, 23, 59, 59⟩ → t.tick.valid = true ∧ t.tick.seconds = t.seconds + 1))
  ∧ (∀ t u : DateTime, t.valid = true → u.valid = true → t.seconds = u.seconds → t = u)
  ∧ (let follow (s : State) : State :=
      let d : State :=
        if s.counter.clock.date = s.counter.lastDate then s
        else
          { s with
            counter := { s.counter with lastDate := s.counter.clock.date }
            lock :=
              { s.lock with
                failures := 0
                session := match s.lock.session with | .lockedOut => .idle | x => x } }
      if d.pricing.batch = .armed ∧ ∃ t, d.pricing.instant = some t ∧ t.seconds ≤ d.counter.clock.seconds then
        d.activate
      else d
    (∀ s : State, s.resetLow = false →
      exec .clockTick s =
        .next (follow { s with counter := { s.counter with clock := s.counter.clock.tick } }).startAll)
    ∧ (∀ s : State, s.resetLow = true →
      exec .clockTick s = .next { s with counter := { s.counter with clock := s.counter.clock.tick } })
    ∧ ∀ (s : State) (tag : Byte) (payload : List Byte) (rest : List Request),
      Waits s .b .timeSet tag payload rest →
        let s1 := s.freed .b rest
        exec .timeSet s =
          .next
            (replied .b .timeSet tag
              (match decodeTime payload with
                | none => refuse s1 .badValue
                | some t =>
                  let step : Int := (t.seconds : Int) - (s.counter.clock.seconds : Int)
                  if 120 < step.natAbs ∧ (s.counter.state = .opened ∨ s.counter.state = .draining) then
                    refuse s1 .refusedState
                  else
                    let s2 : State := { s1 with counter := { s.counter with clock := t } }
                    (follow (if 2 < step.natAbs then s2.raise .timeStepped { variant := .step step } else s2),
                      okReply (t.bytes ++ beInt 6 step)))))

/-! ## The service session (09) -/

/-- SERVICE OPEN and SERVICE KEY: refusals by session state; OPEN starts a key sequence of 30 s; words 1 to 3 are
stored unjudged; the fourth is judged: a failure counted, noticed and the third a lockout, a refusal of an absent or
busy station that ends the sequence uncounted, or the session opened on the station. The two OK replies of SERVICE KEY
carry their form's byte, by the model's reading of R183 (log entry 6). -/
def Obligations.ServiceOpenAndKeyAnswered : Prop :=
  ∀ (s : State) (tag : Byte) (payload : List Byte) (rest : List Request),
    let s1 := s.freed .v rest
    (Waits s .v .serviceOpen tag payload rest →
      let done (a : Answer) := exec .serviceOpen s = .next (replied .v .serviceOpen tag a)
      match s.lock.session with
      | .lockedOut => done (s1, ⟨.lockedOut, be 1 s.lock.failures⟩)
      | .synced _ _ => done (refuse s1 .refusedState)
      | .opened _ _ _ => done (refuse s1 .refusedState)
      | .idle =>
        (natAt payload 1 2 ≠ 0xC35A → done (refuse s1 .badValue))
        ∧ (natAt payload 1 2 = 0xC35A →
          match ofOrdinal 12 (natAt payload 0 1) with
          | none => done (refuse s1 .badValue)
          | some n =>
            done
              ({ s1 with lock := { s.lock with session := .synced n [], sequence := some 30000 } },
                okReply (be 4 s.lock.audit ++ be 1 s.lock.failures))))
    ∧ (Waits s .v .serviceKey tag payload rest →
      let done (a : Answer) := exec .serviceKey s = .next (replied .v .serviceKey tag a)
      let word : Word32 := BitVec.ofNat 32 (natAt payload 0 4)
      match s.lock.session with
      | .lockedOut => done (refuse s1 .lockedOut)
      | .idle => done (refuse s1 .refusedState)
      | .opened _ _ _ => done (refuse s1 .refusedState)
      | .synced n words =>
        let ended (u : State) (session : Session) (failures : Nat) : State :=
          { u with
            lock :=
              { s.lock with session := session, failures := failures, sequence := none, inactivity := none } }
        (words.length < 3 →
          done
            ({ s1 with lock := { s.lock with session := .synced n (words ++ [word]) } },
              okReply (0 :: be 1 (words.length + 2))))
        ∧ (3 ≤ words.length → words ++ [word] ≠ s.lock.key →
          let k := s.lock.failures + 1
          let failed (session : Session) :=
            (ended s1 session k).raise .serviceKeyFailed { station := some n, variant := .failures k }
          (k = 3 → done (failed .lockedOut, ⟨.lockedOut, []⟩))
          ∧ (k ≠ 3 → done (failed .idle, ⟨.badValue, be 1 k⟩)))
        ∧ (3 ≤ words.length → words ++ [word] = s.lock.key →
          let busy := (s.printer n).slot ≠ none ∨ ∃ c o, s.order c = some o ∧ o.holder = some n
          (s.link n = .absent → done (ended s1 .idle s.lock.failures, ⟨.noStation, []⟩))
          ∧ (s.link n ≠ .absent → busy → done (ended s1 .idle s.lock.failures, ⟨.stationBusy, []⟩))
          ∧ (s.link n ≠ .absent → ¬busy →
            let u : State :=
              { s1 with
                lock :=
                  { s.lock with
                    session := .opened n (s.calibration n).fields none, failures := 0, sequence := none
                    inactivity := some 900000 } }
            let v := u.setStation n { s1.station n with link := .service }
            let w : State :=
              match s.boundClerk n with
              | none => v
              | some c =>
                let x := v.setClerk c { s.clerk c with bound := none }
                match s.serving c with
                | none => x
                | some r =>
                  let y := x.setServing c none
                  if r.hadGoods then y
                  else
                    { y with
                      queue := { y.queue with missed := ⟨r.number, r.issued, r.called⟩ :: s.queue.missed.take 7 } }
            done
              (w.setContext n { s.context n with window := [] },
                okReply (1 :: (be 1 (n.val + 1) ++ (s.calibration n).bytes))))))

/-- Work in an open session, CAL READ, CAL WRITE, KEY CHANGE, CAPTURE ZERO and CAPTURE SPAN: outside OPEN each is
refused by the session state; in OPEN each restarts the inactivity timer, and edits the staging by its own rule or
refuses by its tests in order; nothing in force changes. The layouts are the model's reading
of R183 (log entry 6). -/
def Obligations.SessionWorkAnswered : Prop :=
  (∀ counts : List Int, counts ≠ [] →
    (∃ a ∈ counts, ∃ b ∈ counts, spread counts = a - b ∧ ∀ x ∈ counts, b ≤ x ∧ x ≤ a)
    ∧ (2 * (6 * rawMean counts - counts.sum)).natAbs ≤ 6
    ∧ ((2 * (6 * rawMean counts - counts.sum)).natAbs = 6 → counts.sum.natAbs < (6 * rawMean counts).natAbs))
  ∧ (∀ (s : State) (tag : Byte) (payload : List Byte) (rest : List Request) (k : RequestKind) (i : Instr),
    (k, i) ∈
        [(RequestKind.calRead, Instr.calRead), (.calWrite, .calWrite), (.keyChange, .keyChange),
          (.captureZero, .captureZero), (.captureSpan, .captureSpan), (.serviceClose, .serviceClose)] →
      Waits s .v k tag payload rest →
        (s.lock.session = .lockedOut → exec i s = .next (replied .v k tag (refuse (s.freed .v rest) .lockedOut)))
        ∧ ((s.lock.session = .idle ∨ ∃ n ws, s.lock.session = .synced n ws) →
          exec i s = .next (replied .v k tag (refuse (s.freed .v rest) .refusedState))))
  ∧ ∀ (s : State) (tag : Byte) (payload : List Byte) (rest : List Request) (n : StationNo) (f : CalFields)
      (key : Option (List Word32)), s.lock.session = .opened n f key →
    let s1 : State := { s.freed .v rest with lock := { s.lock with inactivity := some 900000 } }
    let staged (f' : CalFields) (key' : Option (List Word32)) : State :=
      { s1 with lock := { s1.lock with session := .opened n f' key' } }
    let counts := (s.context n).window.map (·.raw)
    let ranges := decide (10000 ≤ f.s ∧ f.s ≤ 8000000 ∧ 1000 ≤ f.l ∧ f.l ≤ 60000 ∧ f.e1 ∈ [1, 2, 5, 10, 20])
    let tolerance : Int := ((f.s * f.e1 / (2 * f.l) : Nat) : Int)
    (Waits s .v .calRead tag payload rest →
      exec .calRead s =
        .next
          (replied .v .calRead tag
            (s1,
              okReply
                (be 1 (n.val + 1) ++ be 1 (s.link n).code ++ (s.calibration n).bytes ++ f.bytes
                  ++ [if key = none then 0 else 1] ++ be 1 counts.length ++ be 4 s.lock.audit))))
    ∧ (Waits s .v .calWrite tag payload rest →
      let c := decodeCalWrite payload
      let f' : CalFields :=
        ⟨c.z.getD f.z, c.s.getD f.s, c.l.getD f.l, c.max1.getD f.max1, c.e1.getD f.e1, c.max2.getD f.max2,
          c.e2.getD f.e2⟩
      exec .calWrite s =
        .next
          (replied .v .calWrite tag
            (if (∀ z ∈ c.z, -8388608 ≤ z ∧ z ≤ 8388607) ∧ (∀ x ∈ c.s, 10000 ≤ x ∧ x ≤ 8000000)
                ∧ (∀ x ∈ c.l, 1000 ≤ x ∧ x ≤ 60000) ∧ (∀ x ∈ c.max1, 1 ≤ x ∧ x ≤ 30000)
                ∧ (∀ x ∈ c.max2, 1000 ≤ x ∧ x ≤ 30000) ∧ (∀ x ∈ c.e1, x ∈ [1, 2, 5, 10, 20])
                ∧ ∀ x ∈ c.e2, x ∈ [1, 2, 5, 10, 20] then
              (staged f' key, okReply f'.bytes)
            else refuse s1 .badValue)))
    ∧ (Waits s .v .keyChange tag payload rest →
      exec .keyChange s = .next (replied .v .keyChange tag (staged f (some (decodeKey payload)), okReply [])))
    ∧ (Waits s .v .captureZero tag payload rest →
      exec .captureZero s =
        .next
          (replied .v .captureZero tag
            (if s.link n = .absent ∨ counts.length < 6 then refuse s1 .noSamples
              else if ranges = false then refuse s1 .badCal
              else if tolerance < spread counts then refuse s1 .notStable
              else
                (staged { f with z := rawMean counts } key,
                  okReply (beInt 3 (rawMean counts) ++ be 3 (spread counts).toNat)))))
    ∧ (Waits s .v .captureSpan tag payload rest →
      let load := natAt payload 0 2
      let rise := rawMean counts - f.z
      exec .captureSpan s =
        .next
          (replied .v .captureSpan tag
            (if load < 1000 ∨ 60000 < load then refuse s1 .badValue
              else if s.link n = .absent ∨ counts.length < 6 then refuse s1 .noSamples
              else if ranges = false then refuse s1 .badCal
              else if tolerance < spread counts then refuse s1 .notStable
              else if rise < 10000 ∨ 8000000 < rise then refuse s1 .outOfRange
              else
                (staged { f with s := rise.toNat, l := load } key,
                  okReply (be 3 rise.toNat ++ be 2 load ++ be 3 (spread counts).toNat)))))

/-- The ends of a session: SERVICE CLOSE refuses a staging that fails a check, naming the first, and a change at the
last audit count, and otherwise commits a changed calibration with one audit step and a restarted context, and a
staged key; SERVICE ABANDON and the two timers discard; each returns a station in SERVICE to ENROLLED and the session
to IDLE. The numbers of the failed checks and the key-changed flag are the model's readings, and an expiry of a
stopped timer changes nothing (log entries 6, 19 and 5). -/
def Obligations.SessionEnds : Prop :=
  ∀ (s : State) (tag : Byte) (payload : List Byte) (rest : List Request),
    let s1 := s.freed .v rest
    let idle (u : State) : State :=
      { u with lock := { u.lock with session := .idle, sequence := none, inactivity := none } }
    let discarded (u : State) (n : StationNo) : State :=
      if s.link n = .service then
        ((idle u).setStation n { s.station n with link := .enrolled }).setContext n { s.context n with window := [] }
      else idle u
    (∀ (n : StationNo) (f : CalFields) (key : Option (List Word32)), s.lock.session = .opened n f key →
      Waits s .v .serviceClose tag payload rest →
        let s2 : State := { s1 with lock := { s.lock with inactivity := some 900000 } }
        let done (a : Answer) := exec .serviceClose s = .next (replied .v .serviceClose tag a)
        let checks : List Bool :=
          [decide (-8388608 ≤ f.z ∧ f.z ≤ 8388607), decide (10000 ≤ f.s ∧ f.s ≤ 8000000),
            decide (1000 ≤ f.l ∧ f.l ≤ 60000), decide (1 ≤ f.max1 ∧ f.max1 ≤ 30000),
            decide (1000 ≤ f.max2 ∧ f.max2 ≤ 30000), decide (f.e1 ∈ [1, 2, 5, 10, 20]),
            decide (f.e2 ∈ [1, 2, 5, 10, 20]), decide (f.max1 ≤ f.max2), decide (f.e1 ≤ f.e2),
            decide (f.max1 = f.max2 → f.e1 = f.e2), decide (f.max1 ≤ 6000 * f.e1), decide (f.max2 ≤ 6000 * f.e2)]
        let changed := (s.calibration n).isSet = false ∨ (s.calibration n).fields ≠ f
        let keyed (u : State) : State := { u with lock := { u.lock with key := key.getD u.lock.key } }
        let tail := [if key = none then 0 else 1]
        (∀ i : Nat, checks[i]? = some false → (∀ j < i, checks[j]? = some true) →
          done (s2, ⟨.badCal, be 1 i⟩))
        ∧ ((∀ b ∈ checks, b = true) →
          (changed → s.lock.audit = 4294967295 → done (refuse s2 .refusedState))
          ∧ (changed → s.lock.audit ≠ 4294967295 →
            let u : State :=
              ({ s1 with
                  lock :=
                    { s.lock with
                      records := s.lock.records.put n ⟨true, f⟩, audit := s.lock.audit + 1 } } : State).raise
                .calibrationChanged { station := some n, variant := .audit (s.lock.audit + 1) }
            let v := idle (keyed (u.setContext n ⟨.noZero, [], none, none, false, none, false, none⟩))
            done
              (if s.link n = .service then v.setStation n { s.station n with link := .enrolled } else v,
                okReply ([1] ++ tail ++ be 4 (s.lock.audit + 1))))
          ∧ (¬changed → done (discarded (keyed s1) n, okReply ([0] ++ tail ++ be 4 s.lock.audit)))))
    ∧ (Waits s .v .serviceAbandon tag payload rest →
      exec .serviceAbandon s =
        .next
          (replied .v .serviceAbandon tag
            (match s.lock.session with
              | .idle => refuse s1 .refusedState
              | .lockedOut => refuse s1 .lockedOut
              | .synced _ _ => (idle s1, okReply [])
              | .opened n _ _ => (discarded s1 n, okReply []))))
    ∧ (s.resetLow = false →
      exec .sequenceTimerExpiry s = .next (if s.lock.sequence = none then s else idle s).startAll
      ∧ exec .inactivityExpiry s =
        .next
          (match s.lock.session with
            | .opened n _ _ => if s.lock.inactivity = none then s else discarded s n
            | _ => s).startAll)

/-! ## Notices (10 section 10.5) -/

/-- A raised notice sets its occurred flag, and makes a record when its class is enabled and the queue has room; the
five notice requests: TAKE gives the oldest record or none, ENABLE, DISABLE and CLEAR refuse bits 14 and 15 and change
the flags of their masks, FLAGS READ returns both masks and the count; NOTICE stands exactly while the queue holds a
record and RESET is high. ENABLE and DISABLE answer a mask of 0 with OK alone. -/
def Obligations.NoticesAnswered : Prop :=
  (∀ (s : State) (c : NoticeClass) (f : NoticeFields),
    let u := (s.raise c f).notices
    { s.raise c f with notices := s.notices } = s
    ∧ u.enabled = s.notices.enabled
    ∧ (∀ d : NoticeClass,
      u.occurred.getLsbD (d.number - 1) = (s.notices.occurred.getLsbD (d.number - 1) || decide (d = c)))
    ∧ u.queue =
      (if s.notices.enabled.getLsbD (c.number - 1) = true ∧ s.notices.queue.length < 32 then
        s.notices.queue ++ [⟨c, s.counter.clock, f.station, f.clerk, f.order, f.plu, f.variant⟩]
      else s.notices.queue))
  ∧ (∀ s : State, s.noticeLine = true ↔ s.resetLow = false ∧ s.notices.queue ≠ [])
  ∧ ∀ (s : State) (tag : Byte) (payload : List Byte) (rest : List Request),
    let s1 := s.freed .b rest
    let u := s.notices
    let m : BitVec 16 := BitVec.ofNat 16 (natAt payload 0 2)
    let bad := m.getLsbD 14 = true ∨ m.getLsbD 15 = true
    (Waits s .b .noticeTake tag payload rest →
      exec .noticeTake s =
        .next
          (replied .b .noticeTake tag
            (match u.queue with
              | [] => (s1, okReply (List.replicate 25 0))
              | r :: rs =>
                ({ s1 with notices := { u with queue := rs } }, okReply (1 :: (r.bytes ++ be 1 rs.length))))))
    ∧ (Waits s .b .noticeEnable tag payload rest →
      exec .noticeEnable s =
        .next
          (replied .b .noticeEnable tag
            (if bad then refuse s1 .badValue
              else
                ({ s1 with notices := { u with enabled := u.enabled ||| m } },
                  okReply (if m = 0 then [] else be 2 (u.enabled ||| m).toNat)))))
    ∧ (Waits s .b .noticeDisable tag payload rest →
      exec .noticeDisable s =
        .next
          (replied .b .noticeDisable tag
            (if bad then refuse s1 .badValue
              else
                ({ s1 with notices := { u with enabled := u.enabled &&& ~~~m } },
                  okReply (if m = 0 then [] else be 2 (u.enabled &&& ~~~m).toNat)))))
    ∧ (Waits s .b .flagsRead tag payload rest →
      exec .flagsRead s =
        .next
          (replied .b .flagsRead tag
            (s1, okReply (be 2 u.occurred.toNat ++ be 2 u.enabled.toNat ++ be 1 u.queue.length))))
    ∧ (Waits s .b .flagsClear tag payload rest →
      exec .flagsClear s =
        .next
          (replied .b .flagsClear tag
            (if bad then refuse s1 .badValue
              else
                ({ s1 with notices := { u with occurred := u.occurred &&& ~~~m } },
                  okReply (be 2 (u.occurred &&& ~~~m).toNat)))))

/-! ## Encodings (10 section 10.4) -/

/-- Every request's fields read back from the bytes that R183's encoding gives them, kind by kind; those of a number,
a clerk, a word or a mask alone are of the length their kinds take, and a request that carries no fields has no
payload. The encodings are R183's as the model reads it (log entries 6 and 7). -/
def Obligations.RequestFieldsReadBack : Prop :=
  (∀ r : StationRecord, (r.width = 40 ∨ r.width = 60) → 6 ≤ r.digits → r.digits ≤ 8 →
    decodeEnrol r.bytes = some r)
  ∧ (∀ (c : ClerkNo) (code : Nat), code ≤ 9999 → decodeClerkOn (encodeClerkOn c code) = some (c, code))
  ∧ (∀ (c : ClerkNo) (code : Nat) (e : Bool), code ≤ 9999 →
    decodeClerkWrite (encodeClerkWrite c code e) = some (c, code, e))
  ∧ (∀ (n : StationNo) (r : Profile), decodeProfile (encodeProfile n r) = some (n, r))
  ∧ (∀ (p : Nat) (q : Option Nat) (g : Nat), p < 16777216 → (∀ k ∈ q, k < 256) → g < 4294967296 →
    decodeSale (encodeSale ⟨p, q, g⟩) = ⟨p, q, g⟩ ∧ decodeSale (encodeQuote p q) = ⟨p, q, 0⟩)
  ∧ (∀ (c : ClerkNo) (h : Option StationNo) (v : Nat), v < 65536 →
    decodeClaim (encodeClaim c h v) = some (c, h, v))
  ∧ (∀ f : PluFields, f.valid = true → pluFieldsAt f.bytes 0 = some f ∧ f.bytes.length = 39)
  ∧ (∀ e : BatchEntry, e.valid = true → decodeBatchEntry (encodeBatchEntry e) = some e)
  ∧ (∀ t : DateTime, t.valid = true → decodeTime t.bytes = some t)
  ∧ (∀ r : SettingsRequest, r.prices.valid = true →
    queueSettingsOk r.rollLength r.rollLow r.queueLong = true →
      decodeSettings (settingsBytes r.prices r.rollLength r.rollLow r.queueLong) = some r)
  ∧ (∀ k : TotalsCategory, decodeTotals (encodeTotals k) = some k)
  ∧ (∀ n : StationNo, decodeServiceOpen (be 1 (n.val + 1) ++ [0xC3, 0x5A]) = some n)
  ∧ (∀ c : CalChanges, c.valid = true → decodeCalWrite (encodeCalWrite c) = c)
  ∧ (∀ ws : List Word32, ws.length = 4 → decodeKey (encodeKey ws) = ws)
  ∧ (∀ x : Nat, x < 256 →
    natAt (be 1 x) 0 1 = x ∧ ∀ k ∈ [RequestKind.voidItem, .recallMissed], (be 1 x).length ∈ k.lengths)
  ∧ (∀ x : Nat, x < 65536 →
    natAt (be 2 x) 0 2 = x
      ∧ ∀ k ∈ [RequestKind.tareSet, .batchCommit, .reportRead, .captureSpan], (be 2 x).length ∈ k.lengths)
  ∧ (∀ p mode : Nat, p < 16777216 → mode < 256 →
    natAt (be 3 p) 0 3 = p ∧ (be 3 p).length ∈ RequestKind.pluRemove.lengths
      ∧ natAt (be 3 p ++ be 1 mode) 0 3 = p ∧ natAt (be 3 p ++ be 1 mode) 3 1 = mode
      ∧ (be 3 p ++ be 1 mode).length ∈ RequestKind.pluRead.lengths)
  ∧ (∀ c : ClerkNo, ofOrdinal 32 (natAt (be 1 (c.val + 1)) 0 1) = some c
    ∧ (be 1 (c.val + 1)).length ∈ RequestKind.clerkRead.lengths)
  ∧ (∀ w : Word32, BitVec.ofNat 32 (natAt (be 4 w.toNat) 0 4) = w
    ∧ (be 4 w.toNat).length ∈ RequestKind.serviceKey.lengths)
  ∧ (∀ m : BitVec 16, maskAt (be 2 m.toNat) = m
    ∧ ∀ k ∈ [RequestKind.noticeEnable, .noticeDisable, .flagsClear], (be 2 m.toNat).length ∈ k.lengths)
  ∧ ∀ k : RequestKind,
    k ∈ [.zero, .tareKey, .tareClear, .clerkOff, .parkOrder, .closeOrder, .reprint, .callNext, .recall, .pluWipe,
          .batchClear, .batchStatus, .openCounter, .closeCounter, .settingsRead, .statusRead, .zClose, .reportRelease,
          .noticeTake, .flagsRead, .calRead, .captureZero, .serviceClose, .serviceAbandon, .take, .rollLoaded] →
      k.lengths = [0]

/-! ## The laws that hold between events -/

/-- The machine right after reset keeps every law. -/
def Obligations.ResetKeepsEveryLaw : Prop :=
  let s := State.reset
  s.LinksOk ∧ s.NoticesOk ∧ s.ClockOk ∧ s.BatchOk ∧ s.GenerationOk ∧ s.plu.Ok ∧ s.WeighingOk ∧ s.OrdersOk
    ∧ s.LabelsOk ∧ s.QueueOk ∧ s.LedgerOk ∧ s.GoodsLedgerOk ∧ s.ItemsNamed ∧ s.SessionOk ∧ s.RosterOk

/-- Every step keeps the links' and the notice unit's laws (R173, R175, R178, R184). -/
def Obligations.LinksAndNoticesAreKept : Prop :=
  ∀ s t : State, step s = .next t → (s.LinksOk → t.LinksOk) ∧ (s.NoticesOk → t.NoticesOk)

/-- Every step keeps the weighing engine's law (R1, R2, R7, R12). -/
def Obligations.WeighingIsKept : Prop :=
  ∀ s t : State, s.WeighingOk → step s = .next t → t.WeighingOk

/-- Every step keeps the queue's law: no ticket number stands in two places (R109). -/
def Obligations.QueueNumbersStayUnique : Prop :=
  ∀ s t : State, s.QueueOk → step s = .next t → t.QueueOk

/-- Every step keeps the order manager's laws and the law of labels in flight (R62, R67, R68, R72, R126, R138). -/
def Obligations.OrdersAndLabelsAreKept : Prop :=
  ∀ s t : State, s.OrdersOk → s.LabelsOk → step s = .next t → t.OrdersOk ∧ t.LabelsOk

/-- Every step keeps the table's law, the batch's and the generation's (R25, R26, R27, R29, R41, R53, R54). -/
def Obligations.TableBatchGenerationAreKept : Prop :=
  ∀ s t : State, step s = .next t →
    (s.plu.Ok → s.BatchOk → t.plu.Ok ∧ t.BatchOk)
    ∧ (s.OrdersOk → s.LabelsOk → s.GenerationOk → t.GenerationOk)

/-- Every step keeps the equalities of the value totals over clerks, stations and GT (R130, R125). -/
def Obligations.LedgerBalances : Prop :=
  ∀ s t : State, s.LedgerOk → step s = .next t → t.LedgerOk

/-- Every step keeps the equalities over departments and PLU records, with every sold item's record in the table
(R130, R31). -/
def Obligations.GoodsLedgerBalances : Prop :=
  ∀ s t : State, s.OrdersOk → s.plu.Ok → s.BatchOk → s.LedgerOk → s.ItemsNamed → s.GoodsLedgerOk →
    step s = .next t → t.ItemsNamed ∧ t.GoodsLedgerOk

/-- Every step keeps the laws of the session, the roster and the clock (R148, R150, R152, R158 to R163). -/
def Obligations.SessionRosterClockAreKept : Prop :=
  ∀ s t : State, step s = .next t →
    (s.SessionOk → t.SessionOk) ∧ (s.RosterOk → t.RosterOk) ∧ (s.ClockOk → t.ClockOk)
end

