-- ==== Sys2Proof/Laws/Arithmetic.lean ====
section
/-! SUPPORT. Exact arithmetic: what each rounding comes to, once, so that no proof unfolds a division. -/

namespace Sys2Proof.Machine

/-- Halves away from zero, in the two signs: twice the distance is at most the divisor, and an exact half has the
greater magnitude (00_scope, Rounding). -/
theorem roundHalfAway_spec (num : Int) (den : Nat) (h : 0 < den) :
    (2 * (roundHalfAway num den * den - num)).natAbs ≤ den
      ∧ ((2 * (roundHalfAway num den * den - num)).natAbs = den →
        num.natAbs < (roundHalfAway num den * den).natAbs) := by
  have hd := Nat.div_add_mod (2 * num.natAbs + den) (2 * den)
  have hm := Nat.mod_lt (2 * num.natAbs + den) (show 0 < 2 * den by omega)
  have ha : ((2 * num.natAbs + den) / (2 * den)) * den * 2
      = 2 * den * ((2 * num.natAbs + den) / (2 * den)) := by ring
  generalize hq : (2 * num.natAbs + den) / (2 * den) = q at *
  have hz : ((q * den : Nat) : Int) = (q : Int) * den := by push_cast; ring
  unfold roundHalfAway
  rw [hq]
  split
  · rw [neg_mul, ← hz]
    omega
  · rw [← hz]
    omega

theorem roundHalfAway_nonneg {num : Int} {den : Nat} (h : 0 ≤ num) : 0 ≤ roundHalfAway num den := by
  unfold roundHalfAway
  rw [if_neg (by omega)]
  exact Int.natCast_nonneg _

/-- Halves up: twice the value is within the divisor of twice the multiple, the half counting upward. -/
theorem roundHalfUp_spec (num den : Nat) (h : 0 < den) :
    2 * num < (2 * roundHalfUp num den + 1) * den ∧ (2 * roundHalfUp num den) * den ≤ 2 * num + den := by
  unfold roundHalfUp
  have hd := Nat.div_add_mod (2 * num + den) (2 * den)
  have hm := Nat.mod_lt (2 * num + den) (show 0 < 2 * den by omega)
  generalize (2 * num + den) / (2 * den) = q at *
  have h1 : (2 * q + 1) * den = 2 * den * q + den := by ring
  have h2 : 2 * q * den = 2 * den * q := by ring
  omega

/-- A clamped value: itself within the limits, the nearer limit outside them. -/
theorem clampTo_spec (limit : Nat) (x : Int) :
    (-(limit : Int) ≤ clampTo limit x ∧ clampTo limit x ≤ limit)
      ∧ (-(limit : Int) ≤ x → x ≤ limit → clampTo limit x = x) := by
  unfold clampTo
  split_ifs <;> omega

theorem addCount_lt (m x : Nat) : addCount m x < Config.countModulus := Nat.mod_lt _ (by decide)
theorem addValue_lt (m x : Nat) : addValue m x < Config.valueModulus := Nat.mod_lt _ (by decide)

/-- Successive additions to a count come to one addition of their sum. -/
theorem addCount_addCount (m x y : Nat) : addCount (addCount m x) y = addCount m (x + y) := by
  simp [addCount, Nat.add_assoc]

/-- Successive additions to a value come to one addition of their sum. -/
theorem addValue_addValue (m x y : Nat) : addValue (addValue m x) y = addValue m (x + y) := by
  simp [addValue, Nat.add_assoc]

/-! ## The calendar -/

/-- The month lengths lie between 28 and 31 days. -/
theorem daysInMonth_bounds {y m : Nat} (h1 : 1 ≤ m) (h2 : m ≤ 12) :
    28 ≤ daysInMonth y m ∧ daysInMonth y m ≤ 31 := by
  unfold daysInMonth monthLengths
  cases isLeap y <;> interval_cases m <;> decide

/-- The date after a valid date other than the calendar's last is valid. -/
theorem Date.next_valid {d : Date} (h : d.valid = true) (hl : d ≠ lastDate) : d.next.valid = true := by
  obtain ⟨y, m, k⟩ := d
  simp only [Date.valid, Bool.and_eq_true, decide_eq_true_eq] at h
  obtain ⟨⟨⟨⟨⟨h1, h2⟩, h3⟩, h4⟩, h5⟩, h6⟩ := h
  unfold Date.next
  simp only
  split_ifs with ha hb
  · simp only [Date.valid, Bool.and_eq_true, decide_eq_true_eq]
    omega
  · have := (daysInMonth_bounds (y := y) (m := m + 1) (by omega) (by omega)).1
    simp only [Date.valid, Bool.and_eq_true, decide_eq_true_eq]
    omega
  · have hm : m = 12 := by omega
    subst hm
    have h31 : daysInMonth y 12 = 31 := by unfold daysInMonth monthLengths; cases isLeap y <;> rfl
    have hy : y ≠ 2099 := fun hy => hl (by subst hy; simp only [lastDate, Date.mk.injEq, true_and]; omega)
    have := (daysInMonth_bounds (y := y + 1) (m := 1) (by omega) (by omega)).1
    simp only [Date.valid, Bool.and_eq_true, decide_eq_true_eq]
    omega

end Sys2Proof.Machine
end

