-- ==== Sys2Proof/Laws/Table.lean ====
section
/-! SUPPORT. Tables and ports: reading back after a write, and tables that agree entry by entry. -/

namespace Sys2Proof

namespace Table
variable {n : Nat} {α : Type}

@[simp] theorem get_put_same (t : Table n α) (i : Fin n) (x : α) : (t.put i x).get i = x := by
  simp [get, put]

theorem get_put (t : Table n α) (i j : Fin n) (x : α) : (t.put i x).get j = if j = i then x else t.get j := by
  unfold get put
  rw [Vector.getElem_set]
  by_cases h : j = i
  · simp [h]
  · have : ¬ i.val = j.val := fun e => h (Fin.ext e.symm)
    simp [h, this]

theorem get_put_ne (t : Table n α) {i j : Fin n} (x : α) (h : j ≠ i) : (t.put i x).get j = t.get j := by
  rw [get_put, if_neg h]

@[simp] theorem get_fill (x : α) (i : Fin n) : (fill n x).get i = x := by simp [get, fill]

@[simp] theorem get_each (t : Table n α) (f : α → α) (i : Fin n) : (t.each f).get i = f (t.get i) := by
  simp [get, each]

@[simp] theorem get_ofFn (f : Fin n → α) (i : Fin n) : get (Vector.ofFn f) i = f i := by simp [get]

theorem ext_get {t u : Table n α} (h : ∀ i, t.get i = u.get i) : t = u := by
  apply Vector.ext
  intro i hi
  exact h ⟨i, hi⟩

@[simp] theorem put_get (t : Table n α) (i : Fin n) : t.put i (t.get i) = t :=
  ext_get fun j => by
    rw [get_put]
    split
    · next h => rw [h]
    · rfl

@[simp] theorem put_put (t : Table n α) (i : Fin n) (x y : α) : (t.put i x).put i y = t.put i y :=
  ext_get fun j => by
    simp only [get_put]
    split <;> rfl

theorem put_comm (t : Table n α) {i j : Fin n} (x y : α) (h : i ≠ j) :
    (t.put i x).put j y = (t.put j y).put i x :=
  ext_get fun k => by
    simp only [get_put]
    split
    · next e => rw [if_neg (by rw [e]; exact fun e' => h e'.symm)]
    · rfl

theorem mem_rows {t : Table n α} {x : α} : x ∈ t.rows ↔ ∃ i, t.get i = x := by
  simp [rows]

@[simp] theorem length_rows (t : Table n α) : t.rows.length = n := by simp [rows]

end Table

@[simp] theorem Port.index_inj {p p' : Port} : p.index = p'.index ↔ p = p' := by
  constructor
  · intro h
    cases p <;> cases p' <;> simp_all [Port.index, Fin.ext_iff] <;> omega
  · rintro rfl
    rfl

end Sys2Proof
end

