-- ==== Sys2Proof/Laws/State.lean ====
section
/-! SUPPORT. One lemma for each field and each update of the state, so that no proof unfolds a record update, and what
each reading function reads after each write. -/

namespace Sys2Proof.Machine.State

variable (s : State)

/-! ## setPort -/

@[simp] theorem setPort_pending (p : Port) (x : LinkPort) : (s.setPort p x).pending = s.pending := rfl
@[simp] theorem setPort_resetLow (p : Port) (x : LinkPort) : (s.setPort p x).resetLow = s.resetLow := rfl
@[simp] theorem setPort_loadHold (p : Port) (x : LinkPort) : (s.setPort p x).loadHold = s.loadHold := rfl
@[simp] theorem setPort_markerOk (p : Port) (x : LinkPort) : (s.setPort p x).markerOk = s.markerOk := rfl
@[simp] theorem setPort_ports (p : Port) (x : LinkPort) : (s.setPort p x).ports = s.ports.put p.index x := rfl
@[simp] theorem setPort_notices (p : Port) (x : LinkPort) : (s.setPort p x).notices = s.notices := rfl
@[simp] theorem setPort_counter (p : Port) (x : LinkPort) : (s.setPort p x).counter = s.counter := rfl
@[simp] theorem setPort_weighing (p : Port) (x : LinkPort) : (s.setPort p x).weighing = s.weighing := rfl
@[simp] theorem setPort_plu (p : Port) (x : LinkPort) : (s.setPort p x).plu = s.plu := rfl
@[simp] theorem setPort_pricing (p : Port) (x : LinkPort) : (s.setPort p x).pricing = s.pricing := rfl
@[simp] theorem setPort_orders (p : Port) (x : LinkPort) : (s.setPort p x).orders = s.orders := rfl
@[simp] theorem setPort_labels (p : Port) (x : LinkPort) : (s.setPort p x).labels = s.labels := rfl
@[simp] theorem setPort_queue (p : Port) (x : LinkPort) : (s.setPort p x).queue = s.queue := rfl
@[simp] theorem setPort_totals (p : Port) (x : LinkPort) : (s.setPort p x).totals = s.totals := rfl
@[simp] theorem setPort_lock (p : Port) (x : LinkPort) : (s.setPort p x).lock = s.lock := rfl
@[simp] theorem setPort_context (p : Port) (x : LinkPort) (m : StationNo) : (s.setPort p x).context m = s.context m := rfl
@[simp] theorem setPort_station (p : Port) (x : LinkPort) (m : StationNo) : (s.setPort p x).station m = s.station m := rfl
@[simp] theorem setPort_link (p : Port) (x : LinkPort) (m : StationNo) : (s.setPort p x).link m = s.link m := rfl
@[simp] theorem setPort_printer (p : Port) (x : LinkPort) (m : StationNo) : (s.setPort p x).printer m = s.printer m := rfl
@[simp] theorem setPort_clerk (p : Port) (x : LinkPort) (d : ClerkNo) : (s.setPort p x).clerk d = s.clerk d := rfl
@[simp] theorem setPort_order (p : Port) (x : LinkPort) (d : ClerkNo) : (s.setPort p x).order d = s.order d := rfl
@[simp] theorem setPort_serving (p : Port) (x : LinkPort) (d : ClerkNo) : (s.setPort p x).serving d = s.serving d := rfl
@[simp] theorem setPort_calibration (p : Port) (x : LinkPort) (m : StationNo) : (s.setPort p x).calibration m = s.calibration m := rfl
@[simp] theorem setPort_profile (p : Port) (x : LinkPort) (m : StationNo) : (s.setPort p x).profile m = s.profile m := rfl
@[simp] theorem setPort_clock (p : Port) (x : LinkPort) : (s.setPort p x).clock = s.clock := rfl

/-! ## onPort -/

@[simp] theorem onPort_pending (p : Port) (f : LinkPort → LinkPort) : (s.onPort p f).pending = s.pending := rfl
@[simp] theorem onPort_resetLow (p : Port) (f : LinkPort → LinkPort) : (s.onPort p f).resetLow = s.resetLow := rfl
@[simp] theorem onPort_loadHold (p : Port) (f : LinkPort → LinkPort) : (s.onPort p f).loadHold = s.loadHold := rfl
@[simp] theorem onPort_markerOk (p : Port) (f : LinkPort → LinkPort) : (s.onPort p f).markerOk = s.markerOk := rfl
@[simp] theorem onPort_ports (p : Port) (f : LinkPort → LinkPort) : (s.onPort p f).ports = s.ports.put p.index (f (s.port p)) := rfl
@[simp] theorem onPort_notices (p : Port) (f : LinkPort → LinkPort) : (s.onPort p f).notices = s.notices := rfl
@[simp] theorem onPort_counter (p : Port) (f : LinkPort → LinkPort) : (s.onPort p f).counter = s.counter := rfl
@[simp] theorem onPort_weighing (p : Port) (f : LinkPort → LinkPort) : (s.onPort p f).weighing = s.weighing := rfl
@[simp] theorem onPort_plu (p : Port) (f : LinkPort → LinkPort) : (s.onPort p f).plu = s.plu := rfl
@[simp] theorem onPort_pricing (p : Port) (f : LinkPort → LinkPort) : (s.onPort p f).pricing = s.pricing := rfl
@[simp] theorem onPort_orders (p : Port) (f : LinkPort → LinkPort) : (s.onPort p f).orders = s.orders := rfl
@[simp] theorem onPort_labels (p : Port) (f : LinkPort → LinkPort) : (s.onPort p f).labels = s.labels := rfl
@[simp] theorem onPort_queue (p : Port) (f : LinkPort → LinkPort) : (s.onPort p f).queue = s.queue := rfl
@[simp] theorem onPort_totals (p : Port) (f : LinkPort → LinkPort) : (s.onPort p f).totals = s.totals := rfl
@[simp] theorem onPort_lock (p : Port) (f : LinkPort → LinkPort) : (s.onPort p f).lock = s.lock := rfl
@[simp] theorem onPort_context (p : Port) (f : LinkPort → LinkPort) (m : StationNo) : (s.onPort p f).context m = s.context m := rfl
@[simp] theorem onPort_station (p : Port) (f : LinkPort → LinkPort) (m : StationNo) : (s.onPort p f).station m = s.station m := rfl
@[simp] theorem onPort_link (p : Port) (f : LinkPort → LinkPort) (m : StationNo) : (s.onPort p f).link m = s.link m := rfl
@[simp] theorem onPort_printer (p : Port) (f : LinkPort → LinkPort) (m : StationNo) : (s.onPort p f).printer m = s.printer m := rfl
@[simp] theorem onPort_clerk (p : Port) (f : LinkPort → LinkPort) (d : ClerkNo) : (s.onPort p f).clerk d = s.clerk d := rfl
@[simp] theorem onPort_order (p : Port) (f : LinkPort → LinkPort) (d : ClerkNo) : (s.onPort p f).order d = s.order d := rfl
@[simp] theorem onPort_serving (p : Port) (f : LinkPort → LinkPort) (d : ClerkNo) : (s.onPort p f).serving d = s.serving d := rfl
@[simp] theorem onPort_calibration (p : Port) (f : LinkPort → LinkPort) (m : StationNo) : (s.onPort p f).calibration m = s.calibration m := rfl
@[simp] theorem onPort_profile (p : Port) (f : LinkPort → LinkPort) (m : StationNo) : (s.onPort p f).profile m = s.profile m := rfl
@[simp] theorem onPort_clock (p : Port) (f : LinkPort → LinkPort) : (s.onPort p f).clock = s.clock := rfl

/-! ## setContext -/

@[simp] theorem setContext_pending (n : StationNo) (x : WeighContext) : (s.setContext n x).pending = s.pending := rfl
@[simp] theorem setContext_resetLow (n : StationNo) (x : WeighContext) : (s.setContext n x).resetLow = s.resetLow := rfl
@[simp] theorem setContext_loadHold (n : StationNo) (x : WeighContext) : (s.setContext n x).loadHold = s.loadHold := rfl
@[simp] theorem setContext_markerOk (n : StationNo) (x : WeighContext) : (s.setContext n x).markerOk = s.markerOk := rfl
@[simp] theorem setContext_ports (n : StationNo) (x : WeighContext) : (s.setContext n x).ports = s.ports := rfl
@[simp] theorem setContext_notices (n : StationNo) (x : WeighContext) : (s.setContext n x).notices = s.notices := rfl
@[simp] theorem setContext_counter (n : StationNo) (x : WeighContext) : (s.setContext n x).counter = s.counter := rfl
@[simp] theorem setContext_weighing (n : StationNo) (x : WeighContext) : (s.setContext n x).weighing = s.weighing.put n x := rfl
@[simp] theorem setContext_plu (n : StationNo) (x : WeighContext) : (s.setContext n x).plu = s.plu := rfl
@[simp] theorem setContext_pricing (n : StationNo) (x : WeighContext) : (s.setContext n x).pricing = s.pricing := rfl
@[simp] theorem setContext_orders (n : StationNo) (x : WeighContext) : (s.setContext n x).orders = s.orders := rfl
@[simp] theorem setContext_labels (n : StationNo) (x : WeighContext) : (s.setContext n x).labels = s.labels := rfl
@[simp] theorem setContext_queue (n : StationNo) (x : WeighContext) : (s.setContext n x).queue = s.queue := rfl
@[simp] theorem setContext_totals (n : StationNo) (x : WeighContext) : (s.setContext n x).totals = s.totals := rfl
@[simp] theorem setContext_lock (n : StationNo) (x : WeighContext) : (s.setContext n x).lock = s.lock := rfl
@[simp] theorem setContext_port (n : StationNo) (x : WeighContext) (p' : Port) : (s.setContext n x).port p' = s.port p' := rfl
@[simp] theorem setContext_station (n : StationNo) (x : WeighContext) (m : StationNo) : (s.setContext n x).station m = s.station m := rfl
@[simp] theorem setContext_link (n : StationNo) (x : WeighContext) (m : StationNo) : (s.setContext n x).link m = s.link m := rfl
@[simp] theorem setContext_printer (n : StationNo) (x : WeighContext) (m : StationNo) : (s.setContext n x).printer m = s.printer m := rfl
@[simp] theorem setContext_clerk (n : StationNo) (x : WeighContext) (d : ClerkNo) : (s.setContext n x).clerk d = s.clerk d := rfl
@[simp] theorem setContext_order (n : StationNo) (x : WeighContext) (d : ClerkNo) : (s.setContext n x).order d = s.order d := rfl
@[simp] theorem setContext_serving (n : StationNo) (x : WeighContext) (d : ClerkNo) : (s.setContext n x).serving d = s.serving d := rfl
@[simp] theorem setContext_calibration (n : StationNo) (x : WeighContext) (m : StationNo) : (s.setContext n x).calibration m = s.calibration m := rfl
@[simp] theorem setContext_profile (n : StationNo) (x : WeighContext) (m : StationNo) : (s.setContext n x).profile m = s.profile m := rfl
@[simp] theorem setContext_clock (n : StationNo) (x : WeighContext) : (s.setContext n x).clock = s.clock := rfl

/-! ## setStation -/

@[simp] theorem setStation_pending (n : StationNo) (x : RosterEntry) : (s.setStation n x).pending = s.pending := rfl
@[simp] theorem setStation_resetLow (n : StationNo) (x : RosterEntry) : (s.setStation n x).resetLow = s.resetLow := rfl
@[simp] theorem setStation_loadHold (n : StationNo) (x : RosterEntry) : (s.setStation n x).loadHold = s.loadHold := rfl
@[simp] theorem setStation_markerOk (n : StationNo) (x : RosterEntry) : (s.setStation n x).markerOk = s.markerOk := rfl
@[simp] theorem setStation_ports (n : StationNo) (x : RosterEntry) : (s.setStation n x).ports = s.ports := rfl
@[simp] theorem setStation_notices (n : StationNo) (x : RosterEntry) : (s.setStation n x).notices = s.notices := rfl
@[simp] theorem setStation_counter (n : StationNo) (x : RosterEntry) : (s.setStation n x).counter = { s.counter with roster := s.counter.roster.put n x } := rfl
@[simp] theorem setStation_weighing (n : StationNo) (x : RosterEntry) : (s.setStation n x).weighing = s.weighing := rfl
@[simp] theorem setStation_plu (n : StationNo) (x : RosterEntry) : (s.setStation n x).plu = s.plu := rfl
@[simp] theorem setStation_pricing (n : StationNo) (x : RosterEntry) : (s.setStation n x).pricing = s.pricing := rfl
@[simp] theorem setStation_orders (n : StationNo) (x : RosterEntry) : (s.setStation n x).orders = s.orders := rfl
@[simp] theorem setStation_labels (n : StationNo) (x : RosterEntry) : (s.setStation n x).labels = s.labels := rfl
@[simp] theorem setStation_queue (n : StationNo) (x : RosterEntry) : (s.setStation n x).queue = s.queue := rfl
@[simp] theorem setStation_totals (n : StationNo) (x : RosterEntry) : (s.setStation n x).totals = s.totals := rfl
@[simp] theorem setStation_lock (n : StationNo) (x : RosterEntry) : (s.setStation n x).lock = s.lock := rfl
@[simp] theorem setStation_port (n : StationNo) (x : RosterEntry) (p' : Port) : (s.setStation n x).port p' = s.port p' := rfl
@[simp] theorem setStation_context (n : StationNo) (x : RosterEntry) (m : StationNo) : (s.setStation n x).context m = s.context m := rfl
@[simp] theorem setStation_printer (n : StationNo) (x : RosterEntry) (m : StationNo) : (s.setStation n x).printer m = s.printer m := rfl
@[simp] theorem setStation_clerk (n : StationNo) (x : RosterEntry) (d : ClerkNo) : (s.setStation n x).clerk d = s.clerk d := rfl
@[simp] theorem setStation_order (n : StationNo) (x : RosterEntry) (d : ClerkNo) : (s.setStation n x).order d = s.order d := rfl
@[simp] theorem setStation_serving (n : StationNo) (x : RosterEntry) (d : ClerkNo) : (s.setStation n x).serving d = s.serving d := rfl
@[simp] theorem setStation_calibration (n : StationNo) (x : RosterEntry) (m : StationNo) : (s.setStation n x).calibration m = s.calibration m := rfl
@[simp] theorem setStation_profile (n : StationNo) (x : RosterEntry) (m : StationNo) : (s.setStation n x).profile m = s.profile m := rfl

/-! ## setPrinter -/

@[simp] theorem setPrinter_pending (n : StationNo) (x : LabelStation) : (s.setPrinter n x).pending = s.pending := rfl
@[simp] theorem setPrinter_resetLow (n : StationNo) (x : LabelStation) : (s.setPrinter n x).resetLow = s.resetLow := rfl
@[simp] theorem setPrinter_loadHold (n : StationNo) (x : LabelStation) : (s.setPrinter n x).loadHold = s.loadHold := rfl
@[simp] theorem setPrinter_markerOk (n : StationNo) (x : LabelStation) : (s.setPrinter n x).markerOk = s.markerOk := rfl
@[simp] theorem setPrinter_ports (n : StationNo) (x : LabelStation) : (s.setPrinter n x).ports = s.ports := rfl
@[simp] theorem setPrinter_notices (n : StationNo) (x : LabelStation) : (s.setPrinter n x).notices = s.notices := rfl
@[simp] theorem setPrinter_counter (n : StationNo) (x : LabelStation) : (s.setPrinter n x).counter = s.counter := rfl
@[simp] theorem setPrinter_weighing (n : StationNo) (x : LabelStation) : (s.setPrinter n x).weighing = s.weighing := rfl
@[simp] theorem setPrinter_plu (n : StationNo) (x : LabelStation) : (s.setPrinter n x).plu = s.plu := rfl
@[simp] theorem setPrinter_pricing (n : StationNo) (x : LabelStation) : (s.setPrinter n x).pricing = s.pricing := rfl
@[simp] theorem setPrinter_orders (n : StationNo) (x : LabelStation) : (s.setPrinter n x).orders = s.orders := rfl
@[simp] theorem setPrinter_labels (n : StationNo) (x : LabelStation) : (s.setPrinter n x).labels = s.labels.put n x := rfl
@[simp] theorem setPrinter_queue (n : StationNo) (x : LabelStation) : (s.setPrinter n x).queue = s.queue := rfl
@[simp] theorem setPrinter_totals (n : StationNo) (x : LabelStation) : (s.setPrinter n x).totals = s.totals := rfl
@[simp] theorem setPrinter_lock (n : StationNo) (x : LabelStation) : (s.setPrinter n x).lock = s.lock := rfl
@[simp] theorem setPrinter_port (n : StationNo) (x : LabelStation) (p' : Port) : (s.setPrinter n x).port p' = s.port p' := rfl
@[simp] theorem setPrinter_context (n : StationNo) (x : LabelStation) (m : StationNo) : (s.setPrinter n x).context m = s.context m := rfl
@[simp] theorem setPrinter_station (n : StationNo) (x : LabelStation) (m : StationNo) : (s.setPrinter n x).station m = s.station m := rfl
@[simp] theorem setPrinter_link (n : StationNo) (x : LabelStation) (m : StationNo) : (s.setPrinter n x).link m = s.link m := rfl
@[simp] theorem setPrinter_clerk (n : StationNo) (x : LabelStation) (d : ClerkNo) : (s.setPrinter n x).clerk d = s.clerk d := rfl
@[simp] theorem setPrinter_order (n : StationNo) (x : LabelStation) (d : ClerkNo) : (s.setPrinter n x).order d = s.order d := rfl
@[simp] theorem setPrinter_serving (n : StationNo) (x : LabelStation) (d : ClerkNo) : (s.setPrinter n x).serving d = s.serving d := rfl
@[simp] theorem setPrinter_calibration (n : StationNo) (x : LabelStation) (m : StationNo) : (s.setPrinter n x).calibration m = s.calibration m := rfl
@[simp] theorem setPrinter_profile (n : StationNo) (x : LabelStation) (m : StationNo) : (s.setPrinter n x).profile m = s.profile m := rfl
@[simp] theorem setPrinter_clock (n : StationNo) (x : LabelStation) : (s.setPrinter n x).clock = s.clock := rfl

/-! ## setClerk -/

@[simp] theorem setClerk_pending (c : ClerkNo) (x : ClerkEntry) : (s.setClerk c x).pending = s.pending := rfl
@[simp] theorem setClerk_resetLow (c : ClerkNo) (x : ClerkEntry) : (s.setClerk c x).resetLow = s.resetLow := rfl
@[simp] theorem setClerk_loadHold (c : ClerkNo) (x : ClerkEntry) : (s.setClerk c x).loadHold = s.loadHold := rfl
@[simp] theorem setClerk_markerOk (c : ClerkNo) (x : ClerkEntry) : (s.setClerk c x).markerOk = s.markerOk := rfl
@[simp] theorem setClerk_ports (c : ClerkNo) (x : ClerkEntry) : (s.setClerk c x).ports = s.ports := rfl
@[simp] theorem setClerk_notices (c : ClerkNo) (x : ClerkEntry) : (s.setClerk c x).notices = s.notices := rfl
@[simp] theorem setClerk_counter (c : ClerkNo) (x : ClerkEntry) : (s.setClerk c x).counter = s.counter := rfl
@[simp] theorem setClerk_weighing (c : ClerkNo) (x : ClerkEntry) : (s.setClerk c x).weighing = s.weighing := rfl
@[simp] theorem setClerk_plu (c : ClerkNo) (x : ClerkEntry) : (s.setClerk c x).plu = s.plu := rfl
@[simp] theorem setClerk_pricing (c : ClerkNo) (x : ClerkEntry) : (s.setClerk c x).pricing = s.pricing := rfl
@[simp] theorem setClerk_orders (c : ClerkNo) (x : ClerkEntry) : (s.setClerk c x).orders = { s.orders with clerks := s.orders.clerks.put c x } := rfl
@[simp] theorem setClerk_labels (c : ClerkNo) (x : ClerkEntry) : (s.setClerk c x).labels = s.labels := rfl
@[simp] theorem setClerk_queue (c : ClerkNo) (x : ClerkEntry) : (s.setClerk c x).queue = s.queue := rfl
@[simp] theorem setClerk_totals (c : ClerkNo) (x : ClerkEntry) : (s.setClerk c x).totals = s.totals := rfl
@[simp] theorem setClerk_lock (c : ClerkNo) (x : ClerkEntry) : (s.setClerk c x).lock = s.lock := rfl
@[simp] theorem setClerk_port (c : ClerkNo) (x : ClerkEntry) (p' : Port) : (s.setClerk c x).port p' = s.port p' := rfl
@[simp] theorem setClerk_context (c : ClerkNo) (x : ClerkEntry) (m : StationNo) : (s.setClerk c x).context m = s.context m := rfl
@[simp] theorem setClerk_station (c : ClerkNo) (x : ClerkEntry) (m : StationNo) : (s.setClerk c x).station m = s.station m := rfl
@[simp] theorem setClerk_link (c : ClerkNo) (x : ClerkEntry) (m : StationNo) : (s.setClerk c x).link m = s.link m := rfl
@[simp] theorem setClerk_printer (c : ClerkNo) (x : ClerkEntry) (m : StationNo) : (s.setClerk c x).printer m = s.printer m := rfl
@[simp] theorem setClerk_serving (c : ClerkNo) (x : ClerkEntry) (d : ClerkNo) : (s.setClerk c x).serving d = s.serving d := rfl
@[simp] theorem setClerk_calibration (c : ClerkNo) (x : ClerkEntry) (m : StationNo) : (s.setClerk c x).calibration m = s.calibration m := rfl
@[simp] theorem setClerk_profile (c : ClerkNo) (x : ClerkEntry) (m : StationNo) : (s.setClerk c x).profile m = s.profile m := rfl
@[simp] theorem setClerk_clock (c : ClerkNo) (x : ClerkEntry) : (s.setClerk c x).clock = s.clock := rfl

/-! ## setOrder -/

@[simp] theorem setOrder_pending (c : ClerkNo) (x : Option Order) : (s.setOrder c x).pending = s.pending := rfl
@[simp] theorem setOrder_resetLow (c : ClerkNo) (x : Option Order) : (s.setOrder c x).resetLow = s.resetLow := rfl
@[simp] theorem setOrder_loadHold (c : ClerkNo) (x : Option Order) : (s.setOrder c x).loadHold = s.loadHold := rfl
@[simp] theorem setOrder_markerOk (c : ClerkNo) (x : Option Order) : (s.setOrder c x).markerOk = s.markerOk := rfl
@[simp] theorem setOrder_ports (c : ClerkNo) (x : Option Order) : (s.setOrder c x).ports = s.ports := rfl
@[simp] theorem setOrder_notices (c : ClerkNo) (x : Option Order) : (s.setOrder c x).notices = s.notices := rfl
@[simp] theorem setOrder_counter (c : ClerkNo) (x : Option Order) : (s.setOrder c x).counter = s.counter := rfl
@[simp] theorem setOrder_weighing (c : ClerkNo) (x : Option Order) : (s.setOrder c x).weighing = s.weighing := rfl
@[simp] theorem setOrder_plu (c : ClerkNo) (x : Option Order) : (s.setOrder c x).plu = s.plu := rfl
@[simp] theorem setOrder_pricing (c : ClerkNo) (x : Option Order) : (s.setOrder c x).pricing = s.pricing := rfl
@[simp] theorem setOrder_orders (c : ClerkNo) (x : Option Order) : (s.setOrder c x).orders = { s.orders with orders := s.orders.orders.put c x } := rfl
@[simp] theorem setOrder_labels (c : ClerkNo) (x : Option Order) : (s.setOrder c x).labels = s.labels := rfl
@[simp] theorem setOrder_queue (c : ClerkNo) (x : Option Order) : (s.setOrder c x).queue = s.queue := rfl
@[simp] theorem setOrder_totals (c : ClerkNo) (x : Option Order) : (s.setOrder c x).totals = s.totals := rfl
@[simp] theorem setOrder_lock (c : ClerkNo) (x : Option Order) : (s.setOrder c x).lock = s.lock := rfl
@[simp] theorem setOrder_port (c : ClerkNo) (x : Option Order) (p' : Port) : (s.setOrder c x).port p' = s.port p' := rfl
@[simp] theorem setOrder_context (c : ClerkNo) (x : Option Order) (m : StationNo) : (s.setOrder c x).context m = s.context m := rfl
@[simp] theorem setOrder_station (c : ClerkNo) (x : Option Order) (m : StationNo) : (s.setOrder c x).station m = s.station m := rfl
@[simp] theorem setOrder_link (c : ClerkNo) (x : Option Order) (m : StationNo) : (s.setOrder c x).link m = s.link m := rfl
@[simp] theorem setOrder_printer (c : ClerkNo) (x : Option Order) (m : StationNo) : (s.setOrder c x).printer m = s.printer m := rfl
@[simp] theorem setOrder_serving (c : ClerkNo) (x : Option Order) (d : ClerkNo) : (s.setOrder c x).serving d = s.serving d := rfl
@[simp] theorem setOrder_calibration (c : ClerkNo) (x : Option Order) (m : StationNo) : (s.setOrder c x).calibration m = s.calibration m := rfl
@[simp] theorem setOrder_profile (c : ClerkNo) (x : Option Order) (m : StationNo) : (s.setOrder c x).profile m = s.profile m := rfl
@[simp] theorem setOrder_clock (c : ClerkNo) (x : Option Order) : (s.setOrder c x).clock = s.clock := rfl

/-! ## setServing -/

@[simp] theorem setServing_pending (c : ClerkNo) (x : Option Serving) : (s.setServing c x).pending = s.pending := rfl
@[simp] theorem setServing_resetLow (c : ClerkNo) (x : Option Serving) : (s.setServing c x).resetLow = s.resetLow := rfl
@[simp] theorem setServing_loadHold (c : ClerkNo) (x : Option Serving) : (s.setServing c x).loadHold = s.loadHold := rfl
@[simp] theorem setServing_markerOk (c : ClerkNo) (x : Option Serving) : (s.setServing c x).markerOk = s.markerOk := rfl
@[simp] theorem setServing_ports (c : ClerkNo) (x : Option Serving) : (s.setServing c x).ports = s.ports := rfl
@[simp] theorem setServing_notices (c : ClerkNo) (x : Option Serving) : (s.setServing c x).notices = s.notices := rfl
@[simp] theorem setServing_counter (c : ClerkNo) (x : Option Serving) : (s.setServing c x).counter = s.counter := rfl
@[simp] theorem setServing_weighing (c : ClerkNo) (x : Option Serving) : (s.setServing c x).weighing = s.weighing := rfl
@[simp] theorem setServing_plu (c : ClerkNo) (x : Option Serving) : (s.setServing c x).plu = s.plu := rfl
@[simp] theorem setServing_pricing (c : ClerkNo) (x : Option Serving) : (s.setServing c x).pricing = s.pricing := rfl
@[simp] theorem setServing_orders (c : ClerkNo) (x : Option Serving) : (s.setServing c x).orders = s.orders := rfl
@[simp] theorem setServing_labels (c : ClerkNo) (x : Option Serving) : (s.setServing c x).labels = s.labels := rfl
@[simp] theorem setServing_queue (c : ClerkNo) (x : Option Serving) : (s.setServing c x).queue = { s.queue with serving := s.queue.serving.put c x } := rfl
@[simp] theorem setServing_totals (c : ClerkNo) (x : Option Serving) : (s.setServing c x).totals = s.totals := rfl
@[simp] theorem setServing_lock (c : ClerkNo) (x : Option Serving) : (s.setServing c x).lock = s.lock := rfl
@[simp] theorem setServing_port (c : ClerkNo) (x : Option Serving) (p' : Port) : (s.setServing c x).port p' = s.port p' := rfl
@[simp] theorem setServing_context (c : ClerkNo) (x : Option Serving) (m : StationNo) : (s.setServing c x).context m = s.context m := rfl
@[simp] theorem setServing_station (c : ClerkNo) (x : Option Serving) (m : StationNo) : (s.setServing c x).station m = s.station m := rfl
@[simp] theorem setServing_link (c : ClerkNo) (x : Option Serving) (m : StationNo) : (s.setServing c x).link m = s.link m := rfl
@[simp] theorem setServing_printer (c : ClerkNo) (x : Option Serving) (m : StationNo) : (s.setServing c x).printer m = s.printer m := rfl
@[simp] theorem setServing_clerk (c : ClerkNo) (x : Option Serving) (d : ClerkNo) : (s.setServing c x).clerk d = s.clerk d := rfl
@[simp] theorem setServing_order (c : ClerkNo) (x : Option Serving) (d : ClerkNo) : (s.setServing c x).order d = s.order d := rfl
@[simp] theorem setServing_calibration (c : ClerkNo) (x : Option Serving) (m : StationNo) : (s.setServing c x).calibration m = s.calibration m := rfl
@[simp] theorem setServing_profile (c : ClerkNo) (x : Option Serving) (m : StationNo) : (s.setServing c x).profile m = s.profile m := rfl
@[simp] theorem setServing_clock (c : ClerkNo) (x : Option Serving) : (s.setServing c x).clock = s.clock := rfl

/-! ## setClock -/

@[simp] theorem setClock_pending (t : DateTime) : (s.setClock t).pending = s.pending := rfl
@[simp] theorem setClock_resetLow (t : DateTime) : (s.setClock t).resetLow = s.resetLow := rfl
@[simp] theorem setClock_loadHold (t : DateTime) : (s.setClock t).loadHold = s.loadHold := rfl
@[simp] theorem setClock_markerOk (t : DateTime) : (s.setClock t).markerOk = s.markerOk := rfl
@[simp] theorem setClock_ports (t : DateTime) : (s.setClock t).ports = s.ports := rfl
@[simp] theorem setClock_notices (t : DateTime) : (s.setClock t).notices = s.notices := rfl
@[simp] theorem setClock_counter (t : DateTime) : (s.setClock t).counter = { s.counter with clock := t } := rfl
@[simp] theorem setClock_weighing (t : DateTime) : (s.setClock t).weighing = s.weighing := rfl
@[simp] theorem setClock_plu (t : DateTime) : (s.setClock t).plu = s.plu := rfl
@[simp] theorem setClock_pricing (t : DateTime) : (s.setClock t).pricing = s.pricing := rfl
@[simp] theorem setClock_orders (t : DateTime) : (s.setClock t).orders = s.orders := rfl
@[simp] theorem setClock_labels (t : DateTime) : (s.setClock t).labels = s.labels := rfl
@[simp] theorem setClock_queue (t : DateTime) : (s.setClock t).queue = s.queue := rfl
@[simp] theorem setClock_totals (t : DateTime) : (s.setClock t).totals = s.totals := rfl
@[simp] theorem setClock_lock (t : DateTime) : (s.setClock t).lock = s.lock := rfl
@[simp] theorem setClock_port (t : DateTime) (p' : Port) : (s.setClock t).port p' = s.port p' := rfl
@[simp] theorem setClock_context (t : DateTime) (m : StationNo) : (s.setClock t).context m = s.context m := rfl
@[simp] theorem setClock_printer (t : DateTime) (m : StationNo) : (s.setClock t).printer m = s.printer m := rfl
@[simp] theorem setClock_clerk (t : DateTime) (d : ClerkNo) : (s.setClock t).clerk d = s.clerk d := rfl
@[simp] theorem setClock_order (t : DateTime) (d : ClerkNo) : (s.setClock t).order d = s.order d := rfl
@[simp] theorem setClock_serving (t : DateTime) (d : ClerkNo) : (s.setClock t).serving d = s.serving d := rfl
@[simp] theorem setClock_calibration (t : DateTime) (m : StationNo) : (s.setClock t).calibration m = s.calibration m := rfl
@[simp] theorem setClock_profile (t : DateTime) (m : StationNo) : (s.setClock t).profile m = s.profile m := rfl

/-! ## onTotals -/

@[simp] theorem onTotals_pending (f : TotalsStore → TotalsStore) : (s.onTotals f).pending = s.pending := rfl
@[simp] theorem onTotals_resetLow (f : TotalsStore → TotalsStore) : (s.onTotals f).resetLow = s.resetLow := rfl
@[simp] theorem onTotals_loadHold (f : TotalsStore → TotalsStore) : (s.onTotals f).loadHold = s.loadHold := rfl
@[simp] theorem onTotals_markerOk (f : TotalsStore → TotalsStore) : (s.onTotals f).markerOk = s.markerOk := rfl
@[simp] theorem onTotals_ports (f : TotalsStore → TotalsStore) : (s.onTotals f).ports = s.ports := rfl
@[simp] theorem onTotals_notices (f : TotalsStore → TotalsStore) : (s.onTotals f).notices = s.notices := rfl
@[simp] theorem onTotals_counter (f : TotalsStore → TotalsStore) : (s.onTotals f).counter = s.counter := rfl
@[simp] theorem onTotals_weighing (f : TotalsStore → TotalsStore) : (s.onTotals f).weighing = s.weighing := rfl
@[simp] theorem onTotals_plu (f : TotalsStore → TotalsStore) : (s.onTotals f).plu = s.plu := rfl
@[simp] theorem onTotals_pricing (f : TotalsStore → TotalsStore) : (s.onTotals f).pricing = s.pricing := rfl
@[simp] theorem onTotals_orders (f : TotalsStore → TotalsStore) : (s.onTotals f).orders = s.orders := rfl
@[simp] theorem onTotals_labels (f : TotalsStore → TotalsStore) : (s.onTotals f).labels = s.labels := rfl
@[simp] theorem onTotals_queue (f : TotalsStore → TotalsStore) : (s.onTotals f).queue = s.queue := rfl
@[simp] theorem onTotals_totals (f : TotalsStore → TotalsStore) : (s.onTotals f).totals = f s.totals := rfl
@[simp] theorem onTotals_lock (f : TotalsStore → TotalsStore) : (s.onTotals f).lock = s.lock := rfl
@[simp] theorem onTotals_port (f : TotalsStore → TotalsStore) (p' : Port) : (s.onTotals f).port p' = s.port p' := rfl
@[simp] theorem onTotals_context (f : TotalsStore → TotalsStore) (m : StationNo) : (s.onTotals f).context m = s.context m := rfl
@[simp] theorem onTotals_station (f : TotalsStore → TotalsStore) (m : StationNo) : (s.onTotals f).station m = s.station m := rfl
@[simp] theorem onTotals_link (f : TotalsStore → TotalsStore) (m : StationNo) : (s.onTotals f).link m = s.link m := rfl
@[simp] theorem onTotals_printer (f : TotalsStore → TotalsStore) (m : StationNo) : (s.onTotals f).printer m = s.printer m := rfl
@[simp] theorem onTotals_clerk (f : TotalsStore → TotalsStore) (d : ClerkNo) : (s.onTotals f).clerk d = s.clerk d := rfl
@[simp] theorem onTotals_order (f : TotalsStore → TotalsStore) (d : ClerkNo) : (s.onTotals f).order d = s.order d := rfl
@[simp] theorem onTotals_serving (f : TotalsStore → TotalsStore) (d : ClerkNo) : (s.onTotals f).serving d = s.serving d := rfl
@[simp] theorem onTotals_calibration (f : TotalsStore → TotalsStore) (m : StationNo) : (s.onTotals f).calibration m = s.calibration m := rfl
@[simp] theorem onTotals_profile (f : TotalsStore → TotalsStore) (m : StationNo) : (s.onTotals f).profile m = s.profile m := rfl
@[simp] theorem onTotals_clock (f : TotalsStore → TotalsStore) : (s.onTotals f).clock = s.clock := rfl

/-! ## onPricing -/

@[simp] theorem onPricing_pending (f : PricingUnit → PricingUnit) : (s.onPricing f).pending = s.pending := rfl
@[simp] theorem onPricing_resetLow (f : PricingUnit → PricingUnit) : (s.onPricing f).resetLow = s.resetLow := rfl
@[simp] theorem onPricing_loadHold (f : PricingUnit → PricingUnit) : (s.onPricing f).loadHold = s.loadHold := rfl
@[simp] theorem onPricing_markerOk (f : PricingUnit → PricingUnit) : (s.onPricing f).markerOk = s.markerOk := rfl
@[simp] theorem onPricing_ports (f : PricingUnit → PricingUnit) : (s.onPricing f).ports = s.ports := rfl
@[simp] theorem onPricing_notices (f : PricingUnit → PricingUnit) : (s.onPricing f).notices = s.notices := rfl
@[simp] theorem onPricing_counter (f : PricingUnit → PricingUnit) : (s.onPricing f).counter = s.counter := rfl
@[simp] theorem onPricing_weighing (f : PricingUnit → PricingUnit) : (s.onPricing f).weighing = s.weighing := rfl
@[simp] theorem onPricing_plu (f : PricingUnit → PricingUnit) : (s.onPricing f).plu = s.plu := rfl
@[simp] theorem onPricing_pricing (f : PricingUnit → PricingUnit) : (s.onPricing f).pricing = f s.pricing := rfl
@[simp] theorem onPricing_orders (f : PricingUnit → PricingUnit) : (s.onPricing f).orders = s.orders := rfl
@[simp] theorem onPricing_labels (f : PricingUnit → PricingUnit) : (s.onPricing f).labels = s.labels := rfl
@[simp] theorem onPricing_queue (f : PricingUnit → PricingUnit) : (s.onPricing f).queue = s.queue := rfl
@[simp] theorem onPricing_totals (f : PricingUnit → PricingUnit) : (s.onPricing f).totals = s.totals := rfl
@[simp] theorem onPricing_lock (f : PricingUnit → PricingUnit) : (s.onPricing f).lock = s.lock := rfl
@[simp] theorem onPricing_port (f : PricingUnit → PricingUnit) (p' : Port) : (s.onPricing f).port p' = s.port p' := rfl
@[simp] theorem onPricing_context (f : PricingUnit → PricingUnit) (m : StationNo) : (s.onPricing f).context m = s.context m := rfl
@[simp] theorem onPricing_station (f : PricingUnit → PricingUnit) (m : StationNo) : (s.onPricing f).station m = s.station m := rfl
@[simp] theorem onPricing_link (f : PricingUnit → PricingUnit) (m : StationNo) : (s.onPricing f).link m = s.link m := rfl
@[simp] theorem onPricing_printer (f : PricingUnit → PricingUnit) (m : StationNo) : (s.onPricing f).printer m = s.printer m := rfl
@[simp] theorem onPricing_clerk (f : PricingUnit → PricingUnit) (d : ClerkNo) : (s.onPricing f).clerk d = s.clerk d := rfl
@[simp] theorem onPricing_order (f : PricingUnit → PricingUnit) (d : ClerkNo) : (s.onPricing f).order d = s.order d := rfl
@[simp] theorem onPricing_serving (f : PricingUnit → PricingUnit) (d : ClerkNo) : (s.onPricing f).serving d = s.serving d := rfl
@[simp] theorem onPricing_calibration (f : PricingUnit → PricingUnit) (m : StationNo) : (s.onPricing f).calibration m = s.calibration m := rfl
@[simp] theorem onPricing_profile (f : PricingUnit → PricingUnit) (m : StationNo) : (s.onPricing f).profile m = s.profile m := rfl
@[simp] theorem onPricing_clock (f : PricingUnit → PricingUnit) : (s.onPricing f).clock = s.clock := rfl

/-! ## onLock -/

@[simp] theorem onLock_pending (f : MetrologyLock → MetrologyLock) : (s.onLock f).pending = s.pending := rfl
@[simp] theorem onLock_resetLow (f : MetrologyLock → MetrologyLock) : (s.onLock f).resetLow = s.resetLow := rfl
@[simp] theorem onLock_loadHold (f : MetrologyLock → MetrologyLock) : (s.onLock f).loadHold = s.loadHold := rfl
@[simp] theorem onLock_markerOk (f : MetrologyLock → MetrologyLock) : (s.onLock f).markerOk = s.markerOk := rfl
@[simp] theorem onLock_ports (f : MetrologyLock → MetrologyLock) : (s.onLock f).ports = s.ports := rfl
@[simp] theorem onLock_notices (f : MetrologyLock → MetrologyLock) : (s.onLock f).notices = s.notices := rfl
@[simp] theorem onLock_counter (f : MetrologyLock → MetrologyLock) : (s.onLock f).counter = s.counter := rfl
@[simp] theorem onLock_weighing (f : MetrologyLock → MetrologyLock) : (s.onLock f).weighing = s.weighing := rfl
@[simp] theorem onLock_plu (f : MetrologyLock → MetrologyLock) : (s.onLock f).plu = s.plu := rfl
@[simp] theorem onLock_pricing (f : MetrologyLock → MetrologyLock) : (s.onLock f).pricing = s.pricing := rfl
@[simp] theorem onLock_orders (f : MetrologyLock → MetrologyLock) : (s.onLock f).orders = s.orders := rfl
@[simp] theorem onLock_labels (f : MetrologyLock → MetrologyLock) : (s.onLock f).labels = s.labels := rfl
@[simp] theorem onLock_queue (f : MetrologyLock → MetrologyLock) : (s.onLock f).queue = s.queue := rfl
@[simp] theorem onLock_totals (f : MetrologyLock → MetrologyLock) : (s.onLock f).totals = s.totals := rfl
@[simp] theorem onLock_lock (f : MetrologyLock → MetrologyLock) : (s.onLock f).lock = f s.lock := rfl
@[simp] theorem onLock_port (f : MetrologyLock → MetrologyLock) (p' : Port) : (s.onLock f).port p' = s.port p' := rfl
@[simp] theorem onLock_context (f : MetrologyLock → MetrologyLock) (m : StationNo) : (s.onLock f).context m = s.context m := rfl
@[simp] theorem onLock_station (f : MetrologyLock → MetrologyLock) (m : StationNo) : (s.onLock f).station m = s.station m := rfl
@[simp] theorem onLock_link (f : MetrologyLock → MetrologyLock) (m : StationNo) : (s.onLock f).link m = s.link m := rfl
@[simp] theorem onLock_printer (f : MetrologyLock → MetrologyLock) (m : StationNo) : (s.onLock f).printer m = s.printer m := rfl
@[simp] theorem onLock_clerk (f : MetrologyLock → MetrologyLock) (d : ClerkNo) : (s.onLock f).clerk d = s.clerk d := rfl
@[simp] theorem onLock_order (f : MetrologyLock → MetrologyLock) (d : ClerkNo) : (s.onLock f).order d = s.order d := rfl
@[simp] theorem onLock_serving (f : MetrologyLock → MetrologyLock) (d : ClerkNo) : (s.onLock f).serving d = s.serving d := rfl
@[simp] theorem onLock_clock (f : MetrologyLock → MetrologyLock) : (s.onLock f).clock = s.clock := rfl

/-! ## onNotices -/

@[simp] theorem onNotices_pending (f : NoticeUnit → NoticeUnit) : (s.onNotices f).pending = s.pending := rfl
@[simp] theorem onNotices_resetLow (f : NoticeUnit → NoticeUnit) : (s.onNotices f).resetLow = s.resetLow := rfl
@[simp] theorem onNotices_loadHold (f : NoticeUnit → NoticeUnit) : (s.onNotices f).loadHold = s.loadHold := rfl
@[simp] theorem onNotices_markerOk (f : NoticeUnit → NoticeUnit) : (s.onNotices f).markerOk = s.markerOk := rfl
@[simp] theorem onNotices_ports (f : NoticeUnit → NoticeUnit) : (s.onNotices f).ports = s.ports := rfl
@[simp] theorem onNotices_notices (f : NoticeUnit → NoticeUnit) : (s.onNotices f).notices = f s.notices := rfl
@[simp] theorem onNotices_counter (f : NoticeUnit → NoticeUnit) : (s.onNotices f).counter = s.counter := rfl
@[simp] theorem onNotices_weighing (f : NoticeUnit → NoticeUnit) : (s.onNotices f).weighing = s.weighing := rfl
@[simp] theorem onNotices_plu (f : NoticeUnit → NoticeUnit) : (s.onNotices f).plu = s.plu := rfl
@[simp] theorem onNotices_pricing (f : NoticeUnit → NoticeUnit) : (s.onNotices f).pricing = s.pricing := rfl
@[simp] theorem onNotices_orders (f : NoticeUnit → NoticeUnit) : (s.onNotices f).orders = s.orders := rfl
@[simp] theorem onNotices_labels (f : NoticeUnit → NoticeUnit) : (s.onNotices f).labels = s.labels := rfl
@[simp] theorem onNotices_queue (f : NoticeUnit → NoticeUnit) : (s.onNotices f).queue = s.queue := rfl
@[simp] theorem onNotices_totals (f : NoticeUnit → NoticeUnit) : (s.onNotices f).totals = s.totals := rfl
@[simp] theorem onNotices_lock (f : NoticeUnit → NoticeUnit) : (s.onNotices f).lock = s.lock := rfl
@[simp] theorem onNotices_port (f : NoticeUnit → NoticeUnit) (p' : Port) : (s.onNotices f).port p' = s.port p' := rfl
@[simp] theorem onNotices_context (f : NoticeUnit → NoticeUnit) (m : StationNo) : (s.onNotices f).context m = s.context m := rfl
@[simp] theorem onNotices_station (f : NoticeUnit → NoticeUnit) (m : StationNo) : (s.onNotices f).station m = s.station m := rfl
@[simp] theorem onNotices_link (f : NoticeUnit → NoticeUnit) (m : StationNo) : (s.onNotices f).link m = s.link m := rfl
@[simp] theorem onNotices_printer (f : NoticeUnit → NoticeUnit) (m : StationNo) : (s.onNotices f).printer m = s.printer m := rfl
@[simp] theorem onNotices_clerk (f : NoticeUnit → NoticeUnit) (d : ClerkNo) : (s.onNotices f).clerk d = s.clerk d := rfl
@[simp] theorem onNotices_order (f : NoticeUnit → NoticeUnit) (d : ClerkNo) : (s.onNotices f).order d = s.order d := rfl
@[simp] theorem onNotices_serving (f : NoticeUnit → NoticeUnit) (d : ClerkNo) : (s.onNotices f).serving d = s.serving d := rfl
@[simp] theorem onNotices_calibration (f : NoticeUnit → NoticeUnit) (m : StationNo) : (s.onNotices f).calibration m = s.calibration m := rfl
@[simp] theorem onNotices_profile (f : NoticeUnit → NoticeUnit) (m : StationNo) : (s.onNotices f).profile m = s.profile m := rfl
@[simp] theorem onNotices_clock (f : NoticeUnit → NoticeUnit) : (s.onNotices f).clock = s.clock := rfl

/-! ## raise -/

@[simp] theorem raise_pending (c : NoticeClass) (f : NoticeFields) : (s.raise c f).pending = s.pending := rfl
@[simp] theorem raise_resetLow (c : NoticeClass) (f : NoticeFields) : (s.raise c f).resetLow = s.resetLow := rfl
@[simp] theorem raise_loadHold (c : NoticeClass) (f : NoticeFields) : (s.raise c f).loadHold = s.loadHold := rfl
@[simp] theorem raise_markerOk (c : NoticeClass) (f : NoticeFields) : (s.raise c f).markerOk = s.markerOk := rfl
@[simp] theorem raise_ports (c : NoticeClass) (f : NoticeFields) : (s.raise c f).ports = s.ports := rfl
@[simp] theorem raise_notices (c : NoticeClass) (f : NoticeFields) : (s.raise c f).notices = s.notices.raise s.clock c f := rfl
@[simp] theorem raise_counter (c : NoticeClass) (f : NoticeFields) : (s.raise c f).counter = s.counter := rfl
@[simp] theorem raise_weighing (c : NoticeClass) (f : NoticeFields) : (s.raise c f).weighing = s.weighing := rfl
@[simp] theorem raise_plu (c : NoticeClass) (f : NoticeFields) : (s.raise c f).plu = s.plu := rfl
@[simp] theorem raise_pricing (c : NoticeClass) (f : NoticeFields) : (s.raise c f).pricing = s.pricing := rfl
@[simp] theorem raise_orders (c : NoticeClass) (f : NoticeFields) : (s.raise c f).orders = s.orders := rfl
@[simp] theorem raise_labels (c : NoticeClass) (f : NoticeFields) : (s.raise c f).labels = s.labels := rfl
@[simp] theorem raise_queue (c : NoticeClass) (f : NoticeFields) : (s.raise c f).queue = s.queue := rfl
@[simp] theorem raise_totals (c : NoticeClass) (f : NoticeFields) : (s.raise c f).totals = s.totals := rfl
@[simp] theorem raise_lock (c : NoticeClass) (f : NoticeFields) : (s.raise c f).lock = s.lock := rfl
@[simp] theorem raise_port (c : NoticeClass) (f : NoticeFields) (p' : Port) : (s.raise c f).port p' = s.port p' := rfl
@[simp] theorem raise_context (c : NoticeClass) (f : NoticeFields) (m : StationNo) : (s.raise c f).context m = s.context m := rfl
@[simp] theorem raise_station (c : NoticeClass) (f : NoticeFields) (m : StationNo) : (s.raise c f).station m = s.station m := rfl
@[simp] theorem raise_link (c : NoticeClass) (f : NoticeFields) (m : StationNo) : (s.raise c f).link m = s.link m := rfl
@[simp] theorem raise_printer (c : NoticeClass) (f : NoticeFields) (m : StationNo) : (s.raise c f).printer m = s.printer m := rfl
@[simp] theorem raise_clerk (c : NoticeClass) (f : NoticeFields) (d : ClerkNo) : (s.raise c f).clerk d = s.clerk d := rfl
@[simp] theorem raise_order (c : NoticeClass) (f : NoticeFields) (d : ClerkNo) : (s.raise c f).order d = s.order d := rfl
@[simp] theorem raise_serving (c : NoticeClass) (f : NoticeFields) (d : ClerkNo) : (s.raise c f).serving d = s.serving d := rfl
@[simp] theorem raise_calibration (c : NoticeClass) (f : NoticeFields) (m : StationNo) : (s.raise c f).calibration m = s.calibration m := rfl
@[simp] theorem raise_profile (c : NoticeClass) (f : NoticeFields) (m : StationNo) : (s.raise c f).profile m = s.profile m := rfl
@[simp] theorem raise_clock (c : NoticeClass) (f : NoticeFields) : (s.raise c f).clock = s.clock := rfl

/-! ## startAll -/

@[simp] theorem startAll_pending : s.startAll.pending = s.pending := rfl
@[simp] theorem startAll_resetLow : s.startAll.resetLow = s.resetLow := rfl
@[simp] theorem startAll_loadHold : s.startAll.loadHold = s.loadHold := rfl
@[simp] theorem startAll_markerOk : s.startAll.markerOk = s.markerOk := rfl
@[simp] theorem startAll_ports : s.startAll.ports = s.ports.each LinkPort.start := rfl
@[simp] theorem startAll_notices : s.startAll.notices = s.notices := rfl
@[simp] theorem startAll_counter : s.startAll.counter = s.counter := rfl
@[simp] theorem startAll_weighing : s.startAll.weighing = s.weighing := rfl
@[simp] theorem startAll_plu : s.startAll.plu = s.plu := rfl
@[simp] theorem startAll_pricing : s.startAll.pricing = s.pricing := rfl
@[simp] theorem startAll_orders : s.startAll.orders = s.orders := rfl
@[simp] theorem startAll_labels : s.startAll.labels = s.labels := rfl
@[simp] theorem startAll_queue : s.startAll.queue = s.queue := rfl
@[simp] theorem startAll_totals : s.startAll.totals = s.totals := rfl
@[simp] theorem startAll_lock : s.startAll.lock = s.lock := rfl
@[simp] theorem startAll_context (m : StationNo) : s.startAll.context m = s.context m := rfl
@[simp] theorem startAll_station (m : StationNo) : s.startAll.station m = s.station m := rfl
@[simp] theorem startAll_link (m : StationNo) : s.startAll.link m = s.link m := rfl
@[simp] theorem startAll_printer (m : StationNo) : s.startAll.printer m = s.printer m := rfl
@[simp] theorem startAll_clerk (d : ClerkNo) : s.startAll.clerk d = s.clerk d := rfl
@[simp] theorem startAll_order (d : ClerkNo) : s.startAll.order d = s.order d := rfl
@[simp] theorem startAll_serving (d : ClerkNo) : s.startAll.serving d = s.serving d := rfl
@[simp] theorem startAll_calibration (m : StationNo) : s.startAll.calibration m = s.calibration m := rfl
@[simp] theorem startAll_profile (m : StationNo) : s.startAll.profile m = s.profile m := rfl
@[simp] theorem startAll_clock : s.startAll.clock = s.clock := rfl

/-! ## withPending -/

@[simp] theorem withPending_pending (cs : List Instr) : (s.withPending cs).pending = cs := rfl
@[simp] theorem withPending_resetLow (cs : List Instr) : (s.withPending cs).resetLow = s.resetLow := rfl
@[simp] theorem withPending_loadHold (cs : List Instr) : (s.withPending cs).loadHold = s.loadHold := rfl
@[simp] theorem withPending_markerOk (cs : List Instr) : (s.withPending cs).markerOk = s.markerOk := rfl
@[simp] theorem withPending_ports (cs : List Instr) : (s.withPending cs).ports = s.ports := rfl
@[simp] theorem withPending_notices (cs : List Instr) : (s.withPending cs).notices = s.notices := rfl
@[simp] theorem withPending_counter (cs : List Instr) : (s.withPending cs).counter = s.counter := rfl
@[simp] theorem withPending_weighing (cs : List Instr) : (s.withPending cs).weighing = s.weighing := rfl
@[simp] theorem withPending_plu (cs : List Instr) : (s.withPending cs).plu = s.plu := rfl
@[simp] theorem withPending_pricing (cs : List Instr) : (s.withPending cs).pricing = s.pricing := rfl
@[simp] theorem withPending_orders (cs : List Instr) : (s.withPending cs).orders = s.orders := rfl
@[simp] theorem withPending_labels (cs : List Instr) : (s.withPending cs).labels = s.labels := rfl
@[simp] theorem withPending_queue (cs : List Instr) : (s.withPending cs).queue = s.queue := rfl
@[simp] theorem withPending_totals (cs : List Instr) : (s.withPending cs).totals = s.totals := rfl
@[simp] theorem withPending_lock (cs : List Instr) : (s.withPending cs).lock = s.lock := rfl
@[simp] theorem withPending_port (cs : List Instr) (p' : Port) : (s.withPending cs).port p' = s.port p' := rfl
@[simp] theorem withPending_context (cs : List Instr) (m : StationNo) : (s.withPending cs).context m = s.context m := rfl
@[simp] theorem withPending_station (cs : List Instr) (m : StationNo) : (s.withPending cs).station m = s.station m := rfl
@[simp] theorem withPending_link (cs : List Instr) (m : StationNo) : (s.withPending cs).link m = s.link m := rfl
@[simp] theorem withPending_printer (cs : List Instr) (m : StationNo) : (s.withPending cs).printer m = s.printer m := rfl
@[simp] theorem withPending_clerk (cs : List Instr) (d : ClerkNo) : (s.withPending cs).clerk d = s.clerk d := rfl
@[simp] theorem withPending_order (cs : List Instr) (d : ClerkNo) : (s.withPending cs).order d = s.order d := rfl
@[simp] theorem withPending_serving (cs : List Instr) (d : ClerkNo) : (s.withPending cs).serving d = s.serving d := rfl
@[simp] theorem withPending_calibration (cs : List Instr) (m : StationNo) : (s.withPending cs).calibration m = s.calibration m := rfl
@[simp] theorem withPending_profile (cs : List Instr) (m : StationNo) : (s.withPending cs).profile m = s.profile m := rfl
@[simp] theorem withPending_clock (cs : List Instr) : (s.withPending cs).clock = s.clock := rfl

/-! ## freed -/

@[simp] theorem freed_pending (p : Port) (rest : List Request) : (s.freed p rest).pending = s.pending := rfl
@[simp] theorem freed_resetLow (p : Port) (rest : List Request) : (s.freed p rest).resetLow = s.resetLow := rfl
@[simp] theorem freed_loadHold (p : Port) (rest : List Request) : (s.freed p rest).loadHold = s.loadHold := rfl
@[simp] theorem freed_markerOk (p : Port) (rest : List Request) : (s.freed p rest).markerOk = s.markerOk := rfl
@[simp] theorem freed_ports (p : Port) (rest : List Request) : (s.freed p rest).ports = s.ports.put p.index { s.port p with fifo := rest } := rfl
@[simp] theorem freed_notices (p : Port) (rest : List Request) : (s.freed p rest).notices = s.notices := rfl
@[simp] theorem freed_counter (p : Port) (rest : List Request) : (s.freed p rest).counter = s.counter := rfl
@[simp] theorem freed_weighing (p : Port) (rest : List Request) : (s.freed p rest).weighing = s.weighing := rfl
@[simp] theorem freed_plu (p : Port) (rest : List Request) : (s.freed p rest).plu = s.plu := rfl
@[simp] theorem freed_pricing (p : Port) (rest : List Request) : (s.freed p rest).pricing = s.pricing := rfl
@[simp] theorem freed_orders (p : Port) (rest : List Request) : (s.freed p rest).orders = s.orders := rfl
@[simp] theorem freed_labels (p : Port) (rest : List Request) : (s.freed p rest).labels = s.labels := rfl
@[simp] theorem freed_queue (p : Port) (rest : List Request) : (s.freed p rest).queue = s.queue := rfl
@[simp] theorem freed_totals (p : Port) (rest : List Request) : (s.freed p rest).totals = s.totals := rfl
@[simp] theorem freed_lock (p : Port) (rest : List Request) : (s.freed p rest).lock = s.lock := rfl
@[simp] theorem freed_context (p : Port) (rest : List Request) (m : StationNo) : (s.freed p rest).context m = s.context m := rfl
@[simp] theorem freed_station (p : Port) (rest : List Request) (m : StationNo) : (s.freed p rest).station m = s.station m := rfl
@[simp] theorem freed_link (p : Port) (rest : List Request) (m : StationNo) : (s.freed p rest).link m = s.link m := rfl
@[simp] theorem freed_printer (p : Port) (rest : List Request) (m : StationNo) : (s.freed p rest).printer m = s.printer m := rfl
@[simp] theorem freed_clerk (p : Port) (rest : List Request) (d : ClerkNo) : (s.freed p rest).clerk d = s.clerk d := rfl
@[simp] theorem freed_order (p : Port) (rest : List Request) (d : ClerkNo) : (s.freed p rest).order d = s.order d := rfl
@[simp] theorem freed_serving (p : Port) (rest : List Request) (d : ClerkNo) : (s.freed p rest).serving d = s.serving d := rfl
@[simp] theorem freed_calibration (p : Port) (rest : List Request) (m : StationNo) : (s.freed p rest).calibration m = s.calibration m := rfl
@[simp] theorem freed_profile (p : Port) (rest : List Request) (m : StationNo) : (s.freed p rest).profile m = s.profile m := rfl
@[simp] theorem freed_clock (p : Port) (rest : List Request) : (s.freed p rest).clock = s.clock := rfl

/-! ## Reading back -/

@[simp] theorem setPort_port_same (p : Port) (x : LinkPort) : (s.setPort p x).port p = x := by
  simp [port]
theorem setPort_port (p p' : Port) (x : LinkPort) : (s.setPort p x).port p' = if p' = p then x else s.port p' := by
  simp [port, Table.get_put]
@[simp] theorem onPort_port_same (p : Port) (f : LinkPort → LinkPort) : (s.onPort p f).port p = f (s.port p) := by
  simp [onPort]
theorem onPort_port (p p' : Port) (f : LinkPort → LinkPort) :
    (s.onPort p f).port p' = if p' = p then f (s.port p) else s.port p' := setPort_port s p p' _
theorem onPort_port_ne {p p' : Port} (f : LinkPort → LinkPort) (h : p' ≠ p) : (s.onPort p f).port p' = s.port p' := by
  rw [onPort_port, if_neg h]
@[simp] theorem freed_port_same (p : Port) (rest : List Request) :
    (s.freed p rest).port p = { s.port p with fifo := rest } := by simp [freed]
theorem startAll_port (p : Port) : s.startAll.port p = (s.port p).start := by simp [port]

@[simp] theorem setContext_context_same (n : StationNo) (x : WeighContext) : (s.setContext n x).context n = x := by simp [context]
theorem setContext_context (n : StationNo) (x : WeighContext) (m : StationNo) : (s.setContext n x).context m = if m = n then x else s.context m := by
  simp [context, Table.get_put]
@[simp] theorem setStation_station_same (n : StationNo) (x : RosterEntry) : (s.setStation n x).station n = x := by simp [station]
theorem setStation_station (n : StationNo) (x : RosterEntry) (m : StationNo) : (s.setStation n x).station m = if m = n then x else s.station m := by
  simp [station, Table.get_put]
@[simp] theorem setPrinter_printer_same (n : StationNo) (x : LabelStation) : (s.setPrinter n x).printer n = x := by simp [printer]
theorem setPrinter_printer (n : StationNo) (x : LabelStation) (m : StationNo) : (s.setPrinter n x).printer m = if m = n then x else s.printer m := by
  simp [printer, Table.get_put]
@[simp] theorem setClerk_clerk_same (c : ClerkNo) (x : ClerkEntry) : (s.setClerk c x).clerk c = x := by simp [clerk]
theorem setClerk_clerk (c : ClerkNo) (x : ClerkEntry) (d : ClerkNo) : (s.setClerk c x).clerk d = if d = c then x else s.clerk d := by
  simp [clerk, Table.get_put]
@[simp] theorem setOrder_order_same (c : ClerkNo) (x : Option Order) : (s.setOrder c x).order c = x := by simp [order]
theorem setOrder_order (c : ClerkNo) (x : Option Order) (d : ClerkNo) : (s.setOrder c x).order d = if d = c then x else s.order d := by
  simp [order, Table.get_put]
@[simp] theorem setServing_serving_same (c : ClerkNo) (x : Option Serving) : (s.setServing c x).serving c = x := by simp [serving]
theorem setServing_serving (c : ClerkNo) (x : Option Serving) (d : ClerkNo) : (s.setServing c x).serving d = if d = c then x else s.serving d := by
  simp [serving, Table.get_put]
@[simp] theorem setStation_link_same (n : StationNo) (x : RosterEntry) : (s.setStation n x).link n = x.link := by
  simp [link]
theorem setStation_link (n : StationNo) (x : RosterEntry) (m : StationNo) :
    (s.setStation n x).link m = if m = n then x.link else s.link m := by
  simp only [link, setStation_station]
  split <;> rfl
@[simp] theorem setStation_clock (n : StationNo) (x : RosterEntry) : (s.setStation n x).clock = s.clock := rfl
@[simp] theorem setClock_clock (t : DateTime) : (s.setClock t).clock = t := rfl
@[simp] theorem setClock_station (t : DateTime) (m : StationNo) : (s.setClock t).station m = s.station m := rfl
@[simp] theorem setClock_link (t : DateTime) (m : StationNo) : (s.setClock t).link m = s.link m := rfl
@[simp] theorem setClerk_order (c : ClerkNo) (x : ClerkEntry) (d : ClerkNo) : (s.setClerk c x).order d = s.order d := rfl
@[simp] theorem setOrder_clerk (c : ClerkNo) (x : Option Order) (d : ClerkNo) : (s.setOrder c x).clerk d = s.clerk d := rfl

end Sys2Proof.Machine.State
end

