-- ==== Sys2Proof/Laws/Requests.lean ====
section
/-! SUPPORT. Requests: the first refusal of tests in order, and what answering a request that waits comes to. -/

namespace Sys2Proof.Machine

@[simp] theorem firstOf_nil : firstOf [] = none := rfl
@[simp] theorem firstOf_cons (b : Bool) (c : ResultCode) (ts : List (Bool × ResultCode)) :
    firstOf ((b, c) :: ts) = if b then some c else firstOf ts := rfl

theorem firstOf_append (ts us : List (Bool × ResultCode)) :
    firstOf (ts ++ us) = (firstOf ts).orElse fun _ => firstOf us := by
  induction ts with
  | nil => simp
  | cons t ts ih =>
    obtain ⟨b, c⟩ := t
    cases b <;> simp [ih]

/-- The first refusal is none exactly when no test applies. -/
theorem firstOf_eq_none {ts : List (Bool × ResultCode)} : firstOf ts = none ↔ ∀ t ∈ ts, t.1 = false := by
  induction ts with
  | nil => simp
  | cons t ts ih =>
    obtain ⟨b, c⟩ := t
    cases b <;> simp [ih]

/-- A request's kind code is below 0x80, so its reply's kind code is a byte (R177, R179). -/
theorem replyKind_code (k : RequestKind) : replyKind k.code = k.code + 0x80 := by
  cases k <;> rfl

/-- A request that waits is taken with its FIFO place freed. -/
theorem takeRequest_of_waits {s : State} {p : Port} {k : RequestKind} {tag : Byte} {payload : List Byte}
    {rest : List Request} (h : Waits s p k tag payload rest) :
    s.takeRequest p k = some (⟨k.code, tag, payload⟩, s.freed p rest) := by
  obtain ⟨h1, h2, h3⟩ := h
  simp [State.takeRequest, h1, h2, h3, State.freed]

/-- A request that waits is answered: its action on the freed state, and its REPLY (R177). -/
theorem answer_of_waits {s : State} {p : Port} {k : RequestKind} {tag : Byte} {payload : List Byte}
    {rest : List Request} (act : List Byte → State → Answer) (h : Waits s p k tag payload rest) :
    answer p k act s = .next (replied p k tag (act payload (s.freed p rest))) := by
  simp [answer, takeRequest_of_waits h, replied, finish, replyFrame, replyKind_code]

/-- What taking a request comes to when it succeeds: the oldest of the FIFO, of the kind asked for. -/
theorem takeRequest_eq_some {s : State} {p : Port} {k : RequestKind} {r : Request} {t : State} :
    s.takeRequest p k = some (r, t) ↔
      ∃ rest, Waits s p k r.tag r.payload rest ∧ r.kind = k.code ∧ t = s.freed p rest := by
  constructor
  · intro h
    unfold State.takeRequest at h
    cases hl : s.resetLow with
    | true => simp [hl] at h
    | false =>
      cases hf : (s.port p).fifo with
      | nil => simp [hl, hf] at h
      | cons r' rest =>
        simp only [hl, hf] at h
        split at h
        · next hfalse => simp at hfalse
        · split at h
          · next hc =>
            simp only [Option.some.injEq, Prod.mk.injEq] at h
            obtain ⟨rfl, rfl⟩ := h
            simp only [Bool.and_eq_true, beq_iff_eq, decide_eq_true_eq] at hc
            refine ⟨rest, ⟨hl, ?_, hc.2⟩, hc.1, rfl⟩
            rw [hf, ← hc.1]
          · simp at h
  · rintro ⟨rest, hw, hk, rfl⟩
    rw [takeRequest_of_waits hw, ← hk]

/-- All that answering a request can do: nothing, or its action on the freed state and its REPLY (R177). -/
theorem answer_cases {s t : State} {p : Port} {k : RequestKind} {act : List Byte → State → Answer}
    (h : answer p k act s = .next t) :
    t = s ∨ ∃ tag payload rest, Waits s p k tag payload rest
      ∧ t = replied p k tag (act payload (s.freed p rest)) := by
  cases hr : s.takeRequest p k with
  | none =>
    simp only [answer, hr] at h
    exact .inl (by cases h; rfl)
  | some x =>
    obtain ⟨r, u⟩ := x
    obtain ⟨rest, hw, -, -⟩ := takeRequest_eq_some.1 hr
    rw [answer_of_waits act hw] at h
    exact .inr ⟨_, _, rest, hw, by cases h; rfl⟩

/-- All that an event outside requests can do: nothing while RESET is low, its effect otherwise (R146). -/
theorem unlessReset_cases {s t : State} {f : State → State} (h : unlessReset s f = .next t) :
    (s.resetLow = true ∧ t = s) ∨ (s.resetLow = false ∧ t = (f s).startAll) := by
  unfold unlessReset finish at h
  cases hr : s.resetLow <;> simp [hr] at h <;> simp [h]

theorem unlessReset_high {s : State} (f : State → State) (h : s.resetLow = false) :
    unlessReset s f = .next (f s).startAll := by simp [unlessReset, h, finish]

/-! The fields that two replies carry by their form (R183, R187). -/

@[simp] theorem enableReply_zero (after : BitVec 16) : enableReply 0 after = okReply [] := rfl
theorem enableReply_of_ne {asked : BitVec 16} (after : BitVec 16) (h : asked ≠ 0) :
    enableReply asked after = okReply (maskBytes after) := congrArg okReply (if_neg h)
@[simp] theorem KeyReply.bytes_nextIndex (index : Nat) :
    (KeyReply.nextIndex index).bytes = be 1 0 ++ be 1 index := rfl
@[simp] theorem KeyReply.bytes_opened (st : StationNo) (copied : CalRecord) :
    (KeyReply.opened st copied).bytes = be 1 1 ++ be 1 (ordinal st) ++ copied.bytes := rfl

end Sys2Proof.Machine
end

