-- ==== Sys2Proof/Laws/Blocks.lean ====
section
/-! SUPPORT. What the blocks do for one another (notices, bindings, serving numbers, labels, counter states): for each
shared operation, once, all that it changes. -/

namespace Sys2Proof.Machine.State

variable (s : State)

/-! ## Notices (R185) -/

/-- A raised notice lengthens the queue by at most one record, and never past its capacity. -/
theorem raise_queue_le (c : NoticeClass) (f : NoticeFields) (h : s.notices.queue.length ≤ Config.noticeQueueRecords) :
    (s.raise c f).notices.queue.length ≤ Config.noticeQueueRecords := by
  simp only [raise, NoticeUnit.raise]
  split
  · next hc =>
    simp only [Bool.and_eq_true, decide_eq_true_eq] at hc
    simp only [List.length_append, List.length_singleton]
    omega
  · exact h

/-- The records there were stay, in order, at the front. -/
theorem raise_queue_prefix (c : NoticeClass) (f : NoticeFields) :
    s.notices.queue <+: (s.raise c f).notices.queue := by
  simp only [raise, NoticeUnit.raise]
  split
  · exact List.prefix_append _ _
  · exact List.prefix_rfl

/-! ## Bindings and holders (R62, R67) -/

/-- The clerk found bound at a station is bound there. -/
theorem boundClerk_bound {n : StationNo} {c : ClerkNo} (h : s.boundClerk n = some c) : (s.clerk c).bound = some n := by
  simpa using List.find?_some h

theorem boundClerk_eq_none {n : StationNo} : s.boundClerk n = none ↔ ∀ c, (s.clerk c).bound ≠ some n := by
  simp [boundClerk]

/-- Where a station has at most one bound clerk, a clerk bound there is the one found. -/
theorem boundClerk_eq_some {n : StationNo} {c : ClerkNo}
    (hu : ∀ c d : ClerkNo, ∀ m ∈ (s.clerk c).bound, (s.clerk d).bound = some m → c = d) :
    s.boundClerk n = some c ↔ (s.clerk c).bound = some n := by
  refine ⟨s.boundClerk_bound, fun h => ?_⟩
  cases hb : s.boundClerk n with
  | none => exact absurd h (s.boundClerk_eq_none.1 hb c)
  | some d => rw [hu c d n h (s.boundClerk_bound hb)]

/-- The clerk whose order is found held by a station has it held there. -/
theorem holding_held {n : StationNo} {c : ClerkNo} (h : s.holding n = some c) :
    ∃ o, s.order c = some o ∧ o.holder = some n := by
  have := List.find?_some h
  cases ho : s.order c with
  | none => simp [ho] at this
  | some o => exact ⟨o, rfl, by simpa [ho] using this⟩

theorem holding_eq_none {n : StationNo} : s.holding n = none ↔ ∀ c, ∀ o ∈ s.order c, o.holder ≠ some n := by
  simp only [holding, List.find?_eq_none, List.mem_finRange, true_implies]
  refine forall_congr' fun c => ?_
  cases s.order c <;> simp

/-- The open orders are the orders of the clerks that have one. -/
theorem mem_openOrders {o : Order} : o ∈ s.openOrders ↔ ∃ c, s.order c = some o := by
  simp [openOrders, Table.mem_rows, order]

/-! ## Serving numbers (R112) -/

/-- All that a release does: nothing without a serving record; else the record is gone, and the number is the newest
of the missed list unless goods were confirmed for it. -/
theorem releaseServing_eq (c : ClerkNo) :
    s.releaseServing c =
      match s.serving c with
      | none => s
      | some r =>
        let w := s.setServing c none
        if r.hadGoods then w
        else { w with queue := { w.queue with missed := ⟨r.number, r.issued, r.called⟩ :: s.queue.missed.take 7 } } := by
  unfold releaseServing
  cases s.serving c <;> rfl

/-- A release leaves the clerk serving no number, and every other clerk as before. -/
theorem releaseServing_serving (c d : ClerkNo) :
    (s.releaseServing c).serving d = if d = c then none else s.serving d := by
  rw [releaseServing_eq]
  split
  · next h =>
    split
    · next e => rw [e, h]
    · rfl
  · next r h =>
    have hs : ((s.setServing c none).queue.serving).get d = if d = c then none else s.queue.serving.get d := by
      rw [setServing_queue, Table.get_put]
    simp only
    split_ifs with h1 h2 h3 <;> simp_all [serving]

/-- The missed list never holds more than 8 entries (R107, R112). -/
theorem length_addMissed (m : Missed) (l : List Missed) : (addMissed m l).length ≤ Config.missedPlaces := by
  simp only [addMissed, List.length_cons, List.length_take, Config.missedPlaces]
  omega

/-! ## Counter states (R138, R143) -/

/-- An entry to a state changes the state, the queue at CLOSED, and the notices; nothing else. -/
theorem enterState_frame (c : CounterState) :
    { s.enterState c with counter := s.counter, queue := s.queue, notices := s.notices } = s := by
  unfold enterState
  split <;> rfl

@[simp] theorem enterState_state (c : CounterState) : (s.enterState c).counter.state = c := by
  unfold enterState
  split <;> rfl

/-! ## Labels (R88 to R103) -/

/-- All that composing does: the slot BUSY with the record of the next number, the next number after it, and the
record's parts behind those waiting. -/
theorem compose_eq (n : StationNo) (mk : Nat → LabelRecord) :
    s.compose n mk =
      (s.setPrinter n
          { s.printer n with
            slot := some ⟨mk (s.printer n).nextNumber, none⟩
            nextNumber := nextLabel (s.printer n).nextNumber }).onPort (.s n)
        fun x => { x with labelLane := x.labelLane ++ (mk (s.printer n).nextNumber).parts } := rfl

/-- Freeing a slot changes the station's slot and its label lane, and nothing else. -/
theorem freeSlot_frame (n : StationNo) : { s.freeSlot n with labels := s.labels, ports := s.ports } = s := rfl

/-- A report matches exactly the label in the slot with its number (R98). -/
theorem matching_eq_some {n : StationNo} {k : Nat} {r : LabelRecord} :
    s.matching n k = some r ↔ ∃ x, (s.printer n).slot = some x ∧ x.record.number = k ∧ r = x.record := by
  unfold matching
  cases (s.printer n).slot with
  | none => simp
  | some x =>
    simp only [Option.some.injEq, exists_eq_left']
    split_ifs with h <;> simp [h, eq_comm]

end Sys2Proof.Machine.State
end

