-- ==== Sys2Proof/Laws/Bytes.lean ====
section
/-! SUPPORT. Numbers in bytes: what a number put into bytes reads back as, and where the bytes of a payload stand. -/

namespace Sys2Proof.Machine

/-! ## Writing -/

@[simp] theorem length_be (k x : Nat) : (be k x).length = k := by
  induction k with
  | zero => rfl
  | succ k ih => simp [be, ih]

@[simp] theorem length_beInt (k : Nat) (x : Int) : (beInt k x).length = k := by simp [beInt]

@[simp] theorem length_flagByte (b : Bool) : (flagByte b).length = 1 := by simp [flagByte]

theorem length_optional {k : Nat} {x : Option (List Byte)} (h : ∀ bs ∈ x, bs.length = k) :
    (optional k x).length = k + 1 := by
  cases x with
  | none => simp [optional]; omega
  | some bs => simp [optional, h bs rfl]; omega

@[simp] theorem length_dateBytes (d : Date) : d.bytes.length = 3 := by simp [Date.bytes]
@[simp] theorem length_timeBytes (t : DateTime) : t.bytes.length = 6 := by simp [DateTime.bytes]
@[simp] theorem length_calBytes (f : CalFields) : f.bytes.length = 14 := by simp [CalFields.bytes]
@[simp] theorem length_calRecordBytes (r : CalRecord) : r.bytes.length = 15 := by simp [CalRecord.bytes]
@[simp] theorem length_profileBytes (r : Profile) : r.bytes.length = 2 := by simp [Profile.bytes]
@[simp] theorem length_stationBytes (r : StationRecord) : r.bytes.length = 3 := by simp [StationRecord.bytes]

theorem length_descriptionBytes {d : List Byte} (h : d.length ≤ 24) : (descriptionBytes d).length = 25 := by
  simp [descriptionBytes]; omega

/-! ## Reading -/

theorem foldl_bytes (bs : List Byte) (a : Nat) :
    bs.foldl (fun x b => x * 256 + b.toNat) a = a * 256 ^ bs.length + ofBytes bs := by
  induction bs generalizing a with
  | nil => simp [ofBytes]
  | cons b bs ih =>
    simp only [ofBytes, List.foldl_cons, List.length_cons] at *
    rw [ih, ih (0 * 256 + b.toNat)]
    ring

theorem ofBytes_cons (b : Byte) (bs : List Byte) : ofBytes (b :: bs) = b.toNat * 256 ^ bs.length + ofBytes bs := by
  have := foldl_bytes bs b.toNat
  simpa [ofBytes] using this

theorem ofBytes_append (bs cs : List Byte) : ofBytes (bs ++ cs) = ofBytes bs * 256 ^ cs.length + ofBytes cs := by
  unfold ofBytes
  rw [List.foldl_append, foldl_bytes]
  rfl

theorem ofBytes_lt (bs : List Byte) : ofBytes bs < 256 ^ bs.length := by
  induction bs with
  | nil => simp [ofBytes]
  | cons b bs ih =>
    rw [ofBytes_cons, List.length_cons, pow_succ]
    have := b.isLt
    nlinarith [Nat.one_le_pow bs.length 256 (by decide)]

/-- A number put into k bytes reads back as its remainder on what k bytes can tell apart. -/
theorem ofBytes_be (k x : Nat) : ofBytes (be k x) = x % 256 ^ k := by
  induction k with
  | zero => simp [be, ofBytes, Nat.mod_one]
  | succ k ih =>
    have h : x % (256 ^ k * 256) = x % 256 ^ k + 256 ^ k * (x / 256 ^ k % 256) := Nat.mod_mul
    rw [be, ofBytes_cons, ih, length_be, BitVec.toNat_ofNat, pow_succ 256 k, h, Nat.mul_comm (256 ^ k),
      Nat.add_comm]

/-- A field at the front of a payload. -/
theorem natAt_be (k x : Nat) (rest : List Byte) (h : x < 256 ^ k) : natAt (be k x ++ rest) 0 k = x := by
  rw [natAt, List.drop_zero, List.take_append_of_le_length (by simp), List.take_of_length_le (by simp),
    ofBytes_be, Nat.mod_eq_of_lt h]

/-- A field behind some bytes of a payload. -/
theorem natAt_append (bs cs : List Byte) (o k : Nat) (h : bs.length ≤ o) :
    natAt (bs ++ cs) o k = natAt cs (o - bs.length) k := by
  rw [natAt, natAt, List.drop_append, List.drop_of_length_le h, List.nil_append]

/-- A field within the first bytes of a payload. -/
theorem natAt_append_left (bs cs : List Byte) (o k : Nat) (h : o + k ≤ bs.length) :
    natAt (bs ++ cs) o k = natAt bs o k := by
  rw [natAt, natAt, List.drop_append, Nat.sub_eq_zero_of_le (by omega), List.drop_zero,
    List.take_append_of_le_length (by simp; omega)]

theorem natAt_lt (p : List Byte) (o k : Nat) : natAt p o k < 256 ^ k := by
  refine lt_of_lt_of_le (ofBytes_lt _) (Nat.pow_le_pow_right (by decide) ?_)
  simp

/-- A signed number in k bytes reads back while it lies in two's complement's range. -/
theorem intAt_beInt (k : Nat) (x : Int) (rest : List Byte) (hk : 0 < k)
    (hlo : -((256 ^ k / 2 : Nat) : Int) ≤ x) (hhi : x < ((256 ^ k / 2 : Nat) : Int)) :
    intAt (beInt k x ++ rest) 0 k = x := by
  have hm : 2 * (256 ^ k / 2) = 256 ^ k := by
    obtain ⟨j, rfl⟩ : ∃ j, k = j + 1 := ⟨k - 1, by omega⟩
    omega
  have hpos : 0 < 256 ^ k := by positivity
  have hn : natAt (beInt k x ++ rest) 0 k = (x % ((256 ^ k : Nat) : Int)).toNat := by
    refine natAt_be k _ rest ?_
    have := Int.emod_lt_of_pos x (show (0 : Int) < ((256 ^ k : Nat) : Int) by exact_mod_cast hpos)
    have := Int.emod_nonneg x (show ((256 ^ k : Nat) : Int) ≠ 0 by positivity)
    omega
  have he : x % ((256 ^ k : Nat) : Int) = if 0 ≤ x then x else x + ((256 ^ k : Nat) : Int) := by
    split
    · exact Int.emod_eq_of_lt ‹_› (by omega)
    · rw [← Int.add_emod_right]
      exact Int.emod_eq_of_lt (by omega) (by omega)
  unfold intAt
  rw [hn, he]
  split_ifs <;> omega

/-! ## Numbered partners and flags -/

@[simp] theorem ofOrdinal_ordinal {n : Nat} (i : Fin n) : ofOrdinal n (ordinal i) = some i := by
  have := i.isLt
  simp [ofOrdinal, ordinal]

theorem ofOrdinal_eq_some {n x : Nat} {i : Fin n} : ofOrdinal n x = some i ↔ x = ordinal i := by
  have := i.isLt
  unfold ofOrdinal ordinal
  split
  · rw [Option.some.injEq, Fin.ext_iff]
    simp only
    omega
  · simp only [reduceCtorEq, false_iff]
    omega

theorem flagAt_flagByte (b : Bool) (rest : List Byte) : flagAt (flagByte b ++ rest) 0 = some b := by
  unfold flagAt flagByte
  rw [natAt_be 1 _ rest (by cases b <;> decide)]
  cases b <;> rfl

@[simp] theorem rounding_ofCode (r : Rounding) : Rounding.ofCode r.code = some r := by cases r <;> rfl
@[simp] theorem productKind_ofCode (k : ProductKind) : ProductKind.ofCode k.code = some k := by cases k <;> rfl
@[simp] theorem codeKind_ofCode (k : CodeKind) : CodeKind.ofCode k.code = some k := by cases k <;> rfl
@[simp] theorem labelMode_ofCode (m : LabelMode) : LabelMode.ofCode m.code = some m := by cases m <;> rfl

end Sys2Proof.Machine
end

