-- ==== Sys2Proof/Laws/Links.lean ====
section
/-! SUPPORT. The receive hunter and the transmit paths: what each can do, once. -/

namespace Sys2Proof.Machine

/-! ## The check and frames (R174) -/

theorem checkOf_append (bs cs : List Byte) : checkOf (bs ++ cs) = cs.foldl crcByte (checkOf bs) := by
  simp [checkOf, List.foldl_append]

@[simp] theorem length_checkedBytes (kind tag : Byte) (payload : List Byte) :
    (checkedBytes kind tag payload).length = payload.length + 3 := by simp [checkedBytes]

/-! ## The hunter (R175) -/

/-- What an examination that accepts has found: the frame's own bytes, and fewer bytes left. -/
theorem examine_accepted {bs rest : List Byte} {f : Request} (h : examine bs = .accepted f rest) :
    rest.length + 5 ≤ bs.length ∧ f.payload.length ≤ Config.maxPayload := by
  unfold examine at h
  split at h
  · next kind tag len body =>
    simp only at h
    split at h
    · cases h
    · next hlen =>
      split at h
      · cases h
      · next hbody =>
        split at h
        · cases h
          simp only [List.length_cons, List.length_drop, List.length_take]
          omega
        · cases h
  · cases h

/-- The fuel of a search is enough as soon as it is the byte count. -/
theorem scan_enough (bs : List Byte) : ∀ m k, bs.length ≤ m → bs.length ≤ k → scan m bs = scan k bs := by
  induction hn : bs.length using Nat.strong_induction_on generalizing bs with
  | _ n ih =>
    intro m k hm hk
    subst hn
    cases bs with
    | nil => cases m <;> cases k <;> rfl
    | cons b bs =>
      cases m with
      | zero => simp at hm
      | succ m =>
        cases k with
        | zero => simp at hk
        | succ k =>
          simp only [List.length_cons, Nat.add_le_add_iff_right] at hm hk
          have hb := ih bs.length (by simp) bs rfl m k hm hk
          unfold scan
          split
          · split
            · rfl
            · exact hb
            · next f rest he =>
              have := (examine_accepted he).1
              rw [ih rest.length (by simp; omega) rest rfl m k (by omega) (by omega)]
          · exact hb

@[simp] theorem hunt_nil : hunt [] = ([], none) := rfl

/-- HUNTING, a byte other than the sync byte is dropped. -/
theorem hunt_cons_other {b : Byte} (bs : List Byte) (h : b ≠ syncByte) : hunt (b :: bs) = hunt bs := by
  simp [hunt, scan, h]

/-- At a sync byte the bytes after it decide: the frame goes on, is accepted, or is discarded and the search resumes
after the sync byte. -/
theorem hunt_cons_sync (bs : List Byte) :
    hunt (syncByte :: bs) =
      match examine bs with
      | .incomplete => ([], some bs)
      | .discard => hunt bs
      | .accepted f rest => (f :: (hunt rest).1, (hunt rest).2) := by
  simp only [hunt, List.length_cons, scan, if_true]
  cases h : examine bs with
  | incomplete => rfl
  | discard => rfl
  | accepted f rest =>
    have := (examine_accepted h).1
    simp only
    rw [scan_enough rest bs.length rest.length (by omega) le_rfl]

/-! ## Transmit paths (R178) -/

namespace LinkPort

@[simp] theorem lane_setLane (p : LinkPort) (l : Lane) (fs : List TxFrame) : (p.setLane l fs).lane l = fs := by
  cases l <;> rfl

/-- A transmitter that is sending begins nothing. -/
theorem start_sending {p : LinkPort} {f : TxFrame} (h : p.sending = some f) : p.start = p := by
  simp [start, h]

/-- A transmitter with nothing waiting begins nothing. -/
theorem start_idle {p : LinkPort} (h : ∀ l, p.lane l = []) : p.start = p := by
  unfold start
  cases p.sending <;> simp [h]

/-- All that a transmitter's start can do: nothing, or the oldest frame of one lane leaves it and is being sent. -/
theorem start_cases (p : LinkPort) :
    p.start = p ∨ ∃ l f fs, p.sending = none ∧ p.lane l = f :: fs
      ∧ p.start = { p.setLane l fs with sending := some f, turn := l.next } := by
  unfold start
  split
  · exact .inl rfl
  · next hs =>
    split
    · exact .inl rfl
    · next l hl =>
      have h := List.find?_some hl
      refine .inr ?_
      cases hf : p.lane l with
      | nil => simp [hf] at h
      | cons f fs => exact ⟨l, f, fs, hs, hf, by simp⟩

@[simp] theorem start_fifo (p : LinkPort) : p.start.fifo = p.fifo := by
  rcases start_cases p with h | ⟨l, f, fs, -, -, h⟩
  · rw [h]
  · rw [h]; cases l <;> rfl

@[simp] theorem start_hunter (p : LinkPort) : p.start.hunter = p.hunter := by
  rcases start_cases p with h | ⟨l, f, fs, -, -, h⟩
  · rw [h]
  · rw [h]; cases l <;> rfl

@[simp] theorem start_gap (p : LinkPort) : p.start.gap = p.gap := by
  rcases start_cases p with h | ⟨l, f, fs, -, -, h⟩
  · rw [h]
  · rw [h]; cases l <;> rfl

/-- No lane grows when a transmitter starts: each is as it was, or has lost its oldest frame. -/
theorem start_lane (p : LinkPort) (l : Lane) : p.start.lane l = p.lane l ∨ p.start.lane l = (p.lane l).tail := by
  rcases start_cases p with h | ⟨k, f, fs, -, hk, h⟩
  · rw [h]; exact .inl rfl
  · rw [h]
    cases k <;> cases l <;> simp_all [lane, setLane]

/-- The label and display lane of port Q never holds more than 16 pushes (R178). -/
theorem length_pushDisplay (p : LinkPort) (f : TxFrame) :
    (p.pushDisplay f).labelLane.length = min (p.labelLane.length + 1) Config.displayLaneFrames := by
  simp only [pushDisplay, List.length_drop, List.length_append, List.length_singleton]
  omega

/-- A push handed to the state lane is the newest of its kind there, and the only one (R178). -/
theorem mem_pushState {p : LinkPort} {f g : TxFrame} :
    g ∈ (p.pushState f).stateLane ↔ g = f ∨ (g ∈ p.stateLane ∧ g.kind ≠ f.kind) := by
  simp only [pushState, List.mem_append, List.mem_filter, List.mem_singleton, bne_iff_ne]
  tauto

end LinkPort

end Sys2Proof.Machine
end

