-- ==== Sys2Proof/Laws/PluTable.lean ====
section
/-! SUPPORT. The directory and the leaves of the PLU table: what each way of changing them leaves to be looked up. -/

namespace Sys2Proof.Machine.PluTable

/-- A directory by rising index names at most one leaf for an index. -/
theorem leafAt_eq_some {t : PluTable} {i : Nat} {l : LeafNo} (h : (t.directory.map (·.1)).Pairwise (· < ·)) :
    t.leafAt i = some l ↔ (i, l) ∈ t.directory := by
  unfold leafAt
  generalize t.directory = d at *
  induction d with
  | nil => simp
  | cons e es ih =>
    obtain ⟨j, k⟩ := e
    simp only [List.map_cons, List.pairwise_cons, List.mem_map, forall_exists_index, and_imp] at h
    by_cases hj : j = i
    · subst hj
      simp only [List.find?_cons, BEq.rfl, Option.map_some, Option.some.injEq, List.mem_cons, Prod.mk.injEq, true_and]
      constructor
      · exact fun e => .inl e.symm
      · rintro (rfl | hm)
        · rfl
        · exact absurd (h.1 j (j, l) hm rfl) (lt_irrefl _)
    · simp only [List.find?_cons, beq_eq_false_iff_ne.2 hj, List.mem_cons, Prod.mk.injEq]
      rw [ih h.2]
      constructor
      · exact .inr
      · rintro (⟨e, -⟩ | hm)
        · exact absurd e.symm hj
        · exact hm

/-- No leaf is named for an index exactly when the directory has no entry of it. -/
theorem leafAt_eq_none {t : PluTable} {i : Nat} : t.leafAt i = none ↔ ∀ e ∈ t.directory, e.1 ≠ i := by
  simp [leafAt]

/-- An added entry joins those there were. -/
theorem mem_addEntry {i : Nat} {l : LeafNo} {d : List (Nat × LeafNo)} {e : Nat × LeafNo} :
    e ∈ addEntry i l d ↔ e = (i, l) ∨ e ∈ d := by
  induction d with
  | nil => simp [addEntry]
  | cons x xs ih =>
    unfold addEntry
    split
    · simp
    · simp only [List.mem_cons, ih]
      tauto

/-- A directory stays by rising index when an entry of a new index is added. -/
theorem addEntry_sorted {i : Nat} {l : LeafNo} {d : List (Nat × LeafNo)} (h : (d.map (·.1)).Pairwise (· < ·))
    (hn : ∀ e ∈ d, e.1 ≠ i) : ((addEntry i l d).map (·.1)).Pairwise (· < ·) := by
  induction d with
  | nil => simp [addEntry]
  | cons x xs ih =>
    have hx : x.1 ≠ i := hn x (by simp)
    simp only [List.map_cons, List.pairwise_cons] at h
    unfold addEntry
    split
    · next hlt =>
      simp only [List.map_cons, List.pairwise_cons, List.mem_cons, forall_eq_or_imp]
      exact ⟨⟨hlt, fun k hk => lt_trans hlt (h.1 k hk)⟩, h.1, h.2⟩
    · next hge =>
      simp only [List.map_cons, List.pairwise_cons, List.mem_map, forall_exists_index, and_imp]
      refine ⟨?_, ih h.2 fun e he => hn e (by simp [he])⟩
      rintro k e he rfl
      rcases mem_addEntry.1 he with rfl | he
      · simp only; omega
      · exact h.1 _ (List.mem_map_of_mem he)

/-- A PLU number's directory index and slot name no other number. -/
theorem place_inj {p q : Nat} (h1 : dirIndex p = dirIndex q) (h2 : slotOf p = slotOf q) : p = q := by
  simp only [dirIndex, slotOf, Fin.mk.injEq] at *
  omega

/-- What a lookup finds: the leaf its directory entry names, and the record in its slot (R25). -/
theorem find_eq_some {t : PluTable} {p : Nat} {r : PluRecord} :
    t.find p = some r ↔
      ∃ l leaf, t.leafAt (dirIndex p) = some l ∧ t.pool.get l = some leaf ∧ leaf.get (slotOf p) = some r := by
  unfold find
  split
  · next h => simp [h]
  · next l h =>
    split
    · next hl => simp [h, hl]
    · next leaf hl => simp [h, hl]

@[simp] theorem writeSlot_directory (t : PluTable) (l : LeafNo) (leaf : Leaf) (p : Nat) (r : PluRecord) :
    (t.writeSlot l leaf p r).directory = t.directory := rfl
@[simp] theorem writeSlot_pool (t : PluTable) (l : LeafNo) (leaf : Leaf) (p : Nat) (r : PluRecord) :
    (t.writeSlot l leaf p r).pool = t.pool.put l (some (leaf.put (slotOf p) (some r))) := rfl
@[simp] theorem writeSlot_leafAt (t : PluTable) (l : LeafNo) (leaf : Leaf) (p : Nat) (r : PluRecord) (i : Nat) :
    (t.writeSlot l leaf p r).leafAt i = t.leafAt i := rfl
@[simp] theorem mapRecords_directory (t : PluTable) (f : PluRecord → PluRecord) :
    (t.mapRecords f).directory = t.directory := by simp only [mapRecords]

/-- Every record changed by a function: each lookup finds the changed record. -/
theorem find_mapRecords (t : PluTable) (f : PluRecord → PluRecord) (p : Nat) :
    (t.mapRecords f).find p = (t.find p).map f := by
  have h : (t.mapRecords f).leafAt (dirIndex p) = t.leafAt (dirIndex p) := by
    simp only [leafAt, mapRecords_directory]
  unfold find
  rw [h]
  cases t.leafAt (dirIndex p) with
  | none => rfl
  | some l =>
    simp only [mapRecords, Table.get_each]
    cases t.pool.get l with
    | none => rfl
    | some leaf => simp

/-- A record is in the list of a leaf's records exactly when some slot holds it. -/
theorem mem_leafRecords {leaf : Leaf} {r : PluRecord} : r ∈ leafRecords leaf ↔ ∃ k, leaf.get k = some r := by
  simp [leafRecords, Table.mem_rows]

/-- A record is in the table exactly when a leaf that the directory names holds it. -/
theorem mem_records {t : PluTable} {r : PluRecord} :
    r ∈ t.records ↔ ∃ e ∈ t.directory, ∃ leaf, t.pool.get e.2 = some leaf ∧ ∃ k, leaf.get k = some r := by
  unfold records
  rw [List.mem_flatMap]
  refine exists_congr fun e => and_congr_right fun _ => ?_
  cases t.pool.get e.2 with
  | none => simp
  | some leaf => simp [mem_leafRecords]

/-- The lowest free leaf is free, and there is one unless every leaf is allocated (R26). -/
theorem freeLeaf_eq_some {t : PluTable} {l : LeafNo} (h : t.freeLeaf = some l) : t.pool.get l = none := by
  simpa using List.find?_some h

theorem freeLeaf_eq_none {t : PluTable} : t.freeLeaf = none ↔ ∀ l, (t.pool.get l).isSome = true := by
  simp only [freeLeaf, List.find?_eq_none, List.mem_finRange, true_implies]
  refine forall_congr' fun l => ?_
  cases t.pool.get l <;> simp

end Sys2Proof.Machine.PluTable
end

