-- ==== Sys2Proof/Tests/Slice0.lean ====
section
/-! SUPPORT. Tests: each about one command on a small state, its expected result from the manual's worked cases or by
hand from its rules; the refusals of ill-formed commands; and a witness for each statement that has hypotheses. -/

namespace Sys2Proof.Tests
open Sys2Proof.Machine

/-! ## Small states -/

/-- The state a command leaves. -/
def run (c : Instr) (s : State) : State :=
  match exec c s with
  | .next t => t
  | .fault _ => s
  | .refused _ => s

/-- A state with one request, tag 7, waiting at a port. -/
def queued (s : State) (p : Port) (k : RequestKind) (payload : List Byte) : State :=
  s.onPort p fun x => { x with fifo := [⟨k.code, 7, payload⟩] }

/-- The payload of the frame a port has begun to send. -/
def sent (s : State) (p : Port) : List Byte := ((s.port p).sending.map (·.payload)).getD []

/-- Station 3's calibration of 01 section 1.11. -/
def cal3 : CalFields := ⟨120000, 2400000, 12000, 6000, 2, 15000, 5⟩

/-- PLU 1234 of 03 section 3.7 and 05 section 5.8, with the preset tare of 01 section 1.11. -/
def cheese : PluRecord :=
  ⟨⟨1234, .byWeight, [0x41, 0x67, 0x65, 0x64], 2890, 30, 12, 10, .price, 1⟩, .active, 640, ⟨0, 0, 0, 0⟩⟩

/-- PLU 3300 of 03 section 3.8. -/
def bread : PluRecord :=
  ⟨⟨3300, .byCount, [0x42, 0x75, 0x6E], 450, 0, 0, 0, .price, 4⟩, .active, 500, ⟨0, 0, 0, 0⟩⟩

/-- A table of those two articles. -/
def articles : PluTable := (((emptyTable.place cheese).getD emptyTable).place bread).getD emptyTable

/-- 2031-02-26 18:42:10 (05 section 5.8). -/
def evening : DateTime := ⟨⟨2031, 2, 26⟩, 18, 42, 10⟩

/-- Six samples of 207,481 counts under a zero of 750 mg: gross 436,655 mg, stable (01 section 1.11). -/
def loaded : WeighContext :=
  ⟨.weighing, List.replicate 6 ⟨207481, some 436655⟩, some 750, some 750, false, none, false,
    some ⟨437405, 436655, 436655⟩⟩

/-- The counter OPEN at generation 812; stations 3 and 8 ENROLLED, LABEL_EACH with printers; station 3 loaded; clerk 7,
code 4417, enabled and bound nowhere; clerk 12, code 3306, enabled; the last order number issued is 417. -/
def shop : State :=
  let s : State := State.reset
  let enrolled : RosterEntry := ⟨.enrolled, some ⟨true, 60, 6⟩, some 2000⟩
  { s with
    notices := ⟨0, allClasses, []⟩
    counter :=
      { s.counter with
        state := .opened, clock := evening, lastDate := evening.date
        roster := (s.counter.roster.put 2 enrolled).put 7 enrolled }
    weighing := s.weighing.put 2 loaded
    plu := articles
    pricing := { s.pricing with generation := 812, settings := { defaultPrices with windowStart := ⟨19, 0⟩, windowEnd := ⟨21, 0⟩ } }
    orders :=
      { s.orders with
        clerks := (s.orders.clerks.put 6 ⟨4417, true, none⟩).put 11 ⟨3306, true, none⟩, lastOrderNumber := 417 }
    labels := (s.labels.put 2 ⟨none, 5120, none⟩).put 7 ⟨none, 2207, none⟩
    lock := { s.lock with records := s.lock.records.put 2 ⟨true, cal3⟩ } }

/-- Clerk 7 bound at station 3. -/
def manned : State := shop.setClerk 6 ⟨4417, true, some 2⟩

/-- Item 1 of 04 section 4.8: PLU 1234, 424 g, price 1,225, label 5120 of station 3. -/
def item1 : Item := ⟨1, 1234, .byWeight, 424, 0, 2890, 0, 1225, 812, 2, some 5120, evening, .confirmed⟩

/-- Item 2: a quantity of 3 of PLU 3300, price 1,350, not yet printed. -/
def item2 : Item := ⟨2, 3300, .byCount, 3, 0, 450, 0, 1350, 812, 2, some 5121, evening, .pending⟩

/-- Order 418 with some items, held by station 3. -/
def order418 (items : List Item) : Order := ⟨418, some 2, .opened, 2, evening, none, items, items.length + 1⟩

/-- Clerk 7 at station 3 with order 418 open, item 1 CONFIRMED. -/
def selling : State :=
  let s := manned.setOrder 6 (some (order418 [item1]))
  { s with
    orders := { s.orders with lastOrderNumber := 418 }, totals := { s.totals with openOrders := 1 }
    labels := s.labels.put 2 ⟨none, 5121, none⟩ }

/-- The label record of item 2. -/
def label2 : LabelRecord := itemRecord selling 2 6 418 bread.fields item2 5121

/-- The same with item 2 PENDING and its label 5121 in the slot, its push sent. -/
def printing : State :=
  (selling.setOrder 6 (some (order418 [item1, item2]))).setPrinter 2 ⟨some ⟨label2, some 10000⟩, 5122, none⟩

/-- The same with order 418 CLOSING under its total label 5121. -/
def closing : State :=
  (selling.setOrder 6 (some { order418 [item1] with state := .closing })).setPrinter 2
    ⟨some ⟨totalRecord selling 2 6 (order418 [item1]) 5121, some 10000⟩, 5122, none⟩

/-- The counter CLOSED, nothing sold. -/
def shut : State := { shop with counter := { shop.counter with state := .closed } }

/-- A batch of one entry, ARMED for one minute after the evening's clock (03 section 3.8). -/
def armed : State :=
  { shop with
    pricing :=
      { shop.pricing with
        batch := .armed, entries := [.change 1234 3190 0 none], instant := some ⟨⟨2031, 2, 26⟩, 18, 43, 10⟩ } }

/-- The queue of 06 section 6.10 at 19:10:00, with clerk 7 bound at station 8. -/
def queueing : State :=
  let at' (h m k : Nat) : DateTime := ⟨⟨2031, 2, 26⟩, h, m, k⟩
  let s := shop.setClerk 6 ⟨4417, true, some 7⟩
  { s with
    counter := { s.counter with clock := at' 19 11 0 }
    queue :=
      { nextNumber := 97, roll := 102
        waiting := [⟨94, at' 19 2 10⟩, ⟨95, at' 19 4 30⟩, ⟨96, at' 19 6 5⟩]
        serving := (Table.fill 32 none).put 6 (some ⟨93, at' 18 58 40, at' 19 5 0, true⟩)
        missed := [⟨88, at' 18 40 0, at' 18 50 0⟩, ⟨1, at' 18 41 0, at' 18 51 0⟩]
        blocked := false, rollLength := 2000, rollLow := 100, queueLong := 4 } }

/-- A service session OPEN on station 3, its link state SERVICE, six counts of an empty platter in the window
(09 section 9.6). -/
def inService : State :=
  let s := shop.setContext 2
    ⟨.weighing, [120140, 120160, 120150, 120155, 120145, 120150].map fun c => ⟨c, some 0⟩, some 750, some 750, false,
      none, false, none⟩
  let t := s.setStation 2 { s.station 2 with link := .service }
  { t with
    lock := { t.lock with session := .opened 2 cal3 none, audit := 57, inactivity := some 900000 } }

/-- The key words of 09 section 9.6. -/
def key4 : List Word32 := [0x11111111, 0x22222222, 0x33333333, 0x44444444]

/-- A key sequence on station 3 with three words received and one failure counted. -/
def synced : State :=
  { shop with
    lock :=
      { shop.lock with key := key4, failures := 1, session := .synced 2 (key4.take 3), sequence := some 30000, audit := 57 } }

/-! ## Ill-formed commands are refused by WellFormed -/

theorem test_wf_payload : WellFormed (.frameArrival .b 0x20 1 (List.replicate 241 0) 0) = false := by decide +kernel
theorem test_wf_payload_ok : WellFormed (.frameArrival .b 0x20 1 (List.replicate 240 0) 0) = true := by decide +kernel
theorem test_wf_count_high : WellFormed (.sample 0 8388608) = false := by decide
theorem test_wf_count_low : WellFormed (.sample 0 (-8388609)) = false := by decide
theorem test_wf_count_ok : WellFormed (.sample 0 (-8388608)) = true := by decide
theorem test_wf_printDone : WellFormed (.printDone 0 16777216) = false := by decide
theorem test_wf_printFail : WellFormed (.printFail 0 16777216) = false := by decide
theorem test_wf_status_station : WellFormed (.statusRead (.s 0)) = false := by decide
theorem test_wf_status_queue : WellFormed (.statusRead .q) = false := by decide
theorem test_wf_status_ok : WellFormed (.statusRead .v) = true := by decide

/-! ## Lines, power and the queue of commands -/

/-- No row of the table has bits. -/
theorem test_no_word_spells_a_command : decodeTableWord 16 0x1234 = none := by decide

theorem test_step_takes_the_front :
    (match step { State.reset with pending := [.loadHoldAssert, .clockTick] } with
      | .next t => (t.pending, t.loadHold)
      | _ => ([], false)) = ([.clockTick], true) := by decide

/-- R146: every timer stops, NOTICE is deasserted. -/
theorem test_reset_assert :
    let t := run .resetAssert State.reset
    t.counter.beat = none ∧ State.reset.noticeLine = true ∧ t.noticeLine = false := by decide

/-- 08 section 8.7: three orders lost at the power failure, LOAD_HOLD deasserted. -/
theorem test_reset_release_counts_lost :
    let s : State := { shop with resetLow := true, totals := { shop.totals with openOrders := 3 } }
    let t := run .resetRelease s
    t.totals.counter.ordersLost = 3 ∧ t.totals.openOrders = 0 ∧ t.counter.state = .closed
      ∧ t.counter.clock = evening ∧ t.pricing.generation = 1
      ∧ t.notices.queue.map (·.cls) = [.ordersLost, .counterState] := by decide

theorem test_load_hold_release :
    (run .loadHoldRelease { State.reset with loadHold := true, counter := { State.reset.counter with state := .loading } }).counter.state
      = .closed := by decide

/-- R139: a running hub does nothing at a deasserted line driven high. -/
theorem test_load_hold_assert : (run .loadHoldAssert shop).counter = shop.counter := by decide

theorem test_battery_failure : (run .batteryFailure { shop with resetLow := true }).markerOk = false := by decide

/-! ## Links (10 sections 10.1 and 10.6) -/

/-- The example of R174. -/
theorem test_check : checkOf [0x31, 0x32, 0x33, 0x34, 0x35, 0x36, 0x37, 0x38, 0x39] = 0x29B1 := by
  decide +kernel

/-- 10 section 10.6: PLU READ on a station's link. -/
theorem test_frame_not_permitted :
    let check := checkOf (checkedBytes 0x21 13 [0, 4, 210, 0])
    (run (.frameArrival (.s 2) 0x21 13 [0, 4, 210, 0] check) shop |>.port (.s 2)).sending = some ⟨0xA1, 13, [3]⟩ := by
  decide +kernel

/-- 10 section 10.6: kind 0x1F is unknown. -/
theorem test_frame_unknown_kind :
    (run (.frameArrival (.s 2) 0x1F 14 [] (checkOf (checkedBytes 0x1F 14 []))) shop |>.port (.s 2)).sending
      = some ⟨0x9F, 14, [2]⟩ := by decide +kernel

/-- R175: a gap in a partial frame with no sync byte among its bytes returns to HUNTING. -/
theorem test_gap_limit :
    ((run (.gapLimitExpiry .b) (shop.onPort .b fun x => { x with hunter := some [0x20, 1], gap := some 5 })).port
      .b).hunter = none := by decide

/-- R91: the deadline runs from the sending of the last part. -/
theorem test_frame_sent_sets_deadline :
    let s := (printing.setPrinter 2 ⟨some ⟨label2, none⟩, 5122, none⟩).onPort (.s 2) fun x =>
      { x with sending := label2.parts.head? }
    (((run (.frameSent (.s 2)) s).printer 2).slot.map (·.deadline)) = some (some 10000) := by decide

theorem test_character_begins_frame : ((run (.characterReceived .q 0xA5) shop).port .q).hunter = some [] := by
  decide

theorem test_character_dropped : ((run (.characterReceived .q 0x5A) shop).port .q).hunter = none := by decide

/-! ## Weighing (01 section 1.11) -/

/-- The displayed weights of R6 and of the boundary values on station 3. -/
theorem test_shown :
    [424655, 425000, -5000, -10, 6000000, 6001200, 6002500, 15045000, -40000].map cal3.shown
      = [424, 426, -6, 0, 6000, 6000, 6005, 15045, -40] := by decide

/-- Sample 6 of the enrolment course captures the initial zero and is taken again. -/
theorem test_sample_captures_zero :
    let x : WeighContext :=
      ⟨.noZero, [(120150, 750), (120151, 755), (120150, 750), (120149, 745), (120150, 750)].map fun p =>
        ⟨p.1, some p.2⟩, none, none, false, none, false, none⟩
    let t := (run (.sample 2 120150) (shop.setContext 2 x)).context 2
    t.zero = some 750 ∧ t.initialZero = some 750 ∧ t.window = [⟨120150, some 0⟩] ∧ t.state = .weighing := by
  decide

/-- The last sample of the auto-clear course: the used tare goes, and its push carries net 0 g. -/
theorem test_sample_auto_clears :
    let x : WeighContext :=
      ⟨.weighing, List.replicate 5 ⟨120150, some 0⟩, some 750, some 750, false, some ⟨20000, .key⟩, true, none⟩
    let s := shop.setContext 2 x
    let t := run (.sample 2 120150) { s with lock := { s.lock with profiles := Table.fill 12 ⟨.labelEach, true⟩ } }
    (t.context 2).tare = none ∧ (t.context 2).window.length = 1
      ∧ sent t (.s 2) = [2, 4, 0, 0, 0, 0, 2, 0, 0, 0, 0, 2, 0, 0, 0] := by decide

/-- R13: the zero becomes m of the newest sample; here that is far outside the band of 20 g per kg. -/
theorem test_zero_out_of_range : sent (run (.zero 2) (queued shop (.s 2) .zero [])) (.s 2) = [12] := by decide

theorem test_zero :
    let x := { loaded with window := List.replicate 6 ⟨120160, some 50⟩, newest := some ⟨800, 50, 50⟩ }
    let t := run (.zero 2) (queued (shop.setContext 2 x) (.s 2) .zero [])
    sent t (.s 2) = [0] ∧ (t.context 2).zero = some 800 ∧ (t.context 2).window = [] := by decide

/-- The tub of the auto-clear course: 20,000 mg is taken as 20 g. -/
theorem test_tare_key :
    let x := { loaded with window := List.replicate 6 ⟨124150, some 20000⟩, newest := some ⟨20750, 20000, 20000⟩ }
    let t := run (.tareKey 2) (queued (shop.setContext 2 x) (.s 2) .tareKey [])
    sent t (.s 2) = [0, 0, 20] ∧ (t.context 2).tare = some ⟨20000, .key⟩ := by decide

/-- R15's table: 13 g at 2 g is 14 g. -/
theorem test_tare_set : sent (run (.tareSet 2) (queued shop (.s 2) .tareSet [0, 13])) (.s 2) = [0, 0, 14] := by
  decide

theorem test_tare_clear :
    let s := shop.setContext 2 { loaded with tare := some ⟨20000, .key⟩, tareUsed := true }
    let t := run (.tareClear 2) (queued s (.s 2) .tareClear [])
    (t.context 2).tare = none ∧ (t.context 2).tareUsed = false ∧ (t.context 2).window = [] := by decide

/-! ## The PLU table (02 section 2.8) -/

/-- The first row of the course: index 38 names leaf 0. -/
theorem test_plu_write :
    let t := run .pluWrite (queued State.reset .b .pluWrite cheese.fields.bytes)
    sent t .b = [0, 0, 0, 0, 0, 2, 63, 0, 1] ∧ t.plu.directory = [(38, 0)]
      ∧ (t.plu.find 1234).map (·.changedGen) = some 2 := by decide

theorem test_plu_write_while_open : sent (run .pluWrite (queued shop .b .pluWrite cheese.fields.bytes)) .b = [5] := by
  decide

/-- R36: NEXT finds the lowest number at or above the one sent. -/
theorem test_plu_read_next :
    ((sent (run .pluRead (queued shop .b .pluRead [0, 4, 211, 1])) .b).take 5) = [0, 0, 12, 228, 2] := by decide

/-- R34: an unsold record nothing names is removed, and its leaf freed. -/
theorem test_plu_remove :
    sent (run .pluRemove (queued shut .b .pluRemove [0, 12, 228])) .b = [0, 0, 0, 0, 3, 45, 63, 0, 1] := by
  decide

theorem test_plu_wipe :
    sent (run .pluWipe (queued shut .b .pluWipe [])) .b = [0, 0, 2, 0, 0, 0, 0, 3, 45, 64, 0, 0] := by decide

/-! ## Pricing (03 sections 3.2 and 3.7) -/

/-- The table of rounded prices, both columns, and the exact half. -/
theorem test_item_prices :
    let price (mode : Rounding) (step amount up : Nat) :=
      itemPrice { defaultPrices with rounding := mode, step := step } .byWeight amount up
    [price .nearest 1 424 2023, price .nearest 5 424 2023, price .nearest 10 424 2023, price .down 1 424 2023,
        price .down 5 424 2023, price .down 10 424 2023, price .up 1 424 2023, price .up 5 424 2023,
        price .up 10 424 2023]
      = [858, 860, 860, 857, 855, 850, 858, 860, 860]
    ∧ [price .nearest 1 424 2890, price .nearest 5 424 2890, price .nearest 10 424 2890, price .down 10 424 2890,
        price .up 1 424 2890, price .up 5 424 2890, price .nearest 1 250 3430, price .nearest 5 250 3430]
      = [1225, 1225, 1230, 1220, 1226, 1230, 858, 860] := by decide

/-- 424 g at 2,890 with the preset tare of 12 g, outside the markdown window. -/
theorem test_quote :
    sent (run (.quote 2) (queued shop (.s 2) .quote (encodeQuote 1234 none))) (.s 2)
      = [0] ++ be 2 424 ++ be 2 12 ++ [1] ++ be 3 2890 ++ [0] ++ be 3 1225 ++ be 4 812 := by decide

/-- The same at 19:15:00, inside it. -/
theorem test_quote_markdown :
    let s : State := { shop with counter := { shop.counter with clock := ⟨⟨2031, 2, 26⟩, 19, 15, 0⟩ } }
    sent (run (.quote 2) (queued s (.s 2) .quote (encodeQuote 1234 none))) (.s 2)
      = [0] ++ be 2 424 ++ be 2 12 ++ [1] ++ be 3 2023 ++ [1] ++ be 3 858 ++ be 4 812 := by decide

theorem test_batch_add :
    let t := run .batchAdd (queued shop .b .batchAdd (encodeBatchEntry (.change 1234 3190 0 none)))
    sent t .b = [0, 1] ∧ t.pricing.batch = .filling := by decide

/-- R55: five minutes after 18:42:10. -/
theorem test_batch_commit :
    let s : State := { shop with pricing := { shop.pricing with batch := .filling, entries := [.retire 3300] } }
    let t := run .batchCommit (queued s .b .batchCommit [0, 5])
    t.pricing.batch = .armed ∧ t.pricing.instant = some ⟨⟨2031, 2, 26⟩, 18, 47, 10⟩ := by decide

theorem test_batch_clear :
    let t := run .batchClear (queued armed .b .batchClear [])
    sent t .b = [0, 1] ∧ t.pricing.batch = .empty ∧ t.pricing.instant = none := by decide

theorem test_batch_status :
    sent (run .batchStatus (queued armed .b .batchStatus [])) .b
      = [0, 2, 1, 1, 31, 2, 26, 18, 43, 10, 0, 0, 3, 44, 0, 0, 0, 0, 0, 0, 0, 0] := by decide

/-- R59: one entry applied, the generation stepped, the record changed, BATCH_APPLIED raised. -/
theorem test_batch_activation :
    let s : State := { armed with counter := { armed.counter with clock := ⟨⟨2031, 2, 26⟩, 18, 43, 10⟩ } }
    let t := run .batchActivation s
    t.pricing.generation = 813 ∧ t.pricing.batch = .empty
      ∧ (t.plu.find 1234).map (fun r => (r.fields.unitPrice, r.changedGen)) = some (3190, 813)
      ∧ t.notices.queue.map (·.cls) = [.batchApplied] := by decide

theorem test_batch_activation_early : run .batchActivation armed = armed := by decide

/-! ## Clerks and orders (04 section 4.8) -/

theorem test_clerk_on :
    let t := run (.clerkOn 2) (queued shop (.s 2) .clerkOn (encodeClerkOn 6 4417))
    sent t (.s 2) = 0 :: List.replicate 21 0 ∧ (t.clerk 6).bound = some 2 := by decide

/-- Station 8 signs clerk 7 on while label 5121 is in slot 3. -/
theorem test_clerk_on_order_busy :
    let t := run (.clerkOn 7) (queued printing (.s 7) .clerkOn (encodeClerkOn 6 4417))
    (sent t (.s 7)).take 8 = [9, 1, 162, 7, 1, 3, 0, 2] ∧ (t.clerk 6).bound = some 2 := by decide

theorem test_clerk_off :
    let t := run (.clerkOff 2) (queued selling (.s 2) .clerkOff [])
    (t.clerk 6).bound = none ∧ (t.order 6).map (fun o => (o.holder, o.revision)) = some (none, 3) := by decide

theorem test_clerk_write :
    let t := run .clerkWrite (queued shut .b .clerkWrite (encodeClerkWrite 4 1 true))
    sent t .b = [0] ∧ t.clerk 4 = ⟨1, true, none⟩ := by decide

theorem test_clerk_read :
    sent (run .clerkRead (queued selling .b .clerkRead [7])) .b = [0, 17, 65, 1, 1, 3, 1, 1, 162] := by decide

/-- The order opened with number 418, item 1 PENDING, label 5120 in slot 3; the net is that of a preset tare of 12 g. -/
theorem test_label :
    let t := run (.label 2) (queued manned (.s 2) .label (encodeSale ⟨1234, none, 812⟩))
    sent t (.s 2)
        = [0, 1] ++ be 2 418 ++ be 3 5120 ++ be 2 424 ++ be 2 12 ++ be 3 2890 ++ [0] ++ be 3 1225 ++ be 4 812
      ∧ (t.printer 2).nextNumber = 5121 ∧ (t.order 6).map (·.revision) = some 1 ∧ t.totals.openOrders = 1 := by
  decide

/-- R51: a quoted generation below the record's changed_gen. -/
theorem test_label_stale :
    sent (run (.label 2) (queued manned (.s 2) .label (encodeSale ⟨1234, none, 639⟩))) (.s 2) = [24] := by decide

/-- Quantity 3 of PLU 3300 at 450, in TOTAL_ONLY. -/
theorem test_add_item :
    let s : State := { manned with lock := { manned.lock with profiles := Table.fill 12 ⟨.totalOnly, false⟩ } }
    let t := run (.addItem 2) (queued s (.s 2) .addItem (encodeSale ⟨3300, some 3, 812⟩))
    sent t (.s 2) = [0, 1] ++ be 2 418 ++ be 2 3 ++ be 2 0 ++ be 3 450 ++ [0] ++ be 3 1350 ++ be 4 812
      ∧ (t.order 6).map (fun o => o.items.map (·.state)) = some [.confirmed] := by decide

theorem test_void_item :
    let t := run (.voidItem 2) (queued selling (.s 2) .voidItem [1])
    (t.order 6).map (fun o => (o.total, o.revision, o.items.map (·.state))) = some (0, 3, [.voided]) := by
  decide

theorem test_park_order :
    (run (.parkOrder 2) (queued selling (.s 2) .parkOrder [])).order 6
      = some { order418 [item1] with holder := none, revision := 3 } := by decide

/-- A claim with a pair that is not the order's is answered with the pair that is. -/
theorem test_claim_order_elsewhere :
    sent (run (.claimOrder 7) (queued selling (.s 7) .claimOrder (encodeClaim 6 none 2))) (.s 7) = [32, 1, 3, 0, 2] := by
  decide

theorem test_claim_order :
    let t := run (.claimOrder 7) (queued selling (.s 7) .claimOrder (encodeClaim 6 (some 2) 2))
    (t.order 6).map (fun o => (o.holder, o.revision)) = some (some 7, 3) ∧ (t.clerk 6).bound = some 7 := by
  decide

theorem test_close_order :
    let t := run (.closeOrder 2) (queued selling (.s 2) .closeOrder [])
    (sent t (.s 2)).take 5 = [0, 1, 0, 20, 1] ∧ (t.order 6).map (·.state) = some .closing
      ∧ (t.printer 2).slot.isSome = true := by decide

/-- 11 section 11.4: an order of one VOIDED item closes empty, and DRAINING ends. -/
theorem test_close_order_empty :
    let s := selling.setOrder 6 (some (order418 [{ item1 with state := .voided }]))
    let t := run (.closeOrder 2)
      (queued { s with counter := { s.counter with state := .draining } } (.s 2) .closeOrder [])
    sent t (.s 2) = [0, 0, 1, 162, 1] ∧ t.order 6 = none ∧ t.counter.state = .closed
      ∧ t.totals.counter.emptyOrders = 1 := by decide

/-! ## Labels (05 sections 5.3 and 5.8; 11 section 11.3) -/

/-- The codes of R94, of 5.8 and of 11.3. -/
theorem test_codes :
    codeOf 22 1234 858 = some [2, 2, 0, 1, 2, 3, 4, 0, 0, 8, 5, 8, 1]
      ∧ codeOf 21 1234 1225 = some [2, 1, 0, 1, 2, 3, 4, 0, 1, 2, 2, 5, 3]
      ∧ codeOf 21 1234 424 = some [2, 1, 0, 1, 2, 3, 4, 0, 0, 4, 2, 4, 1]
      ∧ codeOf 29 1 2330 = some [2, 9, 0, 0, 0, 0, 1, 0, 2, 3, 3, 0, 6] ∧ codeOf 21 1 124500 = none := by decide

/-- The table of R95. -/
theorem test_sell_by :
    [sellBy ⟨2031, 2, 26⟩ 4, sellBy ⟨2032, 2, 26⟩ 4, sellBy ⟨2031, 12, 30⟩ 3, sellBy ⟨2099, 12, 20⟩ 30]
      = [some ⟨2031, 3, 2⟩, some ⟨2032, 3, 1⟩, some ⟨2032, 1, 2⟩, some ⟨2099, 12, 31⟩] := by decide

theorem test_print_done :
    let t := run (.printDone 2 5121) printing
    (t.order 6).map (fun o => o.items.map (·.state)) = some [.confirmed, .confirmed]
      ∧ (t.printer 2).slot = none ∧ (t.totals.stations.get 2).labels = 1 := by decide

/-- A stray report changes nothing. -/
theorem test_print_done_stray : (run (.printDone 2 5119) printing).labels = printing.labels := by decide

theorem test_print_done_total :
    let t := run (.printDone 2 5121) closing
    t.order 6 = none ∧ t.totals.counter.value = 1225 ∧ t.totals.gt = 1225 ∧ (t.totals.clerks.get 6).orders = 1
      ∧ (t.plu.find 1234).map (·.totals) = some ⟨1, 0, 424, 1225⟩ := by decide

theorem test_print_fail :
    let t := run (.printFail 2 5121) printing
    (t.order 6).map (fun o => (o.items.length, o.nextItem)) = some (1, 3)
      ∧ t.notices.queue.map (fun r => (r.cls, r.plu)) = [(.printFailed, some 3300)] := by decide

theorem test_print_deadline :
    (run (.printDeadlineExpiry 2) printing).notices.queue.map (·.variant) = [.print 5121 .timeout] := by decide

theorem test_reprint :
    let s := selling.setPrinter 2 ⟨none, 5121, some { label2 with number := 5120, original := 5120 }⟩
    let t := run (.reprint 2) (queued s (.s 2) .reprint [])
    sent t (.s 2) = [0, 0, 20, 1, 0, 20, 0, 1]
      ∧ (t.printer 2).slot.map (fun x => (x.record.kind, x.record.duplicate)) = some (.reprint, true) := by
  decide

/-! ## The service queue (06 section 6.10) -/

/-- 19:10:20: 97 is issued, 3 ahead; the waiting count reaches the threshold 4. -/
theorem test_take :
    let t := run .take (queued queueing .q .take [])
    (sent t .q).take 3 = [0, 97, 3] ∧ t.queue.nextNumber = 98 ∧ t.queue.roll = 101
      ∧ t.notices.queue.map (·.cls) = [.queueLong] := by decide

/-- 19:12:10: number 1 stands in the missed list. -/
theorem test_take_blocked :
    let s : State := { queueing with queue := { queueing.queue with nextNumber := 1 } }
    let t := run .take (queued s .q .take [])
    sent t .q = [42] ∧ t.queue.blocked = true ∧ t.notices.queue.map (·.cls) = [.dispenserBlocked] := by decide

theorem test_roll_loaded :
    let t := run .rollLoaded (queued queueing .q .rollLoaded [])
    sent t .q = [0, 7, 208] ∧ t.queue.roll = 2000 ∧ t.notices.queue = [] := by decide

/-- 19:11:00: 93 served, 94 called after 530 s; the counts and the DISPLAY push. -/
theorem test_call_next :
    let t := run (.callNext 7) (queued queueing (.s 7) .callNext [])
    sent t (.s 7) = [0, 94, 31, 2, 26, 19, 2, 10, 2, 18, 2] ∧ sent t .q = [1, 94, 8]
      ∧ t.totals.counter.waitSum = 530 ∧ t.totals.counter.queueCalls = 1 ∧ t.queue.missed.length = 2 := by
  decide

theorem test_recall :
    let t := run (.recall 7) (queued queueing (.s 7) .recall [])
    sent t (.s 7) = [0, 93] ∧ sent t .q = [2, 93, 8] := by decide

/-- R117: 1 leaves the missed list; with goods clear, 93 goes to its head. -/
theorem test_recall_missed :
    let s := queueing.setServing 6 (some ⟨93, evening, evening, false⟩)
    let t := run (.recallMissed 7) (queued s (.s 7) .recallMissed [1])
    t.queue.missed.map (·.number) = [93, 88] ∧ (t.serving 6).map (·.number) = some 1
      ∧ t.totals.counter.queueCalls = 0 := by decide

/-! ## Totals (07 section 7.7) -/

/-- GT passes its limit: 999,999,999,500 + 1,970. -/
theorem test_gt_wraps : addValue 999999999500 1970 = 1470 := by decide

theorem test_totals_read_grand :
    sent (run .totalsRead (queued selling .b .totalsRead [4, 0])) .b
      = [0, 4] ++ be 6 0 ++ be 6 0 ++ be 2 1 ++ List.replicate 7 0 ++ [1, 0] ++ be 2 1 ++ List.replicate 7 0
        ++ evening.bytes := by decide

theorem test_z_close :
    let t := run .zClose (queued shut .b .zClose [])
    sent t .b = [0, 0, 1, 0, 2, 0, 62, 0, 0, 0, 0, 0, 0] ∧ t.totals.z = 2 ∧ t.totals.periodStart = some evening
      ∧ t.notices.queue.map (·.cls) = [.reportReady] := by decide

theorem test_z_close_while_open : sent (run .zClose (queued shop .b .zClose [])) .b = [5] := by decide

theorem test_report_read_empty : sent (run .reportRead (queued shut .b .reportRead [0, 1])) .b = [5] := by
  decide

theorem test_report_read :
    let s : State := { shut with totals := { shut.totals with report := some ⟨215, [.department ⟨2, 1970⟩]⟩ } }
    sent (run .reportRead (queued s .b .reportRead [0, 1])) .b
      = [0, 0, 1] ++ be 4 2 ++ be 6 1970 ++ be 2 215 ++ be 2 1 := by decide

theorem test_report_release :
    let s : State := { shut with totals := { shut.totals with report := some ⟨215, []⟩ } }
    let t := run .reportRelease (queued s .b .reportRelease [])
    sent t .b = [0, 1, 0, 215] ∧ t.totals.report = none := by decide

/-! ## Counter, clock and stations (08 section 8.7) -/

theorem test_open_counter :
    let t := run .openCounter (queued State.reset .b .openCounter [])
    sent t .b = [0, 2] ∧ t.counter.state = .opened := by decide

theorem test_close_counter_drains :
    let t := run .closeCounter (queued selling .b .closeCounter [])
    sent t .b = [0, 3, 1] ∧ t.counter.state = .draining := by decide

/-- The table of TIME SET, in OPEN: +100 s crosses midnight; +360 s is refused; 2031-02-29 does not exist. -/
theorem test_time_set :
    let s : State :=
      { shop with
        counter := { shop.counter with clock := ⟨⟨2031, 2, 26⟩, 23, 59, 0⟩, lastDate := ⟨2031, 2, 26⟩ } }
    let set (x : State) (payload : List Byte) := run .timeSet (queued x .b .timeSet payload)
    (set s [31, 2, 27, 0, 0, 40]).notices.queue.map (·.variant) = [.step 100]
      ∧ (set s [31, 2, 27, 0, 0, 40]).counter.lastDate = ⟨2031, 2, 27⟩
      ∧ sent (set s [31, 2, 27, 0, 5, 0]) .b = [5] ∧ sent (set s [31, 2, 29, 10, 0, 0]) .b = [4]
      ∧ (set s [31, 2, 26, 23, 59, 2]).notices.queue = [] := by decide

theorem test_time_set_closed :
    let s : State :=
      { shut with counter := { shut.counter with clock := ⟨⟨2031, 2, 26⟩, 23, 59, 0⟩ } }
    sent (run .timeSet (queued s .b .timeSet [31, 2, 28, 9, 0, 0])) .b
      = [0, 31, 2, 28, 9, 0, 0] ++ be 6 118860 := by decide

/-- R148 and R150: the last second of the day. -/
theorem test_clock_tick :
    let s : State :=
      { shop with
        counter := { shop.counter with clock := ⟨⟨2031, 2, 28⟩, 23, 59, 59⟩, lastDate := ⟨2031, 2, 28⟩ }
        lock := { shop.lock with failures := 3, session := .lockedOut } }
    let t := run .clockTick s
    t.counter.clock = ⟨⟨2031, 3, 1⟩, 0, 0, 0⟩ ∧ t.counter.lastDate = ⟨2031, 3, 1⟩ ∧ t.lock.failures = 0
      ∧ t.lock.session = .idle := by decide

theorem test_settings_write :
    let t := run .settingsWrite (queued shut .b .settingsWrite [1, 5, 19, 0, 21, 0, 22, 29, 3, 232, 0, 50, 4])
    sent t .b = [0] ∧ t.pricing.settings = ⟨.down, 5, ⟨19, 0⟩, ⟨21, 0⟩, 22, 29⟩ ∧ t.queue.rollLength = 1000 := by
  decide

theorem test_settings_read :
    sent (run .settingsRead (queued State.reset .b .settingsRead [])) .b
      = [0, 0, 1, 0, 0, 0, 0, 21, 29, 7, 208, 0, 100, 30] := by decide

theorem test_profile_write :
    (run .profileWrite (queued shut .b .profileWrite [3, 1, 1])).profile 2 = ⟨.totalOnly, true⟩ := by decide

theorem test_status_read :
    (sent (run (.statusRead .v) (queued State.reset .v .statusRead [])) .v)
      = [0, 1, 0, 1, 1, 0, 0, 0] ++ List.replicate (12 * 7) 0 ++ [0, 0, 0] := by decide

/-- The loss of station 3 with item label 5121 in its slot: two notices, the item removed, the order parked. -/
theorem test_silence_expiry :
    let t := run (.silenceExpiry 2) printing
    t.notices.queue.map (·.cls) = [.printFailed, .stationLost] ∧ t.link 2 = .absent ∧ (t.clerk 6).bound = none
      ∧ (t.order 6).map (fun o => (o.holder, o.revision, o.items.length)) = some (none, 4, 1) := by decide

theorem test_link_reset :
    let t := run (.linkReset 7) shop
    t.link 7 = .absent ∧ t.notices.queue.map (fun r => (r.cls, r.station)) = [(.stationLost, some 7)] := by
  decide

/-- R153: the reply to an enrolment at the formatted store's CLOSED counter. -/
theorem test_enrol :
    let t := run (.enrol 4) (queued State.reset (.s 4) .enrol [1, 60, 7])
    sent t (.s 4) = [0, 1, 1, 0, 1, 1, 0, 0, 0, 0, 0, 0, 1, 0, 0, 0] ∧ t.link 4 = .enrolled
      ∧ (t.station 4).silence = some 2000 := by decide

theorem test_beat :
    let t := run .beatExpiry manned
    sent t (.s 2) = [31, 2, 26, 18, 42, 10, 0, 0, 3, 44, 0, 2, 1, 7] ∧ sent t (.s 0) = [] := by decide

/-! ## Service sessions (09 section 9.6) -/

theorem test_service_open :
    let s : State := { shop with lock := { shop.lock with failures := 1, audit := 57 } }
    let t := run .serviceOpen (queued s .v .serviceOpen [3, 0xC3, 0x5A])
    sent t .v = [0, 0, 0, 0, 57, 1] ∧ t.lock.session = .synced 2 [] := by decide

/-- The fourth word matches: OPEN on station 3, its link state SERVICE, the failure count 0. -/
theorem test_service_key :
    let t := run .serviceKey (queued synced .v .serviceKey [0x44, 0x44, 0x44, 0x44])
    (sent t .v).take 4 = [0, 1, 3, 0] ∧ t.link 2 = .service ∧ t.lock.failures = 0 ∧ t.lock.session = .opened 2 cal3 none := by
  decide

/-- A word before the fourth is answered with the form 0 and the next key index, whatever the word (R161). -/
theorem test_service_key_index :
    let s : State := { synced with lock := { synced.lock with session := .synced 2 [] } }
    sent (run .serviceKey (queued s .v .serviceKey [9, 9, 9, 9])) .v = [0, 0, 2] := by decide

/-- The third failure locks the console out. -/
theorem test_service_key_lockout :
    let s : State := { synced with lock := { synced.lock with failures := 2 } }
    let t := run .serviceKey (queued s .v .serviceKey [0, 0, 0, 0])
    sent t .v = [49] ∧ t.lock.session = .lockedOut ∧ t.notices.queue.map (·.variant) = [.failures 3] := by decide

theorem test_sequence_timer :
    let t := run .sequenceTimerExpiry synced
    t.lock.session = .idle ∧ t.lock.failures = 1 := by decide

theorem test_cal_read :
    (sent (run .calRead (queued inService .v .calRead [])) .v)
      = [0, 3, 2, 0] ++ cal3.bytes ++ cal3.bytes ++ [0, 6, 0, 0, 0, 57] := by decide

/-- R166: a field out of its range refuses the whole request. -/
theorem test_cal_write :
    let ask (c : CalChanges) := run .calWrite (queued inService .v .calWrite (encodeCalWrite c))
    (ask ⟨none, none, none, none, some 12000, none, none⟩).lock.session = .opened 2 { cal3 with max2 := 12000 } none
      ∧ sent (ask ⟨none, none, none, some 100, none, some 3, none⟩) .v = [4] := by decide

/-- Sum 720,900, mean 120,150, spread 20. -/
theorem test_capture_zero :
    sent (run .captureZero (queued inService .v .captureZero [])) .v = [0] ++ be 3 120150 ++ be 3 20 := by decide

/-- Sum 15,122,703, mean 2,520,451; S 2,400,301 at a staged Z of 120,150. -/
theorem test_capture_span :
    let s := inService.setContext 2
      { inService.context 2 with
        window := [2520440, 2520460, 2520451, 2520450, 2520449, 2520453].map fun c => ⟨c, none⟩ }
    let t : State := { s with lock := { s.lock with session := .opened 2 { cal3 with z := 120150 } none } }
    sent (run .captureSpan (queued t .v .captureSpan [46, 224])) .v
      = [0] ++ be 3 2400301 ++ be 2 12000 ++ be 3 20 := by decide

theorem test_key_change :
    (run .keyChange (queued inService .v .keyChange (encodeKey key4))).lock.session = .opened 2 cal3 (some key4) := by
  decide

/-- Z and S differ: the record is SET with them, the audit counter 58, the context restarted. -/
theorem test_service_close :
    let f : CalFields := { cal3 with z := 120150, s := 2400301 }
    let s : State := { inService with lock := { inService.lock with session := .opened 2 f none } }
    let t := run .serviceClose (queued s .v .serviceClose [])
    sent t .v = [0, 1, 0, 0, 0, 0, 58] ∧ t.calibration 2 = ⟨true, f⟩ ∧ (t.context 2).state = .noZero
      ∧ t.link 2 = .enrolled := by decide

theorem test_service_abandon :
    let t := run .serviceAbandon (queued inService .v .serviceAbandon [])
    sent t .v = [0] ∧ t.lock.session = .idle ∧ t.link 2 = .enrolled ∧ (t.context 2).window = [] := by decide

theorem test_inactivity :
    let t := run .inactivityExpiry inService
    t.lock.session = .idle ∧ t.calibration 2 = ⟨true, cal3⟩ := by decide

/-! ## Notices (10 section 10.5) -/

/-- The record of the formatted store's power-on: COUNTER_STATE with CLOSED; then NOTICE is deasserted. -/
theorem test_notice_take :
    let t := run .noticeTake (queued State.reset .b .noticeTake [])
    sent t .b = [0, 1, 14, 0, 1, 1, 0, 0, 0, 0, 0, 0, 0, 0, 0, 0, 0, 1, 0, 0, 0, 0, 0, 0, 0, 0] ∧ t.noticeLine = false := by
  decide

theorem test_notice_enable :
    let s : State := { shop with notices := ⟨0, 0, []⟩ }
    sent (run .noticeEnable (queued s .b .noticeEnable [0x20, 0x01])) .b = [0, 0x20, 0x01]
      ∧ sent (run .noticeEnable (queued s .b .noticeEnable [0x40, 0x01])) .b = [4] := by decide

theorem test_notice_disable :
    sent (run .noticeDisable (queued shop .b .noticeDisable [0x00, 0x0F])) .b = [0, 0x3F, 0xF0]
      ∧ sent (run .noticeDisable (queued shop .b .noticeDisable [0, 0])) .b = [0] := by decide

theorem test_flags_read :
    sent (run .flagsRead (queued State.reset .b .flagsRead [])) .b = [0, 0x20, 0x00, 0x3F, 0xFF, 1] := by decide

theorem test_flags_clear :
    sent (run .flagsClear (queued State.reset .b .flagsClear [0x20, 0x00])) .b = [0, 0, 0] := by decide

/-- 10 section 10.7: with 31 records queued, the loss of a station with a label makes only the first of its two. -/
theorem test_full_notice_queue :
    let r : Notice := ⟨.rollLow, evening, none, none, none, none, .none⟩
    let t := run (.silenceExpiry 2) { printing with notices := ⟨0, allClasses, List.replicate 31 r⟩ }
    t.notices.queue.length = 32 ∧ t.notices.occurred = 0x0003 := by decide

/-! ## Witnesses: a state and operands that meet each statement's hypotheses -/

/-- RESET is high and a port's reply lane has room. -/
def ready (s : State) (p : Port) : Bool := !s.resetLow && decide ((s.port p).replyLane.length < 8)

/-- A queued request waits. -/
theorem waits_queued {s : State} {p : Port} {k : RequestKind} {payload : List Byte} (h : ready s p = true) :
    Waits (queued s p k payload) p k 7 payload [] := by
  simp only [ready, Bool.and_eq_true, Bool.not_eq_true', decide_eq_true_eq] at h
  refine ⟨h.1, ?_, ?_⟩ <;> simp [queued, h.2, Config.replyLaneFrames]

theorem ready_shop : ready shop (.s 0) = true ∧ ready shop (.s 2) = true ∧ ready shop (.s 7) = true
    ∧ ready shop .b = true ∧ ready shop .v = true ∧ ready shop .q = true := by decide

theorem witness_FrontCommandRuns :
    ({ State.reset with pending := [.take] } : State).pending = [Instr.take] ∧ State.reset.pending = [] :=
  ⟨rfl, rfl⟩

theorem witness_NothingToDoChangesNothing :
    (requestOf .take = some (.q, .take) ∧ (shop.port .q).fifo = [])
      ∧ (({ shop with resetLow := true } : State).resetLow = true
        ∧ Instr.beatExpiry ∉
          [.resetAssert, .resetRelease, .loadHoldRelease, .loadHoldAssert, .clockTick, .batteryFailure])
      ∧ shop.resetLow = false ∧ (shop.port .b).sending = none := by decide

/-- With an empty FIFO no request waits. -/
theorem no_request_waits (tag : Byte) (payload : List Byte) (rest : List Request) :
    ¬Waits shop .q .take tag payload rest := fun h => by
  have e : (shop.port .q).fifo = [] := by decide
  rw [h.2.1] at e
  exact List.cons_ne_nil _ _ e

theorem witness_ResetAndLoadHoldLines :
    (shop.resetLow = false ∧ shop.counter.state ≠ .loading)
      ∧ (let s : State := { shop with counter := { shop.counter with state := .loading } }
         s.resetLow = false ∧ s.counter.state = .loading)
      ∧ ({ shop with resetLow := true } : State).resetLow = true := by decide

theorem witness_ResetReleaseRestartsHub :
    (∀ b : Bool, let s : State := { shop with resetLow := true, markerOk := false, loadHold := b }
      s.resetLow = true ∧ s.markerOk = false ∧ s.loadHold = b)
      ∧ (let s : State := { shop with resetLow := true }
         s.resetLow = true ∧ s.markerOk = true) := by decide

theorem witness_CheckIsAsComputed : checkOf [0x29, 0xB1] = checkOf [0x29, 0xB1] := rfl

theorem witness_RequestFrameIsSorted :
    Hunting shop (.s 2) ∧ (List.replicate 240 (0 : Byte)).length ≤ 240 ∧ ([] : List Byte).length ≤ 240 := by
  unfold Hunting
  decide +kernel

theorem witness_OtherFramesAreSorted :
    Hunting shop (.s 2) ∧ Hunting shop .b
      ∧ (let s := shop.onPort (.s 2) fun x => { x with replyLane := List.replicate 7 ⟨0x82, 0, [0]⟩ }
         (s.port (.s 2)).replyLane.length < 8)
      ∧ (let s := shop.onPort (.s 2) fun x => { x with replyLane := List.replicate 8 ⟨0x82, 0, [0]⟩ }
         Hunting s (.s 2) ∧ 8 ≤ (s.port (.s 2)).replyLane.length)
      ∧ kindInTable 0x1F = false ∧ kindInTable 0xFF = false ∧ hubKind 0x70 = true ∧ hubKind 0x81 = true
      ∧ (0x60 : Byte) = ReportKind.sample.code ∧ ([0, 0] : List Byte).length ≠ ReportKind.sample.length
      ∧ rawCountOk (-8388608) = true ∧ rawCountOk 8388607 = true ∧ 16777215 < 16777216
      ∧ (0 : BitVec 16) ≠ checkOf (checkedBytes 0x60 1 [0, 0, 1])
      ∧ ∀ b ∈ checkedBytes 0x60 1 [0, 0, 1] ++ be 2 (0 : BitVec 16).toNat, b ≠ syncByte := by
  unfold Hunting
  decide +kernel

theorem witness_SearchFindsWholeFrames : (List.replicate 240 (0xA5 : Byte)).length ≤ 240 := by decide +kernel

theorem witness_CharactersAndGap :
    (shop.resetLow = false ∧ (shop.port .b).hunter = none ∧ (shop.port .b).gap = none ∧ (0x5A : Byte) ≠ 0xA5)
      ∧ (let s := shop.onPort .b fun x => { x with hunter := some [0x3A, 1], gap := some 5 }
         (s.port .b).hunter = some [0x3A, 1] ∧ examine ([0x3A, 1] ++ [0]) = .incomplete ∧ (s.port .b).gap ≠ none
          ∧ (∀ b ∈ ([0x3A, 1] : List Byte), b ≠ 0xA5))
      ∧ checkedBytes 0x31 0x32 [] ++ be 2 (checkOf (checkedBytes 0x31 0x32 [])).toNat
        = [0x31, 0x32, 0] ++ (be 2 (checkOf (checkedBytes 0x31 0x32 [])).toNat).take 1
          ++ [BitVec.ofNat 8 (checkOf (checkedBytes 0x31 0x32 [])).toNat] := by decide +kernel

theorem witness_FrameSentRotatesLanes :
    let f : TxFrame := ⟨0x72, 0, [0, 20, 1, 1, 1]⟩
    let x : LinkPort := { emptyPort with replyLane := [f], labelLane := [f], stateLane := [f] }
    (∀ p ∈ [Port.s 2, .b, .v, .q], let s := shop.onPort p fun x => { x with sending := some f }
      s.resetLow = false ∧ (s.port p).sending = some f)
      ∧ (∀ l ∈ [Lane.reply, .label, .state], ({ x with turn := l } : LinkPort).sending = none)
      ∧ (emptyPort.replyLane = [] ∧ emptyPort.labelLane = [] ∧ emptyPort.stateLane = []) := by decide

theorem witness_WeightsAreRoundedAndPushed :
    0 < cal3.s ∧ 0 < cal3.e1 ∧ 0 < cal3.e2 ∧ loaded.newest = some ⟨437405, 436655, 436655⟩ ∧ loaded.state ≠ .noCal := by
  decide

theorem witness_OtherSamplesAreTaken :
    shop.resetLow = false ∧ shop.link 0 = .absent ∧ (shop.link 7 = .enrolled ∧ (shop.calibration 7).isSet = false)
      ∧ inService.resetLow = false ∧ inService.link 2 = .service ∧ inService.lock.session = .opened 2 cal3 none := by
  decide

theorem witness_SampleIsWeighed :
    shop.resetLow = false ∧ shop.link 2 = .enrolled ∧ (shop.calibration 2).isSet = true := by decide

theorem witness_ZeroAndTareAnswered :
    Waits (queued shop (.s 2) .zero []) (.s 2) .zero 7 [] []
      ∧ Waits (queued shop (.s 2) .tareKey []) (.s 2) .tareKey 7 [] []
      ∧ Waits (queued shop (.s 2) .tareSet [0, 13]) (.s 2) .tareSet 7 [0, 13] []
      ∧ Waits (queued shop (.s 2) .tareClear []) (.s 2) .tareClear 7 [] [] :=
  have h := ready_shop.2.1
  ⟨waits_queued h, waits_queued h, waits_queued h, waits_queued h⟩

theorem articles_ok : articles.Ok := by
  unfold PluTable.Ok PluTable.EntryOk
  decide +kernel

theorem witness_PluTableReadsBack :
    articles.Ok ∧ cheese.fields.valid = true ∧ (articles.place cheese).isSome = true ∧ 99999 ≤ 99999
      ∧ (({ articles with pool := articles.pool.each fun _ => some (Table.fill 32 (some cheese)) } : PluTable).place
        { cheese with fields := { cheese.fields with number := 99999 } }) = none :=
  ⟨articles_ok, by decide, by decide +kernel, le_rfl, by decide +kernel⟩

theorem witness_PluWriteAndRemoveAnswered :
    Waits (queued shut .b .pluWrite cheese.fields.bytes) .b .pluWrite 7 cheese.fields.bytes []
      ∧ Waits (queued shut .b .pluRemove [0, 12, 228]) .b .pluRemove 7 [0, 12, 228] [] :=
  ⟨waits_queued (by decide), waits_queued (by decide)⟩

theorem witness_PluWipeAndReadAnswered :
    (Waits (queued shut .b .pluWipe []) .b .pluWipe 7 [] [] ∧ (queued shut .b .pluWipe []).plu.Ok
        ∧ (shut.counter.state ≠ .opened ∧ shut.counter.state ≠ .draining)
        ∧ (queued shut .b .pluWipe []).openOrderCount = 0 ∧ shut.pricing.generation ≠ 4294967295)
      ∧ (Waits (queued shop .b .pluWipe []) .b .pluWipe 7 [] [] ∧ shop.counter.state = .opened)
      ∧ (let s : State := { shut with pricing := { shut.pricing with generation := 4294967295 } }
         Waits (queued s .b .pluWipe []) .b .pluWipe 7 [] [] ∧ s.counter.state = .closed
          ∧ s.pricing.generation = 4294967295 ∧ (s.plu.records.any fun r => r.state == .active) = true)
      ∧ Waits (queued shut .b .pluRead [0, 4, 210, 0]) .b .pluRead 7 [0, 4, 210, 0] [] :=
  ⟨⟨waits_queued (by decide), articles_ok, by decide, by decide, by decide⟩,
    ⟨waits_queued (by decide), by decide⟩, ⟨waits_queued (by decide), by decide, rfl, by decide⟩,
    waits_queued (by decide)⟩

theorem witness_PriceIsRoundedOnceToStep :
    0 < defaultPrices.step ∧ defaultPrices.rounding = .nearest
      ∧ ({ defaultPrices with rounding := .down } : PriceSettings).rounding = .down
      ∧ ({ defaultPrices with rounding := .up } : PriceSettings).rounding = .up ∧ 1000 * 5 = 5 * 1 * 1000 := by decide

theorem witness_SalePricedInOrder : defaultPrices.windowStart = defaultPrices.windowEnd := by decide

theorem witness_QuoteAnswered :
    Waits (queued shop (.s 2) .quote (encodeQuote 1234 none)) (.s 2) .quote 7 (encodeQuote 1234 none) [] :=
  waits_queued ready_shop.2.1

theorem witness_BatchRequestsAnswered :
    Waits (queued shop .b .batchAdd (be 1 2 ++ be 3 1234)) .b .batchAdd 7 (be 1 2 ++ be 3 1234) []
      ∧ Waits (queued armed .b .batchClear []) .b .batchClear 7 [] []
      ∧ Waits (queued armed .b .batchStatus []) .b .batchStatus 7 [] []
      ∧ Waits (queued armed .b .batchCommit [5, 159]) .b .batchCommit 7 [5, 159] [] :=
  ⟨waits_queued (by decide), waits_queued (by decide), waits_queued (by decide), waits_queued (by decide)⟩

theorem witness_ActivationAppliesBatch :
    (let t : DateTime := ⟨⟨2031, 2, 26⟩, 18, 43, 10⟩
     let s : State := { armed with counter := { armed.counter with clock := t } }
     s.resetLow = false ∧ s.pricing.batch = .armed ∧ s.pricing.instant = some t ∧ t.seconds ≤ s.counter.clock.seconds)
      ∧ shop.pricing.batch ≠ .armed
      ∧ ((⟨⟨2031, 2, 26⟩, 18, 43, 10⟩ : DateTime).seconds > armed.counter.clock.seconds) := by decide

/-! ### Orders -/

theorem orders_shop : shop.OrdersOk := by unfold State.OrdersOk Order.Ok; decide +kernel
theorem orders_shut : shut.OrdersOk := by unfold State.OrdersOk Order.Ok; decide +kernel
theorem orders_inService : inService.OrdersOk := by unfold State.OrdersOk Order.Ok; decide +kernel
theorem orders_selling : selling.OrdersOk := by unfold State.OrdersOk Order.Ok; decide +kernel
theorem orders_printing : printing.OrdersOk := by unfold State.OrdersOk Order.Ok; decide +kernel

/-- A request in a FIFO is nothing to the order manager's laws. -/
theorem orders_queued {s : State} {p : Port} {k : RequestKind} {payload : List Byte} (h : s.OrdersOk) :
    (queued s p k payload).OrdersOk := h

theorem witness_ClerkOnAnswered :
    (Waits (queued shop (.s 0) .clerkOn [7, 17, 65]) (.s 0) .clerkOn 7 [7, 17, 65] []
        ∧ (queued shop (.s 0) .clerkOn [7, 17, 65]).OrdersOk ∧ shop.link 0 = .absent)
      ∧ (inService.OrdersOk ∧ inService.link 2 = .service)
      ∧ (shop.link 2 = .enrolled ∧ decodeClerkOn [33, 0, 0] = none ∧ decodeClerkOn [0, 0, 0] = none)
      ∧ decodeClerkOn [7, 17, 65] = some (6, 4417) ∧ decodeClerkOn [32, 39, 15] = some (31, 9999)
      ∧ ((shop.clerk 31).enabled = false ∧ (shop.clerk 6).enabled = true ∧ (shop.clerk 6).code = 4417)
      ∧ (∃ d o, d ≠ (11 : ClerkNo) ∧ selling.order d = some o ∧ o.holder = some 2)
      ∧ (∃ m o, (printing.clerk 6).bound = some m ∧ m ≠ 7 ∧ printing.order 6 = some o ∧ o.holder = some m
        ∧ o.labelInFlight = true) :=
  ⟨⟨waits_queued ready_shop.1, orders_queued orders_shop, by decide⟩, ⟨orders_inService, by decide⟩,
    ⟨by decide, by decide, by decide⟩, by decide, by decide, by decide,
    ⟨6, order418 [item1], by decide, by decide, by decide⟩,
    ⟨2, order418 [item1, item2], by decide, by decide, by decide, by decide, by decide⟩⟩

theorem witness_ClerkOffAnswered :
    Waits (queued selling (.s 2) .clerkOff []) (.s 2) .clerkOff 7 [] [] ∧ selling.OrdersOk
      ∧ selling.link 2 = .enrolled ∧ (selling.clerk 6).bound = some 2 ∧ (∀ c, (shop.clerk c).bound ≠ some 2)
      ∧ ∃ o, printing.order 6 = some o ∧ o.holder = some 2 ∧ o.labelInFlight = true :=
  ⟨waits_queued (by decide), orders_selling, by decide, by decide, by decide,
    ⟨order418 [item1, item2], by decide, by decide, by decide⟩⟩

theorem witness_ClerkWriteAndReadAnswered :
    let s := manned
    (Waits (queued s .b .clerkWrite [7, 17, 65, 0]) .b .clerkWrite 7 [7, 17, 65, 0] []
        ∧ s.counter.state = .opened ∧ shut.counter.state ≠ .opened ∧ shut.counter.state ≠ .draining)
      ∧ decodeClerkWrite [7, 17, 65, 2] = none ∧ decodeClerkWrite [7, 17, 65, 0] = some (6, 4417, false)
      ∧ (shut.clerk 6).bound = none ∧ ((s.clerk 6).bound ≠ none ∧ s.order 6 = none ∧ s.serving 6 = none)
      ∧ Waits (queued s .b .clerkRead [7]) .b .clerkRead 7 [7] [] :=
  ⟨⟨waits_queued (by decide), by decide, by decide, by decide⟩, by decide, by decide, by decide, by decide,
    waits_queued (by decide)⟩

theorem witness_OrderNumberIsNextFree : selling.OrdersOk ∧ selling.openOrderCount ≤ 31 :=
  ⟨orders_selling, by decide⟩

theorem witness_LabelAnswered :
    Waits (queued manned (.s 2) .label (encodeSale ⟨1234, none, 812⟩)) (.s 2) .label 7 (encodeSale ⟨1234, none, 812⟩) [] :=
  waits_queued (by decide)

theorem witness_AddItemAnswered :
    Waits (queued manned (.s 2) .addItem (encodeSale ⟨3300, some 99, 812⟩)) (.s 2) .addItem 7
      (encodeSale ⟨3300, some 99, 812⟩) [] := waits_queued (by decide)

theorem witness_VoidAndParkAnswered :
    Waits (queued selling (.s 2) .voidItem [1]) (.s 2) .voidItem 7 [1] []
      ∧ Waits (queued selling (.s 2) .parkOrder []) (.s 2) .parkOrder 7 [] [] :=
  ⟨waits_queued (by decide), waits_queued (by decide)⟩

theorem witness_ClaimOrderAnswered :
    (Waits (queued selling (.s 7) .claimOrder (encodeClaim 6 (some 2) 2)) (.s 7) .claimOrder 7
        (encodeClaim 6 (some 2) 2) [] ∧ selling.OrdersOk ∧ selling.link 7 = .enrolled)
      ∧ selling.link 0 = .absent ∧ inService.link 2 = .service ∧ decodeClaim [33, 0, 0, 0, 0] = none
      ∧ decodeClaim (encodeClaim 6 (some 2) 2) = some (6, some 2, 2) ∧ selling.order 11 = none
      ∧ (selling.order 6 = some (order418 [item1]) ∧ (order418 [item1]).holder = some 2
        ∧ (order418 [item1]).revision = 2 ∧ (order418 [item1]).labelInFlight = false)
      ∧ (order418 [item1, item2]).labelInFlight = true
      ∧ (∃ d u, d ≠ (11 : ClerkNo) ∧ selling.order d = some u ∧ u.holder = some 2)
      ∧ ¬∃ d u, d ≠ (6 : ClerkNo) ∧ selling.order d = some u ∧ u.holder = some 7 := by
  refine ⟨⟨waits_queued (by decide), orders_selling, by decide⟩, by decide, by decide, by decide, by decide, by decide,
    by decide, by decide, ⟨6, order418 [item1], by decide, by decide, by decide⟩, ?_⟩
  rintro ⟨d, u, hd, hu, -⟩
  have h : ∀ d : ClerkNo, d ≠ 6 → selling.order d = none := by decide
  rw [h d hd] at hu
  cases hu

theorem witness_CloseOrderAnswered : Waits (queued selling (.s 2) .closeOrder []) (.s 2) .closeOrder 7 [] [] :=
  waits_queued (by decide)

theorem witness_LabelFiguresAndParts :
    (99 < 100 ∧ 99999 < 100000 ∧ (99999 < 100000 ∧ 99999 ≤ 99999)) ∧ (⟨2099, 12, 31⟩ : Date).valid = true
      ∧ (∀ ds, label2.code = some ds → ds.length = 13) ∧ (∃ b, label2.body = .item b ∧ b.description.length ≤ 24)
      ∧ (∃ b, (totalRecord selling 2 6 (order418 [item1]) 5121).body = .total b) := by
  refine ⟨by decide, by decide, ?_, ⟨_, rfl, by decide⟩, ⟨_, rfl⟩⟩
  intro ds h
  have hc : label2.code = some [2, 1, 0, 3, 3, 0, 0, 0, 1, 3, 5, 0, 8] := by decide
  rw [hc] at h
  cases h
  rfl

theorem witness_ReprintAnswered : Waits (queued selling (.s 2) .reprint []) (.s 2) .reprint 7 [] [] :=
  waits_queued (by decide)

theorem witness_PrintDoneEndsLabel :
    (printing.resetLow = false ∧ (printing.printer 2).slot = some ⟨label2, some 10000⟩ ∧ label2.number = 5121
        ∧ label2.kind = .item ∧ (∃ b, label2.body = .item b) ∧ printing.order label2.clerk = some (order418 [item1, item2]))
      ∧ (∀ x, (selling.printer 2).slot = some x → x.record.number ≠ 5121)
      ∧ ((closing.printer 2).slot.map (fun x => (x.record.kind, x.record.number)) = some (.total, 5121)
        ∧ (closing.order 6).isSome = true)
      ∧ (reprintRecord label2 5122).kind = .reprint := by
  refine ⟨⟨by decide, by decide, by decide, by decide, ⟨_, rfl⟩, by decide⟩, ?_, by decide, by decide⟩
  intro x h
  have : (selling.printer 2).slot = none := by decide
  rw [this] at h
  cases h

theorem witness_FailedLabelIsUndone :
    printing.resetLow = false ∧ (printing.printer 2).slot = some ⟨label2, some 10000⟩
      ∧ (⟨label2, some 10000⟩ : PrintSlot).deadline ≠ none ∧ (⟨label2, none⟩ : PrintSlot).deadline = none
      ∧ 5120 ≠ label2.number ∧ selling.resetLow = false ∧ (selling.printer 2).slot = none := by decide

theorem witness_TakeAndRollAnswered :
    Waits (queued queueing .q .take []) .q .take 7 [] [] ∧ Waits (queued queueing .q .rollLoaded []) .q .rollLoaded 7 [] [] :=
  ⟨waits_queued (by decide), waits_queued (by decide)⟩

theorem witness_CallsAnswered :
    Waits (queued queueing (.s 7) .callNext []) (.s 7) .callNext 7 [] []
      ∧ Waits (queued queueing (.s 7) .recall []) (.s 7) .recall 7 [] []
      ∧ Waits (queued queueing (.s 7) .recallMissed [88]) (.s 7) .recallMissed 7 [88] [] :=
  ⟨waits_queued (by decide), waits_queued (by decide), waits_queued (by decide)⟩

theorem witness_OrderCloseAccumulates :
    closing.plu.Ok ∧ ∀ i ∈ (order418 [item1]).items, i.plu ≤ 99999 ∧ (closing.plu.find i.plu).isSome = true :=
  ⟨articles_ok, by decide⟩

theorem witness_TotalsReadsAnswered :
    Waits (queued shop .b .totalsRead [1, 32]) .b .totalsRead 7 [1, 32] []
      ∧ Waits (queued shop .b .reportRead [0, 1]) .b .reportRead 7 [0, 1] []
      ∧ Waits (queued shop .b .reportRelease []) .b .reportRelease 7 [] [] :=
  ⟨waits_queued (by decide), waits_queued (by decide), waits_queued (by decide)⟩

theorem witness_ZCloseAnswered :
    (Waits (queued shut .b .zClose []) .b .zClose 7 [] [] ∧ (queued shut .b .zClose []).plu.Ok
        ∧ shut.counter.state = .closed ∧ shut.totals.report = none ∧ (queued shut .b .zClose []).OrdersOk)
      ∧ shop.counter.state ≠ .closed
      ∧ ({ shut.totals with report := some ⟨1, []⟩ } : TotalsStore).report ≠ none :=
  ⟨⟨waits_queued (by decide), articles_ok, by decide, by decide, orders_shut⟩, by decide, by decide⟩

theorem witness_CounterOpensAndCloses :
    Waits (queued shut .b .openCounter []) .b .openCounter 7 [] []
      ∧ Waits (queued selling .b .closeCounter []) .b .closeCounter 7 [] [] :=
  ⟨waits_queued (by decide), waits_queued (by decide)⟩

theorem witness_SettingsAndStatusAnswered :
    let p := settingsBytes defaultPrices 9999 1 99
    Waits (queued shut .b .settingsWrite p) .b .settingsWrite 7 p []
      ∧ Waits (queued shut .b .settingsRead []) .b .settingsRead 7 [] []
      ∧ Waits (queued shut .b .profileWrite [12, 1, 1]) .b .profileWrite 7 [12, 1, 1] []
      ∧ Waits (queued shut .v .statusRead []) .v .statusRead 7 [] [] :=
  ⟨waits_queued (by decide), waits_queued (by decide), waits_queued (by decide), waits_queued (by decide)⟩

theorem labels_printing : printing.LabelsOk := by
  unfold State.LabelsOk
  constructor
  · have h : ∀ n : StationNo, n ≠ 2 → (printing.printer n).slot = none := by decide
    intro n x hx
    by_cases hn : n = 2
    · subst hn
      have h2 : (printing.printer 2).slot = some ⟨label2, some 10000⟩ := by decide
      rw [h2] at hx
      cases hx
      exact ⟨by decide, order418 [item1, item2], by decide, by decide, item2, by decide, by decide, by decide, by decide,
        by decide⟩
    · rw [h n hn] at hx
      cases hx
  · have h : ∀ c : ClerkNo, c ≠ 6 → printing.order c = none := by decide
    intro c o ho
    by_cases hc : c = 6
    · subst hc
      have h6 : printing.order 6 = some (order418 [item1, item2]) := by decide
      rw [h6] at ho
      cases ho
      refine ⟨?_, fun h => absurd h (by decide)⟩
      intro i hi hp
      have : i = item1 ∨ i = item2 := by simpa [order418] using hi
      rcases this with rfl | rfl
      · exact absurd hp (by decide)
      · exact ⟨by decide, ⟨label2, some 10000⟩, by decide, by decide, by decide, (rfl : item2.number = item2.number)⟩
    · rw [h c hc] at ho
      cases ho

theorem witness_StationLossActsOnEveryBlock :
    printing.OrdersOk ∧ printing.LabelsOk ∧ printing.resetLow = false ∧ printing.link 2 ≠ .absent
      ∧ (printing.station 2).silence ≠ none ∧ printing.link 0 = .absent ∧ (printing.station 0).silence = none :=
  ⟨orders_printing, labels_printing, by decide, by decide, by decide, by decide, by decide⟩

theorem witness_EnrolAnswered :
    Waits (queued shop (.s 0) .enrol [1, 40, 6]) (.s 0) .enrol 7 [1, 40, 6] []
      ∧ Waits (queued shop (.s 2) .enrol [0, 60, 8]) (.s 2) .enrol 7 [0, 60, 8] [] :=
  ⟨waits_queued ready_shop.1, waits_queued ready_shop.2.1⟩

theorem witness_BeatReachesStations :
    shop.resetLow = false ∧ shop.counter.beat ≠ none
      ∧ ({ shop.counter with beat := none } : CounterController).beat = none := by decide

theorem witness_ClockMoves :
    (⟨⟨2099, 12, 31⟩, 23, 59, 59⟩ : DateTime).valid = true ∧ epoch.valid = true ∧ epoch ≠ ⟨⟨2099, 12, 31⟩, 23, 59, 59⟩
      ∧ shop.resetLow = false ∧ ({ shop with resetLow := true } : State).resetLow = true
      ∧ Waits (queued shop .b .timeSet [31, 2, 27, 0, 0, 40]) .b .timeSet 7 [31, 2, 27, 0, 0, 40] [] :=
  ⟨by decide, by decide, by decide, by decide, by decide, waits_queued (by decide)⟩

theorem witness_ServiceOpenAndKeyAnswered :
    Waits (queued shop .v .serviceOpen [12, 0xC3, 0x5A]) .v .serviceOpen 7 [12, 0xC3, 0x5A] []
      ∧ natAt [12, 0xC3, 0x5A] 1 2 = 0xC35A ∧ natAt [12, 0xC3, 0x5B] 1 2 ≠ 0xC35A
      ∧ Waits (queued synced .v .serviceKey [0x44, 0x44, 0x44, 0x44]) .v .serviceKey 7 [0x44, 0x44, 0x44, 0x44] []
      ∧ ((key4.take 2).length < 3 ∧ 3 ≤ (key4.take 3).length)
      ∧ (key4.take 3 ++ [0x44444444] = synced.lock.key ∧ key4.take 3 ++ [0] ≠ synced.lock.key)
      ∧ (synced.link 2 ≠ .absent ∧ synced.link 0 = .absent ∧ (synced.printer 2).slot = none)
      ∧ (printing.printer 2).slot ≠ none ∧ synced.lock.failures + 1 ≠ 3 ∧ 2 + 1 = 3 :=
  ⟨waits_queued (by decide), by decide, by decide, waits_queued (by decide), by decide, by decide, by decide,
    by decide, by decide, rfl⟩

theorem witness_SessionWorkAnswered :
    ([120150, 120150] : List Int) ≠ []
      ∧ (Waits (queued synced .v .calRead []) .v .calRead 7 [] [] ∧ (∃ n ws, synced.lock.session = .synced n ws)
        ∧ shop.lock.session = .idle ∧ ({ shop.lock with session := .lockedOut } : MetrologyLock).session = .lockedOut)
      ∧ inService.lock.session = .opened 2 cal3 none
      ∧ Waits (queued inService .v .calRead []) .v .calRead 7 [] []
      ∧ Waits (queued inService .v .calWrite (List.replicate 21 0)) .v .calWrite 7 (List.replicate 21 0) []
      ∧ Waits (queued inService .v .keyChange (encodeKey key4)) .v .keyChange 7 (encodeKey key4) []
      ∧ Waits (queued inService .v .captureZero []) .v .captureZero 7 [] []
      ∧ Waits (queued inService .v .captureSpan [46, 224]) .v .captureSpan 7 [46, 224] [] :=
  ⟨by decide, ⟨waits_queued (by decide), ⟨_, _, rfl⟩, by decide, by decide⟩, by decide, waits_queued (by decide),
    waits_queued (by decide), waits_queued (by decide), waits_queued (by decide), waits_queued (by decide)⟩

theorem witness_SessionEnds :
    inService.lock.session = .opened 2 cal3 none ∧ Waits (queued inService .v .serviceClose []) .v .serviceClose 7 [] []
      ∧ (cal3.checks[11]? = some true ∧ (∀ b ∈ cal3.checks, b = true))
      ∧ (({ cal3 with max2 := 30001 } : CalFields).checks[4]? = some false)
      ∧ ((inService.calibration 2).isSet = true ∧ (inService.calibration 2).fields = cal3
        ∧ (inService.calibration 2).fields ≠ { cal3 with z := 120150 })
      ∧ inService.lock.audit ≠ 4294967295 ∧ ({ inService.lock with audit := 4294967295 } : MetrologyLock).audit = 4294967295
      ∧ Waits (queued inService .v .serviceAbandon []) .v .serviceAbandon 7 [] [] ∧ inService.resetLow = false :=
  ⟨by decide, waits_queued (by decide), by decide, by decide, by decide, by decide, by decide, waits_queued (by decide),
    by decide⟩

theorem witness_NoticesAnswered :
    Waits (queued shop .b .noticeTake []) .b .noticeTake 7 [] []
      ∧ Waits (queued shop .b .noticeEnable [0x3F, 0xFF]) .b .noticeEnable 7 [0x3F, 0xFF] []
      ∧ Waits (queued shop .b .noticeDisable [0x40, 0]) .b .noticeDisable 7 [0x40, 0] []
      ∧ Waits (queued shop .b .flagsRead []) .b .flagsRead 7 [] []
      ∧ Waits (queued shop .b .flagsClear [0x80, 0]) .b .flagsClear 7 [0x80, 0] [] :=
  ⟨waits_queued (by decide), waits_queued (by decide), waits_queued (by decide), waits_queued (by decide),
    waits_queued (by decide)⟩

theorem witness_RequestFieldsReadBack :
    (40 = 40 ∨ 40 = 60) ∧ 6 ≤ 6 ∧ 8 ≤ 8 ∧ 9999 ≤ 9999 ∧ 16777215 < 16777216
      ∧ (∀ k ∈ (some 255 : Option Nat), k < 256) ∧ 65535 < 65536 ∧ cheese.fields.valid = true
      ∧ (BatchEntry.change 99999 999999 90 none).valid = true ∧ clockEnd.valid = true ∧ defaultPrices.valid = true
      ∧ queueSettingsOk 9999 1 99 = true
      ∧ (⟨some (-8388608), some 8000000, some 60000, some 1, some 30000, some 20, none⟩ : CalChanges).valid = true
      ∧ key4.length = 4 ∧ 255 < 256 ∧ RequestKind.rollLoaded ∈ [RequestKind.take, .rollLoaded] := by decide

/-! ### Laws: a trading state that meets them, from which commands step on -/

/-- The state with a label in flight, and PRINT DONE of it at the front of the queue of commands. -/
def busy : State := { printing with pending := [.printDone 2 5121] }

/-- Whatever the front command is, a step answers a next state here: the law statements are not empty. -/
theorem witness_step :
    (match step busy with
      | .next t => (t.pending, (t.printer 2).slot.isSome)
      | _ => ([.take], true)) = ([], false) := by decide

theorem busy_links : busy.LinksOk := by
  unfold State.LinksOk LinkPort.Ok StateLaneOk
  decide +kernel
theorem busy_notices : busy.NoticesOk := by unfold State.NoticesOk; decide
theorem busy_clock : busy.ClockOk := by unfold State.ClockOk; decide
theorem busy_batch : busy.BatchOk := ⟨by decide, by decide, by decide, by decide⟩
theorem busy_generation : busy.GenerationOk := by unfold State.GenerationOk; decide +kernel
theorem busy_weighing : busy.WeighingOk := by unfold State.WeighingOk WeighContext.Ok; decide +kernel
theorem busy_queue : queueing.QueueOk := by unfold State.QueueOk; decide
theorem busy_ledger : busy.LedgerOk ∧ busy.GoodsLedgerOk := by
  unfold State.LedgerOk State.GoodsLedgerOk
  decide +kernel
theorem busy_named : busy.ItemsNamed := by unfold State.ItemsNamed; decide +kernel
theorem busy_roster : busy.RosterOk := by unfold State.RosterOk; decide +kernel
theorem busy_session : busy.SessionOk :=
  ⟨by decide, by decide, by decide, by decide, by decide, by decide, trivial, by decide⟩
theorem busy_orders : busy.OrdersOk ∧ busy.LabelsOk ∧ busy.plu.Ok := ⟨orders_printing, labels_printing, articles_ok⟩

theorem busy_steps : ∃ t, step busy = .next t := by
  have h : step busy = unlessReset (busy.withPending []) fun s => (s.goodFrame (.s 2)).printDone 2 5121 := rfl
  exact ⟨_, h.trans (unlessReset_high _ (by decide))⟩

theorem witness_LinksAndNoticesAreKept : (∃ t, step busy = .next t) ∧ busy.LinksOk ∧ busy.NoticesOk :=
  ⟨busy_steps, busy_links, busy_notices⟩
theorem witness_WeighingIsKept : (∃ t, step busy = .next t) ∧ busy.WeighingOk := ⟨busy_steps, busy_weighing⟩
theorem witness_QueueNumbersStayUnique : (∃ t, step queueing = .next t) ∧ queueing.QueueOk := ⟨⟨queueing, rfl⟩, busy_queue⟩
theorem witness_OrdersAndLabelsAreKept : (∃ t, step busy = .next t) ∧ busy.OrdersOk ∧ busy.LabelsOk :=
  ⟨busy_steps, busy_orders.1, busy_orders.2.1⟩
theorem witness_TableBatchGenerationAreKept :
    (∃ t, step busy = .next t) ∧ busy.plu.Ok ∧ busy.BatchOk ∧ busy.OrdersOk ∧ busy.LabelsOk ∧ busy.GenerationOk :=
  ⟨busy_steps, busy_orders.2.2, busy_batch, busy_orders.1, busy_orders.2.1, busy_generation⟩
theorem witness_LedgerBalances : (∃ t, step busy = .next t) ∧ busy.LedgerOk := ⟨busy_steps, busy_ledger.1⟩
theorem witness_GoodsLedgerBalances :
    (∃ t, step busy = .next t) ∧ busy.OrdersOk ∧ busy.plu.Ok ∧ busy.BatchOk ∧ busy.LedgerOk ∧ busy.ItemsNamed
      ∧ busy.GoodsLedgerOk :=
  ⟨busy_steps, busy_orders.1, busy_orders.2.2, busy_batch, busy_ledger.1, busy_named, busy_ledger.2⟩
theorem witness_SessionRosterClockAreKept :
    (∃ t, step busy = .next t) ∧ busy.SessionOk ∧ busy.RosterOk ∧ busy.ClockOk :=
  ⟨busy_steps, busy_session, busy_roster, busy_clock⟩

end Sys2Proof.Tests
end

section
/-! Weighing (01): what a count, a displayed weight and a WEIGHT push come to, and O11 from them. -/

namespace Sys2Proof.Machine

@[simp] theorem be_one (x : Nat) : be 1 x = [BitVec.ofNat 8 x] := by simp [be]

/-! ## Rounded weights (R3, R5, R6) -/

theorem CalFields.mass_eq (c : CalFields) (count : Int) :
    c.mass count = clampTo 99999999 (roundHalfAway ((count - c.z) * (c.l * 1000)) c.s) := by
  simp [CalFields.mass]

theorem CalFields.interval_eq (c : CalFields) (v : Int) :
    (c.interval v : Int) = if v ≤ c.max1 * 1000 then (c.e1 : Int) else c.e2 := by
  unfold CalFields.interval
  push_cast
  split <;> rfl

theorem CalFields.interval_pos {c : CalFields} (h1 : 0 < c.e1) (h2 : 0 < c.e2) (v : Int) : 0 < c.interval v := by
  unfold CalFields.interval
  split
  · exact h1
  · exact h2

/-- A displayed weight is the multiple of its interval nearest to the value, halves away from zero (R6). -/
theorem CalFields.shown_spec {c : CalFields} {v : Int} (h : 0 < c.interval v) :
    ∃ q : Int, c.shown v = q * c.interval v
      ∧ (2 * (q * c.interval v * 1000 - v)).natAbs ≤ ((c.interval v : Int) * 1000).natAbs
      ∧ ((2 * (q * c.interval v * 1000 - v)).natAbs = ((c.interval v : Int) * 1000).natAbs →
        v.natAbs < (q * c.interval v * 1000).natAbs) := by
  have hround := roundHalfAway_spec v (c.interval v * 1000) (by omega)
  have hden : ((c.interval v : Int) * 1000).natAbs = c.interval v * 1000 := by omega
  refine ⟨roundHalfAway v (c.interval v * 1000), rfl, ?_⟩
  rw [hden, mul_assoc]
  exact_mod_cast hround

/-! ## The WEIGHT push (R4, R10, R181) -/

theorem CalFields.inRange_iff (c : CalFields) (g : Int) :
    c.inRange g = true ↔
      -((20 * c.e1 * 1000 : Nat) : Int) ≤ g ∧ g ≤ ((c.max2 + 9 * c.e2) * 1000 : Nat) := by
  rw [CalFields.inRange, Bool.and_eq_true, decide_eq_true_iff, decide_eq_true_iff]
  rfl

theorem TareOrigin.be_code (o : TareOrigin) : be 1 o.code = [if o = .key then 1 else 2] := by
  cases o <;> rfl

/-- The push of a calibrated station: the flags and weights its state and its newest result give (R10). -/
theorem weightOf_of_newest {r : CalRecord} {x : WeighContext} {v : Reading} (hv : x.newest = some v)
    (hst : x.state ≠ .noCal) :
    weightOf r x = weightPayload r.fields x.state.code (x.state == .weighing && windowStable r.fields x.window)
      (x.state != .noZero && x.zeroLimit) (if r.fields.inRange v.gross then some (v.gross, v.net) else none)
      x.tare := by
  have hnewest : ((x.newest.filter fun v => r.fields.inRange v.gross).map fun v => (v.gross, v.net))
      = if r.fields.inRange v.gross then some (v.gross, v.net) else none := by
    rw [hv, Option.filter_some]
    split <;> rfl
  rw [← hnewest]
  unfold weightOf
  split
  · contradiction
  · rfl

end Sys2Proof.Machine

open Sys2Proof Sys2Proof.Machine

/-- Settles O11: the mass and the displayed weight are `roundHalfAway` of their quotients; the push is
`weightPayload` of the context, field by field. -/
theorem weightsAreRoundedAndPushed : Obligations.WeightsAreRoundedAndPushed := by
  unfold Obligations.WeightsAreRoundedAndPushed
  refine ⟨fun c count hs => ?mass, fun c v h1 h2 => ?shown, fun r x v hv hst => ?push⟩
  case mass =>
    obtain ⟨hnear, hhalf⟩ := roundHalfAway_spec ((count - c.z) * (c.l * 1000)) c.s hs
    exact ⟨_, hnear, hhalf, c.mass_eq count⟩
  case shown =>
    rw [← c.interval_eq v]
    exact CalFields.shown_spec (CalFields.interval_pos h1 h2 v)
  case push =>
    intro c inRange stable limit
    have hrange : r.fields.inRange v.gross = true ↔ inRange := r.fields.inRange_iff v.gross
    have hstable : (x.state == .weighing && windowStable r.fields x.window) = true ↔ stable := by
      rw [Bool.and_eq_true, beq_iff_eq]
    have hlimit : (x.state != .noZero && x.zeroLimit) = true ↔ limit := by
      rw [Bool.and_eq_true, bne_iff_ne]
    rw [weightOf_of_newest hv hst]
    unfold weightPayload
    rw [List.append_assoc _ (be 2 _)]
    refine congrArg₂ _ (congrArg₂ _ ?stateAndFlags ?weights) ?tare
    case stateAndFlags =>
      have hweights : (if r.fields.inRange v.gross then some (v.gross, v.net) else none).isSome = true ↔ inRange := by
        rw [Option.isSome_ite, hrange]
      have htare : (if x.tare.isSome then 8 else 0) = if x.tare = none then 0 else 8 := by
        cases x.tare <;> rfl
      simp only [be_one, hstable, hlimit, hweights, htare]
      rfl
    case weights =>
      by_cases h : inRange
      · rw [if_pos (hrange.mpr h), if_pos h]
        simp only [be_one, c]
      · rw [if_neg (mt hrange.mp h), if_neg h]
    case tare =>
      cases x.tare with
      | none => rfl
      | some t => exact congrArg _ t.origin.be_code
end

section
/-! Pricing (03): what each rounding mode makes of an exact value, and O18 from it. -/

namespace Sys2Proof.Machine

/-! ## Rounding to the step (R46)

`roundToStep` counts in units of `den * step`: a numerator of `q` units is the price `q * step`. -/

theorem dvd_roundToStep (mode : Rounding) (step num den : Nat) : step ∣ roundToStep mode step num den := by
  cases mode <;> exact Nat.dvd_mul_left _ _

/-- DOWN: the largest multiple of the step not above the exact value. -/
theorem roundToStep_down_bounds {step den : Nat} (hunit : 0 < den * step) (num : Nat) :
    roundToStep .down step num den * den ≤ num ∧ num < (roundToStep .down step num den + step) * den := by
  have hle := Nat.mul_div_le num (den * step)
  have hlt := Nat.lt_mul_div_succ num hunit
  have hprice : roundToStep .down step num den = num / (den * step) * step := rfl
  rw [hprice]
  constructor <;> linarith

/-- UP: the smallest multiple of the step not below the exact value. -/
theorem roundToStep_up_bounds {step den : Nat} (hunit : 0 < den * step) (num : Nat) :
    num ≤ roundToStep .up step num den * den ∧ roundToStep .up step num den * den < num + step * den := by
  have hle := Nat.mul_div_le (num + (den * step - 1)) (den * step)
  have hlt := Nat.lt_mul_div_succ (num + (den * step - 1)) hunit
  have hpred : den * step - 1 + 1 = den * step := Nat.sub_add_cancel hunit
  have hprice : roundToStep .up step num den = (num + (den * step - 1)) / (den * step) * step := rfl
  rw [hprice]
  constructor <;> linarith

/-- NEAREST: the nearest multiple of the step, a value midway going to the larger. -/
theorem roundToStep_nearest_bounds {step den : Nat} (hunit : 0 < den * step) (num : Nat) :
    2 * roundToStep .nearest step num den * den ≤ 2 * num + step * den
      ∧ 2 * num < (2 * roundToStep .nearest step num den + step) * den := by
  obtain ⟨hlt, hle⟩ := roundHalfUp_spec num (den * step) hunit
  have hprice : roundToStep .nearest step num den = roundHalfUp num (den * step) * step := rfl
  rw [hprice]
  constructor <;> linarith

/-- In every mode the rounded price lies less than one step from the exact value. -/
theorem roundToStep_within_step (mode : Rounding) {step den : Nat} (hunit : 0 < den * step) (num : Nat) :
    roundToStep mode step num den * den < num + step * den
      ∧ num < (roundToStep mode step num den + step) * den := by
  cases mode with
  | nearest =>
    obtain ⟨hle, hlt⟩ := roundToStep_nearest_bounds hunit num
    constructor <;> linarith
  | down =>
    obtain ⟨hle, hlt⟩ := roundToStep_down_bounds hunit num
    exact ⟨by linarith, hlt⟩
  | up =>
    obtain ⟨hle, hlt⟩ := roundToStep_up_bounds hunit num
    exact ⟨hlt, by linarith⟩

/-- A multiple of the step is its own result in every mode: no other multiple lies within a step of it. -/
theorem roundToStep_of_multiple (mode : Rounding) {step den : Nat} (hunit : 0 < den * step) (k : Nat) :
    roundToStep mode step (k * step * den) den = k * step := by
  obtain ⟨hbelow, habove⟩ := roundToStep_within_step mode hunit (k * step * den)
  obtain ⟨q, hq⟩ := dvd_roundToStep mode step (k * step * den) den
  rw [hq] at hbelow habove ⊢
  have hqk : q < k + 1 := Nat.lt_of_mul_lt_mul_left (a := den * step) (by linarith)
  have hkq : k < q + 1 := Nat.lt_of_mul_lt_mul_left (a := den * step) (by linarith)
  rw [show q = k by omega, Nat.mul_comm]

/-! ## The item price (R45, R46) -/

theorem priceDivisor_pos (kind : ProductKind) : 0 < priceDivisor kind := by
  cases kind <;> decide

end Sys2Proof.Machine

open Sys2Proof Sys2Proof.Machine

/-- Settles O18: the price is `roundToStep` of the exact fraction, whose bounds in each mode and whose value at a
multiple of the step are the clauses. -/
theorem priceIsRoundedOnceToStep : Obligations.PriceIsRoundedOnceToStep := by
  unfold Obligations.PriceIsRoundedOnceToStep
  intro p kind amount up hstep den num price
  have hden : den = priceDivisor kind := by cases kind <;> rfl
  have hunit : 0 < den * p.step := Nat.mul_pos (hden ▸ priceDivisor_pos kind) hstep
  have hprice : price = roundToStep p.rounding p.step num den := by rw [hden]; rfl
  rw [hprice]
  refine ⟨dvd_roundToStep .., fun hmode => ?down, fun hmode => ?up, fun hmode => ?nearest, fun k hk => ?multiple⟩
  case down =>
    rw [hmode]
    exact roundToStep_down_bounds hunit num
  case up =>
    rw [hmode]
    exact roundToStep_up_bounds hunit num
  case nearest =>
    rw [hmode]
    exact roundToStep_nearest_bounds hunit num
  case multiple =>
    rw [hk]
    exact roundToStep_of_multiple p.rounding hunit k
end

section
/-! Clerks and orders (04): what taking a request leaves readable, how an order is changed and summarised, what
signing a clerk off comes to, and O24 and O29 from them. -/

namespace Sys2Proof.Machine

/-! ## Reading the freed state, and the first tests -/

/-- A request that waits is answered with what its action comes to on the freed state. -/
theorem answer_eq_replied {s : State} {p : Port} {k : RequestKind} {tag : Byte} {payload : List Byte}
    {rest : List Request} {act : List Byte → State → Answer} {a : Answer} (h : Waits s p k tag payload rest)
    (ha : act payload (s.freed p rest) = a) : answer p k act s = .next (replied p k tag a) :=
  ha ▸ answer_of_waits act h

/-- Freeing a FIFO place moves no binding. -/
@[simp] theorem State.freed_boundClerk (s : State) (p : Port) (rest : List Request) (n : StationNo) :
    (s.freed p rest).boundClerk n = s.boundClerk n := rfl

/-- The tests of a station's link state come first, whatever tests follow them. -/
theorem firstOf_linkTests_append (s : State) (n : StationNo) (ts : List (Bool × ResultCode)) :
    firstOf (linkTests s n ++ ts) =
      if s.link n = .absent then some .noStation
      else if s.link n = .service then some .inService
      else firstOf ts := by
  simp [linkTests]

theorem firstOf_linkTests (s : State) (n : StationNo) :
    firstOf (linkTests s n) =
      if s.link n = .absent then some .noStation else if s.link n = .service then some .inService else none := by
  simpa using firstOf_linkTests_append s n []

/-! ## Changing and summarising a clerk's order (R71) -/

@[simp] theorem State.setOrder_order_self (s : State) (c : ClerkNo) : s.setOrder c (s.order c) = s := by
  unfold State.setOrder State.order
  rw [Table.put_get]

theorem State.onOrder_of_some {s : State} {c : ClerkNo} {o : Order} (h : s.order c = some o) (f : Order → Order) :
    s.onOrder c f = s.setOrder c (some (f o)) := by
  rw [State.onOrder, h, Option.map_some]

/-- An open order changed, and answered with its summary: both are of the order as changed. -/
theorem onOrder_answer {s : State} {c : ClerkNo} {o : Order} (h : s.order c = some o) (f : Order → Order) :
    (s.onOrder c f, okReply (summaryOpen (s.onOrder c f) c)) =
      (s.setOrder c (some (f o)), okReply (orderSummary c (f o))) := by
  simp [State.onOrder_of_some h, summaryOpen]

theorem summaryOf_of_none {s : State} {c : ClerkNo} (h : s.order c = none) :
    summaryOf s c = List.replicate 21 0 := by
  rw [summaryOf, h]
  rfl

theorem summaryOf_of_some {s : State} {c : ClerkNo} {o : Order} (h : s.order c = some o) :
    summaryOf s c = 1 :: orderSummary c o := by
  rw [summaryOf, h]
  rfl

/-! ## VOID ITEM and PARK ORDER (R75, R76) -/

/-- Of an item that is not held, the tests of VOID ITEM find no item once the order may be touched. -/
theorem firstOf_voidTests_of_missing {o : Order} {k : Nat} (n : StationNo) (h : o.find k = none) :
    firstOf (voidTests n o k) =
      if o.holder ≠ some n then some .notHolder else if o.state = .closing then some .busy else some .noItem := by
  simp [voidTests, h]

/-- Of an item that is held, the tests of VOID ITEM pass CONFIRMED alone. -/
theorem firstOf_voidTests_of_found {o : Order} {k : Nat} {i : Item} (n : StationNo) (h : o.find k = some i) :
    firstOf (voidTests n o k) =
      if o.holder ≠ some n then some .notHolder
      else if o.state = .closing then some .busy
      else if i.state = .voided then some .noItem
      else if i.state = .pending then some .busy
      else none := by
  simp [voidTests, h]

/-! ## CLERK OFF (R66) -/

theorem clerkOffRequest_of_absent {s : State} {n : StationNo} (p : List Byte) (h : s.link n = .absent) :
    clerkOffRequest n p s = refuse s .noStation := by
  simp [clerkOffRequest, firstOf_linkTests, h]

theorem clerkOffRequest_of_service {s : State} {n : StationNo} (p : List Byte) (h : s.link n = .service) :
    clerkOffRequest n p s = refuse s .inService := by
  simp [clerkOffRequest, firstOf_linkTests, h]

theorem clerkOffRequest_of_unbound {s : State} {n : StationNo} (p : List Byte) (h : s.link n = .enrolled)
    (hb : s.boundClerk n = none) : clerkOffRequest n p s = refuse s .noClerk := by
  simp [clerkOffRequest, firstOf_linkTests, h, hb]

theorem clerkOffRequest_of_bound {s : State} {n : StationNo} {c : ClerkNo} (p : List Byte) (h : s.link n = .enrolled)
    (hb : s.boundClerk n = some c) :
    clerkOffRequest n p s =
      if s.holds n c && s.inFlight c then refuse s .orderBusy
      else (s.signOff c n, okReply (summaryOf (s.signOff c n) c)) := by
  simp [clerkOffRequest, firstOf_linkTests, h, hb]

/-- The test of CLERK OFF: the station holds the clerk's order, and a label in flight keeps it there. -/
theorem State.holds_and_inFlight_iff (s : State) (n : StationNo) (c : ClerkNo) :
    (s.holds n c && s.inFlight c) = true ↔
      ∃ o, s.order c = some o ∧ o.holder = some n ∧ o.labelInFlight = true := by
  cases h : s.order c with
  | none => simp [State.holds, h]
  | some o => simp [State.holds, State.inFlight, h]

/-- An order as a station that lets go of it leaves it: parked when the station holds it (R66, R76). -/
def Order.letGo (n : StationNo) (o : Order) : Order :=
  if o.holder = some n then { o with holder := none, revision := stepRevision o.revision } else o

theorem State.parkIfHeld_eq (s : State) (c : ClerkNo) (n : StationNo) :
    s.parkIfHeld c n = s.setOrder c ((s.order c).map (Order.letGo n)) := by
  have hself := s.setOrder_order_self c
  unfold State.parkIfHeld
  cases ho : s.order c with
  | none =>
    rw [ho] at hself
    exact hself.symm
  | some o =>
    rw [ho] at hself
    rw [Option.map_some, Order.letGo]
    by_cases hheld : o.holder = some n
    · simp only [if_pos hheld, State.park, State.onOrder_of_some ho]
    · simp only [if_neg hheld, hself]

@[simp] theorem State.releaseServing_order (s : State) (c d : ClerkNo) :
    (s.releaseServing c).order d = s.order d := by
  rw [State.releaseServing_eq]
  split
  · rfl
  · simp only
    split <;> rfl

/-- All that signing a station's clerk off does: the order let go of, the binding ended, the number released. -/
theorem State.signOff_eq {s : State} {c : ClerkNo} {n : StationNo} (h : s.boundClerk n = some c) :
    s.signOff c n =
      ((s.setOrder c ((s.order c).map (Order.letGo n))).setClerk c
        { s.clerk c with bound := none }).releaseServing c := by
  have hb : (s.setOrder c ((s.order c).map (Order.letGo n))).boundClerk n = some c := h
  rw [State.signOff, State.parkIfHeld_eq, State.unbindRelease, hb]
  rfl

/-- The order a clerk has after signing off: what letting go of it leaves. -/
theorem State.signOff_order {s : State} {c : ClerkNo} {n : StationNo} (h : s.boundClerk n = some c) :
    (s.signOff c n).order c = (s.order c).map (Order.letGo n) := by
  rw [State.signOff_eq h, State.releaseServing_order, State.setClerk_order, State.setOrder_order_same]

end Sys2Proof.Machine

open Sys2Proof Sys2Proof.Machine

/-- Settles O24: the tests are `clerkOffRequest`'s, whose bound clerk the order manager's law makes the one found; past
them the state is `signOff`'s, and the reply the summary of the order let go of. -/
theorem clerkOffAnswered : Obligations.ClerkOffAnswered := by
  unfold Obligations.ClerkOffAnswered
  intro s n tag payload rest hwaits hok s1 done
  obtain ⟨-, hunique, -⟩ := hok
  have hdone {a : Answer} (h : clerkOffRequest n payload s1 = a) : done a :=
    answer_eq_replied hwaits h
  refine ⟨fun h => hdone (clerkOffRequest_of_absent _ h), fun h => hdone (clerkOffRequest_of_service _ h),
    fun h hnone => hdone (clerkOffRequest_of_unbound _ h (s.boundClerk_eq_none.mpr hnone)), fun c h hbound => ?bound⟩
  have hfound : s1.boundClerk n = some c := (s.boundClerk_eq_some hunique).mpr hbound
  intro busy
  have htest : (s1.holds n c && s1.inFlight c) = true ↔ busy := s1.holds_and_inFlight_iff n c
  have hanswer := clerkOffRequest_of_bound (s := s1) payload h hfound
  refine ⟨fun hbusy => ?refused, fun hfree => ?signedOff⟩
  case refused =>
    exact hdone (hanswer.trans (if_pos (htest.mpr hbusy)))
  case signedOff =>
    intro parked u v t
    have hstate : s1.signOff c n = t := (State.signOff_eq hfound).trans (State.releaseServing_eq _ c)
    have horder : t.order c = parked := hstate ▸ State.signOff_order hfound
    refine hdone (hanswer.trans ((if_neg (mt htest.mp hfree)).trans ?_))
    rw [hstate]
    cases hp : parked with
    | none => rw [summaryOf_of_none (horder.trans hp)]
    | some o => rw [summaryOf_of_some (horder.trans hp)]

/-- Settles O29, test by test: past the tests each request changes the clerk's order alone, and the reply is the
summary of the order as changed. -/
theorem voidAndParkAnswered : Obligations.VoidAndParkAnswered := by
  unfold Obligations.VoidAndParkAnswered
  intro s n tag payload rest s1
  have hlink : s1.link n = s.link n := s.freed_link ..
  have hbound : s1.boundClerk n = s.boundClerk n := s.freed_boundClerk ..
  have horder (c : ClerkNo) : s1.order c = s.order c := s.freed_order ..
  refine ⟨fun hwaits => ?void, fun hwaits => ?park⟩
  case void =>
    intro k
    have hk : natAt payload 0 1 = k := rfl
    refine answer_eq_replied (act := voidItemRequest n) hwaits ?_
    change voidItemRequest n payload s1 = _
    simp only [voidItemRequest, hk]
    rw [firstOf_linkTests_append, firstOf_cons, firstOf_nil, hlink, hbound]
    simp only [beq_iff_eq]
    split_ifs with habsent hservice hzero
    · rfl
    · rfl
    · rfl
    cases s.boundClerk n with
    | none => rfl
    | some c =>
      simp only [horder]
      cases ho : s.order c with
      | none => rfl
      | some o =>
        dsimp only
        cases hi : o.items.find? fun i => i.number == k with
        | none =>
          simp only [firstOf_voidTests_of_missing n hi]
          split_ifs with hheld hclosing
          · rfl
          · rfl
          · rfl
        | some i =>
          simp only [firstOf_voidTests_of_found n hi]
          split_ifs with hheld hclosing hvoided hpending
          · rfl
          · rfl
          · rfl
          · rfl
          · exact onOrder_answer (s := s1) ho (·.setItem k .voided)
  case park =>
    refine answer_eq_replied (act := parkOrderRequest n) hwaits ?_
    change parkOrderRequest n payload s1 = _
    unfold parkOrderRequest
    rw [firstOf_linkTests, hlink, hbound]
    split_ifs with habsent hservice
    · rfl
    · rfl
    cases s.boundClerk n with
    | none => rfl
    | some c =>
      simp only [horder]
      cases ho : s.order c with
      | none => rfl
      | some o =>
        simp only [firstOf_cons, firstOf_nil, bne_iff_ne]
        split_ifs with hheld hlabel
        · rfl
        · rfl
        · exact onOrder_answer (s := s1) ho _
end

section
/-! Labels (05): what REPRINT answers on each outcome of its tests, and O33 from it. -/

namespace Sys2Proof.Machine

/-! ## REPRINT (R104) -/

theorem LabelKind.be_code (k : LabelKind) :
    be 1 k.code = [match k with | .item => 1 | .total => 2 | .reprint => 3] := by
  cases k <;> rfl

/-- Freeing a FIFO place takes no printer away. -/
@[simp] theorem State.freed_hasPrinter (s : State) (p : Port) (rest : List Request) (n : StationNo) :
    (s.freed p rest).hasPrinter n = s.hasPrinter n := rfl

theorem firstOf_reprintTests (s : State) (n : StationNo) :
    firstOf (reprintTests s n) =
      if s.link n = .absent then some .noStation
      else if s.link n = .service then some .inService
      else if s.hasPrinter n = false then some .noPrinter
      else if (s.printer n).slot ≠ none then some .printerBusy
      else if (s.printer n).last = none then some .noLabel
      else none := by
  simp only [reprintTests, firstOf_linkTests_append, firstOf_cons, firstOf_nil, State.slotBusy, Bool.not_eq_true',
    Option.isSome_iff_ne_none, Option.isNone_iff_eq_none]

theorem reprintRequest_of_test {s : State} {n : StationNo} {e : ResultCode} (p : List Byte)
    (h : firstOf (reprintTests s n) = some e) : reprintRequest n p s = refuse s e := by
  simp only [reprintRequest, h]

/-- Past the tests, the copy of the last label takes the slot, the next number and places in the label lane. -/
theorem reprintRequest_of_last {s : State} {n : StationNo} {last : LabelRecord} (p : List Byte)
    (h : firstOf (reprintTests s n) = none) (hlast : (s.printer n).last = some last) :
    reprintRequest n p s =
      ((s.setPrinter n
          ⟨some ⟨reprintRecord last (s.printer n).nextNumber, none⟩, nextLabel (s.printer n).nextNumber,
            some last⟩).onPort (.s n)
          fun x => { x with labelLane := x.labelLane ++ (reprintRecord last (s.printer n).nextNumber).parts },
        okReply (be 3 (s.printer n).nextNumber ++ be 3 last.number ++ be 1 last.kind.code)) := by
  simp only [reprintRequest, h, hlast, State.compose_eq]

end Sys2Proof.Machine

open Sys2Proof Sys2Proof.Machine

/-- Settles O33: each test that applies refuses; past them all there is a last label, and composing its copy moves the
slot, the number and the label lane alone. -/
theorem reprintAnswered : Obligations.ReprintAnswered := by
  unfold Obligations.ReprintAnswered
  intro s n tag payload rest hwaits s1
  refine answer_eq_replied (act := reprintRequest n) hwaits ?_
  change reprintRequest n payload s1 = _
  have hlink : s1.link n = s.link n := s.freed_link ..
  have hhas : s1.hasPrinter n = s.hasPrinter n := s.freed_hasPrinter ..
  have hprinter : s1.printer n = s.printer n := s.freed_printer ..
  have htests := firstOf_reprintTests s1 n
  rw [hlink, hhas, hprinter] at htests
  split_ifs at htests ⊢ with habsent hservice hnone hbusy hlabel
  · exact reprintRequest_of_test payload htests
  · exact reprintRequest_of_test payload htests
  · exact reprintRequest_of_test payload htests
  · exact reprintRequest_of_test payload htests
  · rw [hlabel]
    exact reprintRequest_of_test payload htests
  · obtain ⟨last, hlast⟩ := Option.ne_none_iff_exists'.mp hlabel
    rw [reprintRequest_of_last payload htests (hprinter ▸ hlast), hprinter, hlast, LabelKind.be_code]
    rfl
end

section
/-! The service queue (06): the numbers in use, the notices a count raises, what a release, a call and a DISPLAY push
leave, and O36 and O37 from them. -/

namespace Sys2Proof.Machine

/-! ## Issuing tickets and the roll (R109 to R111) -/

/-- The test for a number in use finds the waiting, serving and missed numbers, and no other (R109). -/
theorem QueueUnit.inUse_iff (q : QueueUnit) (k : Nat) : q.inUse k = true ↔ k ∈ q.numbers := by
  have hserved : (q.serving.rows.any fun r => (r.map (·.number)) == some k) = true ↔
      k ∈ (q.serving.rows.filterMap id).map (·.number) := by
    simp
  simp only [QueueUnit.inUse, QueueUnit.numbers, Bool.or_eq_true, List.mem_append, hserved]
  simp

theorem State.raiseIf_decide (s : State) (p : Prop) [Decidable p] (c : NoticeClass) :
    s.raiseIf (decide p) c = if p then s.raise c {} else s := by
  simp [State.raiseIf]

theorem State.raiseIf_beq (s : State) (x y : Nat) (c : NoticeClass) :
    s.raiseIf (x == y) c = if x = y then s.raise c {} else s := s.raiseIf_decide (x = y) c

/-! ## What a release leaves unchanged (R112) -/

/-- A release changes the serving records and the missed list, and nothing else. -/
theorem State.releaseServing_frame (s : State) (c : ClerkNo) :
    { s.releaseServing c with
      queue :=
        { (s.releaseServing c).queue with serving := s.queue.serving, missed := s.queue.missed } } = s := by
  rw [State.releaseServing_eq]
  cases s.serving c with
  | none => rfl
  | some r => cases h : r.hadGoods <;> simp only [h] <;> rfl

@[simp] theorem State.releaseServing_waiting (s : State) (c : ClerkNo) :
    (s.releaseServing c).queue.waiting = s.queue.waiting := congrArg (·.queue.waiting) (s.releaseServing_frame c)

@[simp] theorem State.releaseServing_totals (s : State) (c : ClerkNo) :
    (s.releaseServing c).totals = s.totals := congrArg (·.totals) (s.releaseServing_frame c)

@[simp] theorem State.releaseServing_clock (s : State) (c : ClerkNo) :
    (s.releaseServing c).clock = s.clock := congrArg (·.clock) (s.releaseServing_frame c)

/-! ## DISPLAY pushes, and the tests of the calls (R113, R117, R122) -/

/-- All that a DISPLAY push does: its frame is the newest of port Q's display lane, which keeps the newest 16. -/
theorem State.display_eq (s : State) (action k : Nat) (n : StationNo) :
    s.display action k n =
      s.onPort .q fun x =>
        { x with
          labelLane :=
            (x.labelLane
              ++ [(⟨0x73, 0, [BitVec.ofNat 8 action, BitVec.ofNat 8 k, BitVec.ofNat 8 (n.val + 1)]⟩ : TxFrame)]).drop
              (x.labelLane.length + 1 - 16) } := by
  simp only [State.display, be_one]
  rfl

/-- The range test of RECALL MISSED refuses what is no ticket's number (R107, R117). -/
theorem notTicket_iff (k : Nat) :
    (!(decide (1 ≤ k) && decide (k ≤ Config.lastTicket))) = true ↔ k = 0 ∨ 99 < k := by
  have hlast : Config.lastTicket = 99 := rfl
  rw [hlast, Bool.not_eq_true', Bool.and_eq_false_iff, decide_eq_false_iff_not, decide_eq_false_iff_not]
  omega

/-- Of a station with a clerk bound, the last tests of CALL NEXT and RECALL MISSED pass the OPEN counter alone. -/
theorem firstOf_callTests_of_bound (s : State) (c : ClerkNo) :
    firstOf [((some c).isNone, .noClerk), queueClosedTest s] =
      if s.counter.state ≠ .opened then some .queueClosed else none := by
  simp [queueClosedTest]

/-- All that a call after a release does: the oldest ticket leaves the queue for the clerk's serving record, the call
and its wait are counted, and the DISPLAY push is handed over (R114, R115). -/
theorem State.callTicket_releaseServing (s : State) (c : ClerkNo) (n : StationNo) (t : Ticket) (rest : List Ticket) :
    (s.releaseServing c).callTicket c n t rest =
      ((({ s.releaseServing c with
        queue := { (s.releaseServing c).queue with waiting := rest }
        totals :=
          { s.totals with
            counter :=
              { s.totals.counter with
                queueCalls := addCount s.totals.counter.queueCalls 1
                waitSum := addCount s.totals.counter.waitSum (waitOf t.issued s.clock) } } } : State).setServing c
          (some ⟨t.number, t.issued, s.clock, false⟩)).display 1 t.number n) := by
  rw [← s.releaseServing_totals c, ← s.releaseServing_clock c]
  rfl

end Sys2Proof.Machine

open Sys2Proof Sys2Proof.Machine

/-- Settles O36: TAKE's tests in order, its use of numbers read as membership, and each notice raised exactly at its
count. -/
theorem takeAndRollAnswered : Obligations.TakeAndRollAnswered := by
  unfold Obligations.TakeAndRollAnswered
  intro s tag payload rest s1 q
  refine ⟨fun hwaits => ?take, fun hwaits => ?roll⟩
  case take =>
    refine answer_eq_replied (act := takeTicketRequest) hwaits ?_
    change takeTicketRequest payload s1 = _
    unfold takeTicketRequest
    refine if_congr Iff.rfl rfl (if_congr Iff.rfl rfl (if_congr (q.inUse_iff _) ?blocked ?issued))
    case blocked => rfl
    case issued =>
      simp only [State.issueTicket, State.raiseIf_beq]
      rfl
  case roll =>
    refine answer_eq_replied (act := rollLoadedRequest) hwaits ?_
    change rollLoadedRequest payload s1 = _
    unfold rollLoadedRequest
    rw [State.raiseIf_decide]
    rfl

/-- Settles O37, request by request and test by test: the release is `releaseServing`'s, whose frame leaves the waiting
queue, the totals and the clock to the call that follows it. -/
theorem callsAnswered : Obligations.CallsAnswered := by
  unfold Obligations.CallsAnswered
  intro s n tag payload rest s1 released display
  have hlink : s1.link n = s.link n := s.freed_link ..
  have hbound : s1.boundClerk n = s.boundClerk n := s.freed_boundClerk ..
  have hcounter : s1.counter = s.counter := s.freed_counter ..
  have hqueue : s1.queue = s.queue := s.freed_queue ..
  have hserving (c : ClerkNo) : s1.serving c = s.serving c := s.freed_serving ..
  have hdisplay (t : State) (action k : Nat) : t.display action k n = display t action k := t.display_eq action k n
  refine ⟨fun hwaits => ?callNext, fun hwaits => ?recallServed, fun hwaits => ?recallMissed⟩
  case callNext =>
    refine answer_eq_replied (act := callNextRequest n) hwaits ?_
    change callNextRequest n payload s1 = _
    unfold callNextRequest
    rw [firstOf_linkTests_append, hlink, hbound]
    cases s.link n with
    | absent => rfl
    | service => rfl
    | enrolled =>
      simp only [reduceCtorEq, if_false]
      cases s.boundClerk n with
      | none => rfl
      | some c =>
        rw [firstOf_callTests_of_bound, hcounter]
        split_ifs with hstate
        · rfl
        · have hreleased : s1.releaseServing c = released s1 c := s1.releaseServing_eq c
          simp only [State.releaseServing_waiting, hqueue]
          cases s.queue.waiting with
          | nil => rw [hreleased]; rfl
          | cons t ts =>
            simp only [State.callTicket_releaseServing, hdisplay]
            rw [hreleased]
            rfl
  case recallServed =>
    refine answer_eq_replied (act := recallRequest n) hwaits ?_
    change recallRequest n payload s1 = _
    unfold recallRequest
    rw [firstOf_linkTests, hlink, hbound]
    split_ifs with habsent hservice
    · rfl
    · rfl
    cases s.boundClerk n with
    | none => rfl
    | some c =>
      simp only [hserving]
      cases s.serving c with
      | none => rfl
      | some r => simp only [hdisplay]
  case recallMissed =>
    intro k
    have hk : natAt payload 0 1 = k := rfl
    refine answer_eq_replied (act := recallMissedRequest n) hwaits ?_
    change recallMissedRequest n payload s1 = _
    simp only [recallMissedRequest, hk]
    rw [firstOf_linkTests_append, firstOf_cons, hlink, hbound]
    simp only [notTicket_iff]
    cases s.link n with
    | absent => rfl
    | service => rfl
    | enrolled =>
      simp only [reduceCtorEq, if_false]
      by_cases hbad : k = 0 ∨ 99 < k
      · rw [if_pos hbad, if_pos hbad]
      rw [if_neg hbad, if_neg hbad]
      cases s.boundClerk n with
      | none => rfl
      | some c =>
        rw [firstOf_callTests_of_bound, hcounter]
        split_ifs with hstate
        · rfl
        · simp only [hqueue]
          cases hfind : s.queue.missed.find? fun m => m.number == k with
          | none => rfl
          | some m =>
            have hnumber : m.number = k := by simpa using List.find?_some hfind
            simp only [State.recallNumber, hnumber, State.releaseServing_eq, hdisplay]
            rfl
end

section
/-! Totals (07): what removing and changing records leaves of the PLU table, the report of a Z-close, and O40 from
them. -/

namespace Sys2Proof.Machine

namespace PluTable

/-! ## The table's law, entry by entry (R25, R26) -/

/-- Two entries of the directory that name one leaf are one entry. -/
theorem Ok.entry_inj {t : PluTable} (h : t.Ok) {e d : Nat × LeafNo} (he : e ∈ t.directory) (hd : d ∈ t.directory)
    (hleaf : e.2 = d.2) : e = d := by
  obtain ⟨-, hnodup, -⟩ := h
  exact List.inj_on_of_nodup_map hnodup he hd hleaf

theorem Ok.leafAt_eq_some {t : PluTable} (h : t.Ok) {i : Nat} {l : LeafNo} :
    t.leafAt i = some l ↔ (i, l) ∈ t.directory := by
  obtain ⟨hsorted, -⟩ := h
  exact PluTable.leafAt_eq_some hsorted

/-- A record stands in the slot its number names (R25). -/
theorem Ok.number_of_slot {t : PluTable} (h : t.Ok) {e : Nat × LeafNo} (he : e ∈ t.directory) {leaf : Leaf}
    (hpool : t.pool.get e.2 = some leaf) {k : Fin 32} {r : PluRecord} (hslot : leaf.get k = some r) :
    r.fields.number = e.1 * 32 + k.val := by
  obtain ⟨-, -, hentries, -⟩ := h
  obtain ⟨-, leaf', hpool', -, hrecords⟩ := hentries e he
  obtain rfl : leaf = leaf' := Option.some_injective _ (hpool.symm.trans hpool')
  exact (hrecords k r hslot).1

/-- A lookup and the list of the records agree: the record found is the listed one of the number (R25). -/
theorem Ok.find_eq_some {t : PluTable} (h : t.Ok) {p : Nat} {r : PluRecord} :
    t.find p = some r ↔ r ∈ t.records ∧ r.fields.number = p := by
  rw [PluTable.find_eq_some, mem_records]
  constructor
  · rintro ⟨l, leaf, hl, hpool, hslot⟩
    have hmem := h.leafAt_eq_some.mp hl
    refine ⟨⟨_, hmem, leaf, hpool, _, hslot⟩, ?_⟩
    rw [h.number_of_slot hmem hpool hslot]
    exact Nat.div_add_mod' p 32
  · rintro ⟨⟨⟨i, l⟩, hmem, leaf, hpool, k, hslot⟩, hnumber⟩
    have hplace : r.fields.number = i * 32 + k.val := h.number_of_slot hmem hpool hslot
    have hindex : dirIndex p = i := by unfold dirIndex; omega
    have hk : slotOf p = k := by unfold slotOf; ext; simp only; omega
    exact ⟨l, leaf, hindex ▸ h.leafAt_eq_some.mpr hmem, hpool, hk ▸ hslot⟩

/-! ## Every record changed -/

theorem mapRecords_pool (t : PluTable) (f : PluRecord → PluRecord) (l : LeafNo) :
    (t.mapRecords f).pool.get l = (t.pool.get l).map fun leaf => leaf.each (Option.map f) := by
  simp only [mapRecords, Table.get_each]

/-- A change of the records that leaves their selling fields alone keeps the table's law. -/
theorem Ok.mapRecords {t : PluTable} (h : t.Ok) {f : PluRecord → PluRecord} (hf : ∀ r, (f r).fields = r.fields) :
    (t.mapRecords f).Ok := by
  obtain ⟨hsorted, hnodup, hentries, hnamed⟩ := h
  unfold PluTable.Ok
  rw [mapRecords_directory]
  refine ⟨hsorted, hnodup, fun e he => ?entry, fun l hl => hnamed l ?allocated⟩
  case entry =>
    obtain ⟨hindex, leaf, hpool, ⟨k, hk⟩, hrecords⟩ := hentries e he
    refine ⟨hindex, leaf.each (Option.map f), by rw [mapRecords_pool, hpool]; rfl, ⟨k, by simpa using hk⟩, ?_⟩
    intro k r hr
    obtain ⟨r, hslot, rfl⟩ : ∃ r', leaf.get k = some r' ∧ f r' = r := by simpa using hr
    rw [hf]
    exact hrecords k r hslot
  case allocated =>
    rwa [mapRecords_pool, Option.isSome_map] at hl

/-! ## Records removed (R26, R38) -/

/-- The leaf at a directory index, if there is one. -/
def leafOf (t : PluTable) (i : Nat) : Option Leaf := (t.leafAt i).bind t.pool.get

theorem find_eq_leafOf_bind (t : PluTable) (p : Nat) :
    t.find p = (t.leafOf (dirIndex p)).bind fun leaf => leaf.get (slotOf p) := by
  unfold find leafOf
  cases t.leafAt (dirIndex p) with
  | none => rfl
  | some l => cases hpool : t.pool.get l <;> simp only [Option.bind_some, Option.bind_none, hpool]

/-- A leaf with no record in any slot, which the table holds as a free one (R26). -/
def emptied (leaf : Leaf) : Bool := leaf.rows.all Option.isNone

theorem emptied_iff {leaf : Leaf} : emptied leaf = true ↔ ∀ k, leaf.get k = none := by
  simp [emptied, Table.mem_rows]

theorem emptied_eq_false {leaf : Leaf} : emptied leaf = false ↔ ∃ k, (leaf.get k).isSome = true := by
  rw [← Bool.not_eq_true, emptied_iff]
  simp [Option.isSome_iff_ne_none]

theorem remove_of_leafAt_none {t : PluTable} {p : Nat} (h : t.leafAt (dirIndex p) = none) : t.remove p = t := by
  simp only [remove, h]

theorem remove_of_leaf {t : PluTable} {p : Nat} {l : LeafNo} {leaf : Leaf} (hl : t.leafAt (dirIndex p) = some l)
    (hpool : t.pool.get l = some leaf) :
    t.remove p =
      if emptied (leaf.put (slotOf p) none) then
        { directory := t.directory.filter fun e => e.1 != dirIndex p, pool := t.pool.put l none }
      else { t with pool := t.pool.put l (some (leaf.put (slotOf p) none)) } := by
  simp only [remove, hl, hpool]
  rfl

theorem Ok.pool_of_leafAt {t : PluTable} (h : t.Ok) {i : Nat} {l : LeafNo} (hl : t.leafAt i = some l) :
    ∃ leaf, t.pool.get l = some leaf := by
  have hmem := h.leafAt_eq_some.mp hl
  obtain ⟨-, -, hentries, -⟩ := h
  obtain ⟨-, leaf, hpool, -⟩ := hentries _ hmem
  exact ⟨leaf, hpool⟩

/-- A dropped entry's index names no leaf; every other index names the leaf it did. -/
theorem leafAt_filter_ne (t : PluTable) (pool : Table 64 (Option Leaf)) (i j : Nat) :
    (⟨t.directory.filter fun e => e.1 != i, pool⟩ : PluTable).leafAt j = if j = i then none else t.leafAt j := by
  split_ifs with hji
  · rw [leafAt_eq_none]
    simp [hji]
  · unfold leafAt
    rw [List.find?_filter]
    congr 2
    funext e
    by_cases he : e.1 = j <;> simp [he, hji]

/-- Two indices never name one leaf. -/
theorem Ok.leafAt_inj {t : PluTable} (h : t.Ok) {i j : Nat} {l : LeafNo} (hi : t.leafAt i = some l)
    (hj : t.leafAt j = some l) : i = j :=
  congrArg Prod.fst (h.entry_inj (h.leafAt_eq_some.mp hi) (h.leafAt_eq_some.mp hj) rfl)

/-- A change of the one leaf that an index names leaves the leaves of the other indices as they were. -/
theorem Ok.pool_put_of_leafAt_ne {t : PluTable} (h : t.Ok) {i j : Nat} {l k : LeafNo} (hi : t.leafAt i = some l)
    (hj : t.leafAt j = some k) (hji : j ≠ i) (x : Option Leaf) : (t.pool.put l x).get k = t.pool.get k :=
  Table.get_put_ne _ _ fun hkl => hji (h.leafAt_inj (hkl ▸ hj) hi)

/-- Removing a number empties its slot, and frees the leaf this leaves without a record; the leaves of the other
indices stay (R26). -/
theorem Ok.leafOf_remove {t : PluTable} (h : t.Ok) (p i : Nat) :
    (t.remove p).leafOf i =
      if i = dirIndex p then ((t.leafOf i).map fun leaf => leaf.put (slotOf p) none).filter fun leaf => !emptied leaf
      else t.leafOf i := by
  cases hl : t.leafAt (dirIndex p) with
  | none =>
    rw [remove_of_leafAt_none hl]
    split_ifs with hi
    · simp [leafOf, hi, hl]
    · rfl
  | some l =>
    obtain ⟨leaf, hpool⟩ := h.pool_of_leafAt hl
    have hother {j : Nat} (hj : j ≠ dirIndex p) (x : Option Leaf) :
        (t.leafAt j).bind (t.pool.put l x).get = t.leafOf j := by
      cases hk : t.leafAt j with
      | none => simp [leafOf, hk]
      | some k => simp [leafOf, hk, h.pool_put_of_leafAt_ne hl hk hj]
    rw [remove_of_leaf hl hpool]
    cases hempty : emptied (leaf.put (slotOf p) none) with
    | true =>
      rw [if_pos rfl]
      split_ifs with hi
      · simp [leafOf, leafAt_filter_ne, Option.filter_some, hi, hl, hpool, hempty]
      · rw [← hother hi none, leafOf, leafAt_filter_ne, if_neg hi]
    | false =>
      rw [if_neg Bool.false_ne_true]
      split_ifs with hi
      · have hleaf : t.leafOf i = some leaf := by rw [leafOf, hi, hl, Option.bind_some, hpool]
        rw [hleaf, Option.map_some, Option.filter_some, hempty]
        change (t.leafAt i).bind _ = _
        rw [hi, hl, Option.bind_some, Table.get_put_same]
        rfl
      · exact hother hi _

/-- A number removed is found no more, and every other number as before (R26). -/
theorem Ok.find_remove {t : PluTable} (h : t.Ok) (p q : Nat) :
    (t.remove p).find q = if q = p then none else t.find q := by
  have hslot {i : Nat} (hi : i = dirIndex p) (k : Fin 32) :
      ((t.remove p).leafOf i).bind (fun leaf => leaf.get k) =
        if k = slotOf p then none else (t.leafOf i).bind fun leaf => leaf.get k := by
    rw [h.leafOf_remove, if_pos hi]
    cases t.leafOf i with
    | none => simp
    | some leaf =>
      rw [Option.map_some, Option.filter_some, Option.bind_some, ← Table.get_put]
      cases hempty : emptied (leaf.put (slotOf p) none) with
      | true => exact (emptied_iff.mp hempty k).symm
      | false => rfl
  rw [find_eq_leafOf_bind, find_eq_leafOf_bind]
  by_cases hi : dirIndex q = dirIndex p
  · rw [hslot hi]
    refine if_congr ⟨place_inj hi, fun hqp => congrArg slotOf hqp⟩ rfl rfl
  · rw [h.leafOf_remove, if_neg hi, if_neg fun hqp => hi (congrArg dirIndex hqp)]

/-- A directory entry dropped and its leaf freed: the table's law is kept (R26). -/
theorem Ok.drop_entry {t : PluTable} (h : t.Ok) {i : Nat} {l : LeafNo} (hl : t.leafAt i = some l) :
    Ok { directory := t.directory.filter fun e => e.1 != i, pool := t.pool.put l none } := by
  have hentry {e : Nat × LeafNo} (he : e ∈ t.directory) : e.1 = i ↔ e.2 = l := by
    refine ⟨?_, fun hel => congrArg Prod.fst (h.entry_inj he (h.leafAt_eq_some.mp hl) hel)⟩
    rintro rfl
    exact Option.some_injective _ ((h.leafAt_eq_some.mpr he).symm.trans hl)
  obtain ⟨hsorted, hnodup, hentries, hnamed⟩ := h
  refine ⟨hsorted.sublist (List.filter_sublist.map _), hnodup.sublist (List.filter_sublist.map _), ?entries, ?named⟩
  case entries =>
    intro e he
    obtain ⟨he, hindex⟩ := List.mem_filter.mp he
    have hel : e.2 ≠ l := mt (hentry he).mpr (bne_iff_ne.mp hindex)
    unfold PluTable.EntryOk
    rw [Table.get_put_ne _ _ hel]
    exact hentries e he
  case named =>
    intro k hk
    have hkl : k ≠ l := by rintro rfl; simp at hk
    rw [Table.get_put_ne _ _ hkl] at hk
    obtain ⟨e, he, rfl⟩ := List.mem_map.mp (hnamed k hk)
    exact List.mem_map_of_mem (List.mem_filter.mpr ⟨he, bne_iff_ne.mpr (mt (hentry he).mp hkl)⟩)

/-- An allocated leaf that loses records but not its last one: the table's law is kept (R26). -/
theorem Ok.put_leaf {t : PluTable} (h : t.Ok) {l : LeafNo} {leaf rest : Leaf} (hpool : t.pool.get l = some leaf)
    (hsome : ∃ k, (rest.get k).isSome = true) (hsub : ∀ k, ∀ r ∈ rest.get k, leaf.get k = some r) :
    Ok { t with pool := t.pool.put l (some rest) } := by
  obtain ⟨hsorted, hnodup, hentries, hnamed⟩ := h
  refine ⟨hsorted, hnodup, fun e he => ?entry, fun k hk => hnamed k ?allocated⟩
  case entry =>
    by_cases hel : e.2 = l
    · obtain ⟨hindex, leaf', hpool', -, hrecords⟩ := hentries e he
      obtain rfl : leaf = leaf' := Option.some_injective _ (hpool.symm.trans (hel ▸ hpool'))
      exact ⟨hindex, rest, by simp [hel], hsome, fun k r hr => hrecords k r (hsub k r hr)⟩
    · unfold PluTable.EntryOk
      rw [Table.get_put_ne _ _ hel]
      exact hentries e he
  case allocated =>
    by_cases hkl : k = l
    · rw [hkl, hpool]
      rfl
    · rwa [Table.get_put_ne _ _ hkl] at hk

/-- Removing a number keeps the table's law, whether or not its leaf keeps a record (R26). -/
theorem Ok.remove {t : PluTable} (h : t.Ok) (p : Nat) : (t.remove p).Ok := by
  cases hl : t.leafAt (dirIndex p) with
  | none => rwa [remove_of_leafAt_none hl]
  | some l =>
    obtain ⟨leaf, hpool⟩ := h.pool_of_leafAt hl
    rw [remove_of_leaf hl hpool]
    cases hempty : emptied (leaf.put (slotOf p) none) with
    | true => exact h.drop_entry hl
    | false =>
      refine h.put_leaf hpool (emptied_eq_false.mp hempty) fun k r hr => ?_
      rw [Option.mem_def, Table.get_put] at hr
      split_ifs at hr
      exact hr

/-! ## Records removed one after another (R38) -/

/-- The table's law outlasts any number of removals. -/
theorem Ok.foldl_remove {t : PluTable} (h : t.Ok) (rs : List PluRecord) :
    (rs.foldl (fun t r => t.remove r.fields.number) t).Ok := by
  induction rs generalizing t with
  | nil => exact h
  | cons r rs ih => exact ih (h.remove _)

theorem Ok.find_foldl_remove {t : PluTable} (h : t.Ok) (rs : List PluRecord) (q : Nat) :
    (rs.foldl (fun t r => t.remove r.fields.number) t).find q =
      if ∃ r ∈ rs, r.fields.number = q then none else t.find q := by
  induction rs generalizing t with
  | nil => simp
  | cons r rs ih =>
    rw [List.foldl_cons, ih (h.remove _), h.find_remove]
    simp only [List.exists_mem_cons_iff, eq_comm (a := q), ite_or]
    split_ifs <;> rfl

theorem Ok.dropRetired {t : PluTable} (h : t.Ok) : t.dropRetired.Ok := h.foldl_remove _

/-- After the RETIRED records are removed, a number is found exactly when it was found not RETIRED (R38). -/
theorem Ok.find_dropRetired {t : PluTable} (h : t.Ok) (p : Nat) :
    t.dropRetired.find p = (t.find p).filter fun r => r.state != .retired := by
  have hretired : (∃ r ∈ t.records.filter (fun r => r.state == .retired), r.fields.number = p) ↔
      ∃ r, t.find p = some r ∧ r.state = .retired := by
    simp only [List.mem_filter, h.find_eq_some, beq_iff_eq]
    exact exists_congr fun r => by tauto
  rw [PluTable.dropRetired, h.find_foldl_remove, if_congr hretired rfl rfl]
  cases t.find p with
  | none => simp
  | some r => cases hr : r.state <;> simp [Option.filter_some, hr]

end PluTable

/-! ## The report of a Z-close (R133) -/

theorem Table.map_rows {n : Nat} {α β : Type} (t : Table n α) (f : α → β) :
    t.rows.map f = (List.finRange n).map fun i => f (t.get i) := List.map_map

theorem PluTotals.not_allZero (t : PluTotals) : (!t.allZero) = (t != ⟨0, 0, 0, 0⟩) := by
  have hzero : t.allZero = true ↔ t = ⟨0, 0, 0, 0⟩ := by
    cases t
    simp [PluTotals.allZero, and_assoc]
  rw [Bool.eq_iff_iff, Bool.not_eq_true', ← Bool.not_eq_true, hzero, bne_iff_ne]

theorem pluEntries_eq (t : PluTable) :
    pluEntries t = (t.records.filter fun r => r.totals != ⟨0, 0, 0, 0⟩).map pluEntry := by
  simp only [pluEntries, PluTotals.not_allZero]

theorem length_reportRecords (s : State) : (reportRecords s).length = 62 + (pluEntries s.plu).length := by
  simp only [reportRecords, List.length_append, List.length_map, Table.length_rows, List.length_cons, List.length_nil]

/-! ## Z-CLOSE (R132, R134) -/

theorem zCloseRequest_of_not_closed {s : State} (p : List Byte) (h : s.counter.state ≠ .closed) :
    zCloseRequest p s = refuse s .refusedState := by
  simp [zCloseRequest, h]

theorem zCloseRequest_of_report {s : State} (p : List Byte) (hstate : s.counter.state = .closed)
    (h : s.totals.report ≠ none) : zCloseRequest p s = refuse s .reportPending := by
  simp [zCloseRequest, hstate, Option.isSome_iff_ne_none.mpr h]

theorem zCloseRequest_of_closed {s : State} (p : List Byte) (hstate : s.counter.state = .closed)
    (h : s.totals.report = none) :
    zCloseRequest p s =
      (s.zClose, okReply (be 2 s.totals.z ++ be 2 (nextZ s.totals.z) ++ be 2 (reportRecords s).length
        ++ be 6 s.totals.gt)) := by
  simp [zCloseRequest, hstate, h]

/-- No order is open in CLOSED, so the retained count is 0 (R134, R138). -/
theorem State.openOrders_zero_of_closed {s : State} (h : s.OrdersOk) (hstate : s.counter.state = .closed) :
    s.totals.openOrders = 0 := by
  obtain ⟨-, -, -, -, hcount, hidle, -⟩ := h
  rw [hcount]
  exact hidle (by simp [State.trading, hstate])

/-- The PLU table as a Z-close leaves it: every record's totals 0, and the RETIRED records gone (R38, R134). -/
def PluTable.zClosed (t : PluTable) : PluTable :=
  (t.mapRecords fun r => { r with totals := zeroPluTotals }).dropRetired

theorem PluTable.Ok.zeroed {t : PluTable} (h : t.Ok) :
    (t.mapRecords fun r => { r with totals := zeroPluTotals }).Ok := h.mapRecords fun _ => rfl

theorem PluTable.Ok.zClosed {t : PluTable} (h : t.Ok) : t.zClosed.Ok := h.zeroed.dropRetired

theorem PluTable.Ok.find_zClosed {t : PluTable} (h : t.Ok) (p : Nat) :
    t.zClosed.find p =
      match t.find p with
      | none => none
      | some r => if r.state = .retired then none else some { r with totals := ⟨0, 0, 0, 0⟩ } := by
  rw [PluTable.zClosed, h.zeroed.find_dropRetired, PluTable.find_mapRecords]
  cases t.find p with
  | none => rfl
  | some r => cases hr : r.state <;> simp [hr, zeroPluTotals]

end Sys2Proof.Machine

open Sys2Proof Sys2Proof.Machine

/-- Settles O40: the two tests refuse in order; past them the table is the one `find_zClosed` describes, and the report
and the totals are `zClose`'s, record by record. -/
theorem zCloseAnswered : Obligations.ZCloseAnswered := by
  unfold Obligations.ZCloseAnswered
  intro s tag payload rest hwaits hplu s1 t done
  have hdone {a : Answer} (h : zCloseRequest payload s1 = a) : done a := answer_eq_replied hwaits h
  refine ⟨fun h => hdone (zCloseRequest_of_not_closed _ h),
    fun hstate h => hdone (zCloseRequest_of_report _ hstate h), fun hstate hreport => ?closes⟩
  intro sold z' records
  refine ⟨fun horders => State.openOrders_zero_of_closed horders hstate, s.plu.zClosed, hplu.zClosed,
    fun p _ => hplu.find_zClosed p, hdone ?_⟩
  have hentries : pluEntries s1.plu = sold.map pluEntry := pluEntries_eq _
  have hlength : (reportRecords s1).length = 62 + sold.length := by
    rw [length_reportRecords, hentries, List.length_map]
  have hrecords : reportRecords s1 = records := by
    simp only [reportRecords, hentries, Table.map_rows, List.length_map]
    rfl
  rw [zCloseRequest_of_closed (s := s1) payload hstate hreport, hlength, State.zClose, hrecords]
  rfl
end

section
/-! Counter (08): what an entry to a counter state changes, what OPEN COUNTER and CLOSE COUNTER come to in each state,
and O41 from them. -/

namespace Sys2Proof.Machine

/-! ## Entry to a counter state (R138, R143) -/

/-- All that an entry does: the state moves, CLOSED finds the queue emptied, and COUNTER_STATE is raised. -/
theorem State.enterState_eq (s : State) (c : CounterState) :
    s.enterState c =
      ({ s with
          counter := { s.counter with state := c }
          queue := if c = .closed then s.queue.closed else s.queue } : State).raise .counterState
        { variant := .state c } := by
  cases c <;> rfl

/-! ## OPEN COUNTER (R140) -/

theorem openCounterRequest_of_closed {s : State} (p : List Byte) (h : s.counter.state = .closed) :
    openCounterRequest p s = (s.enterState .opened, okReply [2]) := by
  simp only [openCounterRequest, h]
  rfl

theorem openCounterRequest_of_not_closed {s : State} (p : List Byte) (h : s.counter.state ≠ .closed) :
    openCounterRequest p s = refuse s .refusedState := by
  cases hstate : s.counter.state with
  | closed => contradiction
  | loading | opened | draining => simp only [openCounterRequest, hstate]

/-! ## CLOSE COUNTER (R141) -/

theorem closeCounterRequest_of_loading {s : State} (p : List Byte) (h : s.counter.state = .loading) :
    closeCounterRequest p s = refuse s .refusedState := if_pos h

/-- In CLOSED nothing moves, and the reply names CLOSED and the open orders. -/
theorem closeCounterRequest_of_closed {s : State} (p : List Byte) (h : s.counter.state = .closed) :
    closeCounterRequest p s = (s, okReply (1 :: be 1 s.openOrderCount)) := by
  simp only [closeCounterRequest, State.closeCounter, h, reduceCtorEq, if_false]
  rfl

/-- In DRAINING nothing moves, and the reply names DRAINING and the open orders. -/
theorem closeCounterRequest_of_draining {s : State} (p : List Byte) (h : s.counter.state = .draining) :
    closeCounterRequest p s = (s, okReply (3 :: be 1 s.openOrderCount)) := by
  simp only [closeCounterRequest, State.closeCounter, h, reduceCtorEq, if_false]
  rfl

/-- From OPEN the open orders decide which state is entered, and the reply names that state. -/
theorem closeCounterRequest_of_opened {s : State} (p : List Byte) (h : s.counter.state = .opened) :
    closeCounterRequest p s =
      if s.openOrderCount = 0 then (s.enterState .closed, okReply (1 :: be 1 s.openOrderCount))
      else (s.enterState .draining, okReply (3 :: be 1 s.openOrderCount)) := by
  simp only [closeCounterRequest, State.closeCounter, h, reduceCtorEq, if_false]
  split_ifs <;> rw [State.enterState_state] <;> rfl

end Sys2Proof.Machine

open Sys2Proof Sys2Proof.Machine

/-- Settles O41, by the counter state: each entry is `enterState`'s, and the reply's state is the one entered or kept. -/
theorem counterOpensAndCloses : Obligations.CounterOpensAndCloses := by
  unfold Obligations.CounterOpensAndCloses
  intro s tag payload rest s1 entered
  have hentered (c : CounterState) : s1.enterState c = entered c := s1.enterState_eq c
  refine ⟨fun hwaits => ?opens, fun hwaits => ?closes⟩
  case opens =>
    refine answer_eq_replied (act := openCounterRequest) hwaits ?_
    rw [← hentered]
    split_ifs with hstate
    · exact openCounterRequest_of_closed (s := s1) payload hstate
    · exact openCounterRequest_of_not_closed (s := s1) payload hstate
  case closes =>
    intro k
    refine answer_eq_replied (act := closeCounterRequest) hwaits ?_
    rw [← hentered, ← hentered]
    cases hstate : s.counter.state with
    | loading => exact closeCounterRequest_of_loading (s := s1) payload hstate
    | closed => exact closeCounterRequest_of_closed (s := s1) payload hstate
    | draining => exact closeCounterRequest_of_draining (s := s1) payload hstate
    | opened => exact closeCounterRequest_of_opened (s := s1) payload hstate
end

section
/-! What each operation can change: the parts of the state, once for each operation, so that a law that speaks of some
parts is carried over every operation that leaves them alone. -/

namespace Sys2Proof.Machine

/-! ## The parts of the state -/

/-- The parts of the state that the laws speak of. -/
inductive Part where
  | pending | lines | ports | notices | mode | clock | beat | roster | weighing | plu | pricing | clerks | orders
  | labels | queue | totals | openOrders | records | profiles | session
  deriving DecidableEq

/-- Two states hold the same of a part. -/
def Part.Same (s t : State) : Part → Prop
  | .pending => t.pending = s.pending
  | .lines => (t.resetLow, t.loadHold, t.markerOk) = (s.resetLow, s.loadHold, s.markerOk)
  | .ports => t.ports = s.ports
  | .notices => t.notices = s.notices
  | .mode => t.counter.state = s.counter.state
  | .clock => (t.counter.clock, t.counter.lastDate) = (s.counter.clock, s.counter.lastDate)
  | .beat => t.counter.beat = s.counter.beat
  | .roster => t.counter.roster = s.counter.roster
  | .weighing => t.weighing = s.weighing
  | .plu => t.plu = s.plu
  | .pricing => t.pricing = s.pricing
  | .clerks => t.orders.clerks = s.orders.clerks
  | .orders => (t.orders.orders, t.orders.lastOrderNumber) = (s.orders.orders, s.orders.lastOrderNumber)
  | .labels => t.labels = s.labels
  | .queue => t.queue = s.queue
  | .totals => { t.totals with openOrders := s.totals.openOrders } = s.totals
  | .openOrders => t.totals.openOrders = s.totals.openOrders
  | .records => t.lock.records = s.lock.records
  | .profiles => t.lock.profiles = s.lock.profiles
  | .session => { t.lock with records := s.lock.records, profiles := s.lock.profiles } = s.lock

/-- A state that differs from another in the listed parts alone. -/
def ChangesOnly (bs : List Part) (s t : State) : Prop := ∀ b, b ∉ bs → b.Same s t

theorem Part.same_refl (s : State) (b : Part) : b.Same s s := by cases b <;> rfl

theorem Part.Same.trans {s t u : State} {b : Part} (h : b.Same s t) (k : b.Same t u) : b.Same s u := by
  cases b
  case totals =>
    change { t.totals with openOrders := s.totals.openOrders } = s.totals at h
    change { u.totals with openOrders := t.totals.openOrders } = t.totals at k
    change { u.totals with openOrders := s.totals.openOrders } = s.totals
    rw [← h, ← k]
  case session =>
    change { t.lock with records := s.lock.records, profiles := s.lock.profiles } = s.lock at h
    change { u.lock with records := t.lock.records, profiles := t.lock.profiles } = t.lock at k
    change { u.lock with records := s.lock.records, profiles := s.lock.profiles } = s.lock
    rw [← h, ← k]
  all_goals exact Eq.trans k h

namespace ChangesOnly

theorem refl {bs : List Part} (s : State) : ChangesOnly bs s s := fun b _ => b.same_refl s

theorem trans {bs : List Part} {s t u : State} (h : ChangesOnly bs s t) (k : ChangesOnly bs t u) :
    ChangesOnly bs s u := fun b hb => (h b hb).trans (k b hb)

theorem mono {as bs : List Part} {s t : State} (h : ChangesOnly as s t) (hsub : as ⊆ bs) : ChangesOnly bs s t :=
  fun b hb => h b fun hm => hb (hsub hm)

/-- Part by part: the listed parts need no look. -/
theorem of_parts {bs : List Part} {s t : State} (h : ∀ b : Part, b.Same s (if b ∈ bs then s else t)) :
    ChangesOnly bs s t := by
  intro b hb
  have hsame := h b
  rwa [if_neg hb] at hsame

/-- A further operation, whose parts are among those listed. -/
theorem andThen {as bs : List Part} {s t u : State} (h : ChangesOnly bs s t) (k : ChangesOnly as t u)
    (hsub : as ⊆ bs) : ChangesOnly bs s u := h.trans (k.mono hsub)

/-- A fold of operations that change the listed parts alone. -/
theorem foldl {α : Type} {bs : List Part} {f : State → α → State} (h : ∀ s x, ChangesOnly bs s (f s x))
    (xs : List α) (s : State) : ChangesOnly bs s (xs.foldl f s) := by
  induction xs generalizing s with
  | nil => exact refl s
  | cons x xs ih => exact (h s x).trans (ih _)

theorem ite {bs : List Part} {s t u : State} {c : Prop} [Decidable c] (h : ChangesOnly bs s t)
    (k : ChangesOnly bs s u) : ChangesOnly bs s (if c then t else u) := by
  split
  · exact h
  · exact k

end ChangesOnly

/-! ## One part replaced -/

section
variable (s : State)

theorem changesOnly_pending (x : List Instr) : ChangesOnly [.pending] s { s with pending := x } :=
  .of_parts fun b => by cases b <;> rfl

theorem changesOnly_ports (x : Table 15 LinkPort) : ChangesOnly [.ports] s { s with ports := x } :=
  .of_parts fun b => by cases b <;> rfl

theorem changesOnly_notices (x : NoticeUnit) : ChangesOnly [.notices] s { s with notices := x } :=
  .of_parts fun b => by cases b <;> rfl

theorem changesOnly_mode (x : CounterState) :
    ChangesOnly [.mode] s { s with counter := { s.counter with state := x } } :=
  .of_parts fun b => by cases b <;> rfl

theorem changesOnly_clock (x : DateTime) (d : Date) :
    ChangesOnly [.clock] s { s with counter := { s.counter with clock := x, lastDate := d } } :=
  .of_parts fun b => by cases b <;> rfl

theorem changesOnly_beat (x : Timer) :
    ChangesOnly [.beat] s { s with counter := { s.counter with beat := x } } :=
  .of_parts fun b => by cases b <;> rfl

theorem changesOnly_roster (x : Table 12 RosterEntry) :
    ChangesOnly [.roster] s { s with counter := { s.counter with roster := x } } :=
  .of_parts fun b => by cases b <;> rfl

theorem changesOnly_weighing (x : Table 12 WeighContext) : ChangesOnly [.weighing] s { s with weighing := x } :=
  .of_parts fun b => by cases b <;> rfl

theorem changesOnly_plu (x : PluTable) : ChangesOnly [.plu] s { s with plu := x } :=
  .of_parts fun b => by cases b <;> rfl

theorem changesOnly_pricing (x : PricingUnit) : ChangesOnly [.pricing] s { s with pricing := x } :=
  .of_parts fun b => by cases b <;> rfl

theorem changesOnly_clerks (x : Table 32 ClerkEntry) :
    ChangesOnly [.clerks] s { s with orders := { s.orders with clerks := x } } :=
  .of_parts fun b => by cases b <;> rfl

theorem changesOnly_orders (x : Table 32 (Option Order)) (k : Nat) :
    ChangesOnly [.orders] s { s with orders := { s.orders with orders := x, lastOrderNumber := k } } :=
  .of_parts fun b => by cases b <;> rfl

theorem changesOnly_labels (x : Table 12 LabelStation) : ChangesOnly [.labels] s { s with labels := x } :=
  .of_parts fun b => by cases b <;> rfl

theorem changesOnly_queue (x : QueueUnit) : ChangesOnly [.queue] s { s with queue := x } :=
  .of_parts fun b => by cases b <;> rfl

theorem changesOnly_totals (x : TotalsStore) : ChangesOnly [.totals, .openOrders] s { s with totals := x } :=
  .of_parts fun b => by cases b <;> rfl

theorem changesOnly_openOrders (k : Nat) :
    ChangesOnly [.openOrders] s { s with totals := { s.totals with openOrders := k } } :=
  .of_parts fun b => by cases b <;> rfl

theorem changesOnly_profiles (x : Table 12 Profile) :
    ChangesOnly [.profiles] s { s with lock := { s.lock with profiles := x } } :=
  .of_parts fun b => by cases b <;> rfl

/-- The lock's own state changed, its records and profiles kept. -/
theorem changesOnly_session (key : List Word32) (audit failures : Nat) (x : Session) (sequence inactivity : Timer) :
    ChangesOnly [.session] s
      { s with lock := { s.lock with
          key := key, audit := audit, failures := failures, session := x, sequence := sequence
          inactivity := inactivity } } :=
  .of_parts fun b => by cases b <;> rfl

end

end Sys2Proof.Machine
end

section
/-! What the shared operations change. -/

namespace Sys2Proof.Machine

open ChangesOnly

variable (s : State)

/-! ## Notices, ports, timers of the roster -/

theorem raise_changesOnly (c : NoticeClass) (f : NoticeFields) : ChangesOnly [.notices] s (s.raise c f) :=
  changesOnly_notices s _

theorem raiseIf_changesOnly (cond : Bool) (c : NoticeClass) : ChangesOnly [.notices] s (s.raiseIf cond c) :=
  ite (raise_changesOnly s c {}) (refl s)

theorem onNotices_changesOnly (f : NoticeUnit → NoticeUnit) : ChangesOnly [.notices] s (s.onNotices f) :=
  changesOnly_notices s _

theorem onPort_changesOnly (p : Port) (f : LinkPort → LinkPort) : ChangesOnly [.ports] s (s.onPort p f) :=
  changesOnly_ports s _

theorem setStation_changesOnly (n : StationNo) (x : RosterEntry) : ChangesOnly [.roster] s (s.setStation n x) :=
  changesOnly_roster s _

theorem goodFrame_changesOnly (p : Port) : ChangesOnly [.roster] s (s.goodFrame p) := by
  cases p with
  | s n => exact ite (refl s) (setStation_changesOnly s n _)
  | b => exact refl s
  | v => exact refl s
  | q => exact refl s

theorem pushToStation_changesOnly (n : StationNo) (kind : Byte) (payload : List Byte) :
    ChangesOnly [.ports] s (s.pushToStation n kind payload) := onPort_changesOnly s _ _

theorem display_changesOnly (action k : Nat) (n : StationNo) : ChangesOnly [.ports] s (s.display action k n) :=
  onPort_changesOnly s _ _

/-! ## Weighing -/

theorem setContext_changesOnly (n : StationNo) (x : WeighContext) : ChangesOnly [.weighing] s (s.setContext n x) :=
  changesOnly_weighing s _

theorem clearContext_changesOnly (n : StationNo) : ChangesOnly [.weighing] s (s.clearContext n) :=
  setContext_changesOnly s n _

theorem emptyWindow_changesOnly (n : StationNo) : ChangesOnly [.weighing] s (s.emptyWindow n) :=
  setContext_changesOnly s n _

theorem useTare_changesOnly (n : StationNo) (source : TareSource) : ChangesOnly [.weighing] s (s.useTare n source) :=
  ite (setContext_changesOnly s n _) (refl s)

theorem sample_changesOnly (n : StationNo) (count : Int) :
    ChangesOnly [.weighing, .ports] s (s.sample n count) := by
  unfold State.sample
  split
  · exact refl s
  · exact ((setContext_changesOnly s n _).mono (by simp)).andThen (pushToStation_changesOnly _ n _ _) (by simp)
  · exact ((setContext_changesOnly s n _).mono (by simp)).andThen (pushToStation_changesOnly _ n _ _) (by simp)

/-! ## The PLU table and the batch -/

theorem removalStep_changesOnly (r : PluRecord) (gen : Nat) : ChangesOnly [.plu] s (s.removalStep r gen) :=
  changesOnly_plu s _

theorem stepGeneration_changesOnly : ChangesOnly [.pricing] s s.stepGeneration := changesOnly_pricing s _

theorem wipeStep_changesOnly (r : PluRecord) : ChangesOnly [.plu] s (s.wipeStep r) :=
  ite (removalStep_changesOnly s r _) (refl s)

theorem onPricing_changesOnly (f : PricingUnit → PricingUnit) : ChangesOnly [.pricing] s (s.onPricing f) :=
  changesOnly_pricing s _

theorem emptyBatch_changesOnly : ChangesOnly [.pricing] s s.emptyBatch := onPricing_changesOnly s _

theorem applyEntry_changesOnly {t : State} {e : BatchEntry} {gen : Nat} (h : s.applyEntry e gen = .ok t) :
    ChangesOnly [.plu] s t := by
  unfold State.applyEntry at h
  repeat' split at h
  all_goals cases h
  all_goals exact changesOnly_plu s _

theorem activateEntry_changesOnly (ended : Bool) (gen : Nat) (a : Activation) (e : BatchEntry) :
    ChangesOnly [.plu] a.1 (activateEntry ended gen a e).1 := by
  unfold activateEntry
  split
  · exact refl _
  · split
    · next h => exact applyEntry_changesOnly _ h
    · exact refl _

theorem applyBatch_changesOnly : ChangesOnly [.plu] s s.applyBatch.1 := by
  unfold State.applyBatch
  generalize (⟨0, 0, none⟩ : BatchResult) = r
  generalize s.pricing.entries = es
  generalize s.generationEnded = ended, s.generation + 1 = gen
  suffices h : ∀ a : Activation, ChangesOnly [.plu] a.1 (es.foldl (activateEntry ended gen) a).1 from h (s, r)
  induction es with
  | nil => exact fun a => refl _
  | cons e es ih => exact fun a => (activateEntry_changesOnly ended gen a e).trans (ih _)

theorem raiseBatch_changesOnly (r : BatchResult) : ChangesOnly [.notices] s (s.raiseBatch r) :=
  ite (raise_changesOnly s _ _) ((raise_changesOnly s _ _).trans (raise_changesOnly _ _ _))

theorem activate_changesOnly : ChangesOnly [.plu, .pricing, .notices] s s.activate :=
  (((((applyBatch_changesOnly s).mono (by simp)).andThen (ite (refl _) (stepGeneration_changesOnly _)) (by simp)).andThen
    (onPricing_changesOnly _ _) (by simp)).andThen (raiseBatch_changesOnly _ _) (by simp)).andThen (emptyBatch_changesOnly _) (by simp)

theorem activateIfDue_changesOnly : ChangesOnly [.plu, .pricing, .notices] s s.activateIfDue :=
  ite (activate_changesOnly s) (refl s)

/-! ## Totals -/

theorem onTotals_changesOnly (f : TotalsStore → TotalsStore) :
    ChangesOnly [.totals, .openOrders] s (s.onTotals f) := changesOnly_totals s _

theorem countOpened_changesOnly : ChangesOnly [.openOrders] s s.countOpened := changesOnly_openOrders s _

theorem accumulateItem_changesOnly (i : Item) : ChangesOnly [.plu, .totals] s (s.accumulateItem i) := by
  unfold State.accumulateItem
  split
  · exact refl s
  · exact .of_parts fun b => by cases b <;> rfl

theorem accumulate_changesOnly (c : ClerkNo) (n : StationNo) (o : Order) :
    ChangesOnly [.plu, .totals, .openOrders] s (s.accumulate c n o) :=
  ((foldl accumulateItem_changesOnly _ s).mono (by simp)).andThen (onTotals_changesOnly _ _) (by simp)

theorem zClose_changesOnly : ChangesOnly [.totals, .plu, .queue, .notices] s s.zClose := by
  refine ChangesOnly.andThen (t := _) ?_ (raise_changesOnly _ _ _) (by simp)
  exact .of_parts fun b => by cases b <;> rfl

/-! ## The queue -/

theorem setServing_changesOnly (c : ClerkNo) (x : Option Serving) : ChangesOnly [.queue] s (s.setServing c x) :=
  changesOnly_queue s _

theorem releaseServing_changesOnly (c : ClerkNo) : ChangesOnly [.queue] s (s.releaseServing c) := by
  unfold State.releaseServing
  split
  · exact refl s
  · exact ite (setServing_changesOnly s c none) ((setServing_changesOnly s c none).trans (changesOnly_queue _ _))

theorem goodsConfirmed_changesOnly (c : ClerkNo) (k : Option Nat) : ChangesOnly [.queue] s (s.goodsConfirmed c k) := by
  unfold State.goodsConfirmed
  split
  · exact ite (setServing_changesOnly s c _) (refl s)
  · exact refl s

theorem issueTicket_changesOnly : ChangesOnly [.queue, .notices] s s.issueTicket :=
  ((((changesOnly_queue s _).mono (by simp)).andThen (raiseIf_changesOnly _ _ _) (by simp)).andThen
    (raiseIf_changesOnly _ _ _) (by simp)).andThen (raiseIf_changesOnly _ _ _) (by simp)

theorem blockDispenser_changesOnly : ChangesOnly [.queue, .notices] s s.blockDispenser :=
  ite (refl s) (((changesOnly_queue s _).mono (by simp)).andThen (raise_changesOnly _ _ _) (by simp))

theorem callTicket_changesOnly (c : ClerkNo) (n : StationNo) (t : Ticket) (rest : List Ticket) :
    ChangesOnly [.queue, .totals, .ports] s (s.callTicket c n t rest) := by
  refine ChangesOnly.andThen (t := _) ?_ (display_changesOnly _ _ _ _) (by simp)
  exact .of_parts fun b => by cases b <;> rfl

theorem recallNumber_changesOnly (c : ClerkNo) (n : StationNo) (m : Missed) :
    ChangesOnly [.queue, .ports] s (s.recallNumber c n m) :=
  ((((changesOnly_queue s _).mono (by simp)).andThen (releaseServing_changesOnly _ c) (by simp)).andThen
    (setServing_changesOnly _ c _) (by simp)).andThen (display_changesOnly _ _ _ _) (by simp)

/-! ## Counter states, bindings and orders -/

theorem enterState_changesOnly (c : CounterState) : ChangesOnly [.mode, .queue, .notices] s (s.enterState c) := by
  refine ChangesOnly.andThen (t := _) ?_ (raise_changesOnly _ _ _) (by simp)
  have h : ChangesOnly [.mode, .queue, .notices] s { s with counter := { s.counter with state := c } } :=
    (changesOnly_mode s c).mono (by simp)
  exact ite (h.andThen (changesOnly_queue _ _) (by simp)) h

theorem reportClosing_changesOnly : ChangesOnly [.mode, .queue, .notices] s s.reportClosing :=
  ite (enterState_changesOnly s _) (refl s)

theorem setOrder_changesOnly (c : ClerkNo) (x : Option Order) : ChangesOnly [.orders] s (s.setOrder c x) :=
  changesOnly_orders s _ _

theorem onOrder_changesOnly (c : ClerkNo) (f : Order → Order) : ChangesOnly [.orders] s (s.onOrder c f) :=
  setOrder_changesOnly s c _

theorem park_changesOnly (c : ClerkNo) : ChangesOnly [.orders] s (s.park c) := onOrder_changesOnly s c _

theorem parkIfHeld_changesOnly (c : ClerkNo) (n : StationNo) : ChangesOnly [.orders] s (s.parkIfHeld c n) := by
  rw [State.parkIfHeld_eq]
  exact setOrder_changesOnly s c _

theorem parkHeld_changesOnly (n : StationNo) : ChangesOnly [.orders] s (s.parkHeld n) := by
  unfold State.parkHeld
  split
  · exact refl s
  · exact park_changesOnly s _

theorem bind_changesOnly (c : ClerkNo) (n : Option StationNo) : ChangesOnly [.clerks] s (s.bind c n) :=
  changesOnly_clerks s _

theorem unbindKeep_changesOnly (n : StationNo) : ChangesOnly [.clerks] s (s.unbindKeep n) := by
  unfold State.unbindKeep
  split
  · exact refl s
  · exact bind_changesOnly s _ _

theorem unbindRelease_changesOnly (n : StationNo) : ChangesOnly [.clerks, .queue] s (s.unbindRelease n) := by
  unfold State.unbindRelease
  split
  · exact refl s
  · exact ((bind_changesOnly s _ _).mono (by simp)).andThen (releaseServing_changesOnly _ _) (by simp)

theorem signOff_changesOnly (c : ClerkNo) (n : StationNo) :
    ChangesOnly [.orders, .clerks, .queue] s (s.signOff c n) :=
  ((parkIfHeld_changesOnly s c n).mono (by simp)).andThen (unbindRelease_changesOnly _ n) (by simp)

theorem signOn_changesOnly (c : ClerkNo) (n : StationNo) : ChangesOnly [.orders, .clerks] s (s.signOn c n) := by
  unfold State.signOn
  split
  · exact refl s
  · split
    · exact ((((parkIfHeld_changesOnly s c _).mono (by simp)).andThen (bind_changesOnly _ c none) (by simp)).andThen
        (unbindKeep_changesOnly _ n) (by simp)).andThen (bind_changesOnly _ c _) (by simp)
    · exact ((unbindKeep_changesOnly s n).mono (by simp)).andThen (bind_changesOnly _ c _) (by simp)

theorem writeClerk_changesOnly (c : ClerkNo) (code : Nat) (enabled : Bool) :
    ChangesOnly [.orders, .clerks, .queue] s (s.writeClerk c code enabled) := by
  have h : ChangesOnly [.orders, .clerks, .queue] s (s.setClerk c { s.clerk c with code := code, enabled := enabled }) :=
    (changesOnly_clerks s _).mono (by simp)
  unfold State.writeClerk
  split
  · exact ite h (((h.andThen (parkIfHeld_changesOnly _ c _) (by simp)).andThen (bind_changesOnly _ c none) (by simp)).andThen
      (releaseServing_changesOnly _ c) (by simp))
  · exact h

theorem openOrder_changesOnly (c : ClerkNo) (n : StationNo) :
    ChangesOnly [.orders, .openOrders] s (s.openOrder c n) :=
  (((changesOnly_orders s _ _).mono (by simp)).andThen (setOrder_changesOnly _ c _) (by simp)).andThen
    (countOpened_changesOnly _) (by simp)

theorem withOrder_changesOnly (c : ClerkNo) (n : StationNo) :
    ChangesOnly [.orders, .openOrders] s (s.withOrder c n) := ite (openOrder_changesOnly s c n) (refl s)

theorem claim_changesOnly (c : ClerkNo) (n : StationNo) : ChangesOnly [.orders, .clerks] s (s.claim c n) := by
  unfold State.claim
  refine ChangesOnly.andThen (t := _) (ite (refl s) ?_) (onOrder_changesOnly _ c _) (by simp)
  exact (((bind_changesOnly s c none).mono (by simp)).andThen (unbindKeep_changesOnly _ n) (by simp)).andThen
    (bind_changesOnly _ c _) (by simp)

theorem confirmItem_changesOnly (c : ClerkNo) (k : Nat) : ChangesOnly [.orders, .queue] s (s.confirmItem c k) :=
  ((onOrder_changesOnly s c _).mono (by simp)).andThen (goodsConfirmed_changesOnly _ c _) (by simp)

theorem closePrinted_changesOnly (c : ClerkNo) (n : StationNo) :
    ChangesOnly [.plu, .totals, .openOrders, .orders, .mode, .queue, .notices] s (s.closePrinted c n) := by
  unfold State.closePrinted
  split
  · exact refl s
  · exact (((accumulate_changesOnly s c n _).mono (by simp)).andThen (setOrder_changesOnly _ c _) (by simp)).andThen
      (reportClosing_changesOnly _) (by simp)

theorem closeEmpty_changesOnly (c : ClerkNo) :
    ChangesOnly [.totals, .openOrders, .orders, .mode, .queue, .notices] s (s.closeEmpty c) :=
  (((onTotals_changesOnly s _).mono (by simp)).andThen (setOrder_changesOnly _ c _) (by simp)).andThen
    (reportClosing_changesOnly _) (by simp)

/-! ## Labels -/

theorem setPrinter_changesOnly (n : StationNo) (x : LabelStation) : ChangesOnly [.labels] s (s.setPrinter n x) :=
  changesOnly_labels s _

theorem compose_changesOnly (n : StationNo) (mk : Nat → LabelRecord) :
    ChangesOnly [.labels, .ports] s (s.compose n mk) :=
  ((setPrinter_changesOnly s n _).mono (by simp)).andThen (onPort_changesOnly _ _ _) (by simp)

theorem freeSlot_changesOnly (n : StationNo) : ChangesOnly [.labels, .ports] s (s.freeSlot n) :=
  ((setPrinter_changesOnly s n _).mono (by simp)).andThen (onPort_changesOnly _ _ _) (by simp)

theorem handFailure_changesOnly (r : LabelRecord) : ChangesOnly [.orders] s (s.handFailure r) := by
  unfold State.handFailure
  split
  · exact onOrder_changesOnly s _ _
  · exact onOrder_changesOnly s _ _
  · exact refl s

theorem failLabel_changesOnly (n : StationNo) (r : LabelRecord) (cause : FailCause) :
    ChangesOnly [.labels, .ports, .notices, .orders] s (s.failLabel n r cause) :=
  (((freeSlot_changesOnly s n).mono (by simp)).andThen (raise_changesOnly _ _ _) (by simp)).andThen
    (handFailure_changesOnly _ r) (by simp)

theorem countLabel_changesOnly (n : StationNo) : ChangesOnly [.totals] s (s.countLabel n) :=
  .of_parts fun b => by cases b <;> rfl

theorem countReprint_changesOnly (n : StationNo) : ChangesOnly [.totals] s (s.countReprint n) :=
  .of_parts fun b => by cases b <;> rfl

theorem finishLabel_changesOnly (n : StationNo) (r : LabelRecord) :
    ChangesOnly [.labels, .ports, .plu, .totals, .openOrders, .orders, .mode, .queue, .notices] s
      (s.finishLabel n r) := by
  have hfree : ChangesOnly [.labels, .ports, .plu, .totals, .openOrders, .orders, .mode, .queue, .notices] s
      (s.freeSlot n) := (freeSlot_changesOnly s n).mono (by simp)
  have hkept := (hfree.andThen (setPrinter_changesOnly _ n { (s.freeSlot n).printer n with last := some r }) (by simp)).andThen
    (countLabel_changesOnly _ n) (by simp)
  unfold State.finishLabel
  dsimp only
  split
  · exact hkept.andThen (confirmItem_changesOnly _ _ _) (by simp)
  · exact hkept.andThen (closePrinted_changesOnly _ _ _) (by simp)
  · exact hfree.andThen (countReprint_changesOnly _ n) (by simp)

theorem printDone_changesOnly (n : StationNo) (k : Nat) :
    ChangesOnly [.labels, .ports, .plu, .totals, .openOrders, .orders, .mode, .queue, .notices] s
      (s.printDone n k) := by
  unfold State.printDone
  split
  · exact finishLabel_changesOnly s n _
  · exact refl s

theorem printFail_changesOnly (n : StationNo) (k : Nat) :
    ChangesOnly [.labels, .ports, .notices, .orders] s (s.printFail n k) := by
  unfold State.printFail
  split
  · exact failLabel_changesOnly s n _ _
  · exact refl s

theorem deadlineExpired_changesOnly (n : StationNo) :
    ChangesOnly [.labels, .ports, .notices, .orders] s (s.deadlineExpired n) := by
  unfold State.deadlineExpired
  split
  · exact ite (failLabel_changesOnly s n _ _) (refl s)
  · exact refl s

theorem setDeadline_changesOnly (n : StationNo) (f : TxFrame) : ChangesOnly [.labels] s (s.setDeadline n f) := by
  unfold State.setDeadline
  split
  · exact refl s
  · exact ite (setPrinter_changesOnly s n _) (refl s)

theorem loseLabels_changesOnly (n : StationNo) :
    ChangesOnly [.labels, .ports, .notices, .orders] s (s.loseLabels n) := by
  unfold State.loseLabels
  refine ChangesOnly.andThen (t := _) ?_ (setPrinter_changesOnly _ n _) (by simp)
  split
  · exact failLabel_changesOnly s n _ _
  · exact (freeSlot_changesOnly s n).mono (by simp)

/-! ## Stations -/

theorem detach_changesOnly (n : StationNo) :
    ChangesOnly [.labels, .ports, .notices, .orders, .clerks, .queue, .weighing, .roster] s (s.detach n) :=
  ((((((loseLabels_changesOnly s n).mono (by simp)).andThen (parkHeld_changesOnly _ n) (by simp)).andThen
    (unbindRelease_changesOnly _ n) (by simp)).andThen (clearContext_changesOnly _ n) (by simp)).andThen
      (setStation_changesOnly _ n _) (by simp)).andThen (onPort_changesOnly _ _ _) (by simp)

theorem loseIfPresent_changesOnly (n : StationNo) :
    ChangesOnly [.labels, .ports, .notices, .orders, .clerks, .queue, .weighing, .roster] s (s.loseIfPresent n) :=
  ite (refl s) ((detach_changesOnly s n).andThen (raise_changesOnly _ _ _) (by simp))

theorem enrolStation_changesOnly (n : StationNo) (r : StationRecord) :
    ChangesOnly [.labels, .ports, .notices, .orders, .clerks, .queue, .weighing, .roster] s (s.enrolStation n r) :=
  ((ChangesOnly.ite (refl s) (detach_changesOnly s n)).andThen (setStation_changesOnly _ n _) (by simp)).andThen
    (clearContext_changesOnly _ n) (by simp)

theorem beatTo_changesOnly (n : StationNo) : ChangesOnly [.ports] s (s.beatTo n) :=
  ite (refl s) (pushToStation_changesOnly s n _ _)

theorem beatAll_changesOnly : ChangesOnly [.ports, .beat] s s.beatAll :=
  ((foldl beatTo_changesOnly _ s).mono (by simp)).andThen (changesOnly_beat _ _) (by simp)

theorem closeCounter_changesOnly : ChangesOnly [.mode, .queue, .notices] s s.closeCounter := by
  unfold State.closeCounter
  split
  · exact ite (enterState_changesOnly s _) (enterState_changesOnly s _)
  all_goals exact refl s

theorem writeSettings_changesOnly (r : SettingsRequest) : ChangesOnly [.pricing, .queue] s (s.writeSettings r) :=
  .of_parts fun b => by cases b <;> rfl

/-! ## The clock and the service session -/

theorem setClock_changesOnly (t : DateTime) : ChangesOnly [.clock] s (s.setClock t) := changesOnly_clock s _ _

theorem dayCheck_changesOnly : ChangesOnly [.clock, .session] s s.dayCheck := by
  refine ite (refl s) ?_
  exact .of_parts fun b => by cases b <;> rfl

theorem stepTime_changesOnly (t : DateTime) :
    ChangesOnly [.clock, .session, .notices, .plu, .pricing] s (s.stepTime t) := by
  have h : ChangesOnly [.clock, .session, .notices, .plu, .pricing] s (s.setClock t) :=
    (setClock_changesOnly s t).mono (by simp)
  exact ((ite (h.andThen (raise_changesOnly _ _ _) (by simp)) h).andThen (dayCheck_changesOnly _) (by simp)).andThen
    (activateIfDue_changesOnly _) (by simp)

theorem idleSession_changesOnly : ChangesOnly [.session] s s.idleSession := changesOnly_session s _ _ _ _ _ _

theorem restartInactivity_changesOnly : ChangesOnly [.session] s s.restartInactivity :=
  changesOnly_session s _ _ _ _ _ _

theorem stage_changesOnly (st : StationNo) (f : CalFields) (key : Option (List Word32)) :
    ChangesOnly [.session] s (s.stage st f key) := changesOnly_session s _ _ _ _ _ _

theorem failKey_changesOnly (st : StationNo) : ChangesOnly [.session, .notices] s (s.failKey st) :=
  ((changesOnly_session s _ _ _ _ _ _).mono (by simp)).andThen (raise_changesOnly _ _ _) (by simp)

theorem openSession_changesOnly (st : StationNo) :
    ChangesOnly [.session, .roster, .clerks, .queue, .weighing] s (s.openSession st) :=
  ((((changesOnly_session s _ _ _ _ _ _).mono (by simp)).andThen (setStation_changesOnly _ st _) (by simp)).andThen
    (unbindRelease_changesOnly _ st) (by simp)).andThen (emptyWindow_changesOnly _ st) (by simp)

theorem leaveService_changesOnly (st : StationNo) : ChangesOnly [.roster] s (s.leaveService st) :=
  ite (setStation_changesOnly s st _) (refl s)

theorem endUnchanged_changesOnly (st : StationNo) :
    ChangesOnly [.session, .roster, .weighing] s (s.endUnchanged st) := by
  have h : ChangesOnly [.session, .roster, .weighing] s s.idleSession := (idleSession_changesOnly s).mono (by simp)
  exact ite ((h.andThen (leaveService_changesOnly _ st) (by simp)).andThen (emptyWindow_changesOnly _ st) (by simp)) h

theorem inactivityExpired_changesOnly : ChangesOnly [.session, .roster, .weighing] s s.inactivityExpired := by
  unfold State.inactivityExpired
  split
  · exact ite (endUnchanged_changesOnly s _) (refl s)
  all_goals exact refl s

theorem commitCal_changesOnly (st : StationNo) (f : CalFields) :
    ChangesOnly [.records, .session, .notices, .weighing] s (s.commitCal st f) := by
  refine ChangesOnly.andThen (t := _) (ChangesOnly.andThen (t := _) ?_ (raise_changesOnly _ _ _) (by simp))
    (setContext_changesOnly _ st _) (by simp)
  exact .of_parts fun b => by cases b <;> rfl

theorem commitKey_changesOnly (key : Option (List Word32)) : ChangesOnly [.session] s (s.commitKey key) :=
  changesOnly_session s _ _ _ _ _ _

theorem closeSession_changesOnly (st : StationNo) (f : CalFields) (key : Option (List Word32)) :
    ChangesOnly [.records, .session, .notices, .weighing, .roster] s (s.closeSession st f key) :=
  ite
    (((((commitCal_changesOnly s st f).mono (by simp)).andThen (commitKey_changesOnly _ key) (by simp)).andThen
      (idleSession_changesOnly _) (by simp)).andThen (leaveService_changesOnly _ st) (by simp))
    (((commitKey_changesOnly s key).mono (by simp)).andThen (endUnchanged_changesOnly _ st) (by simp))

end Sys2Proof.Machine
end

section
/-! What each request can change. -/

namespace Sys2Proof.Machine

open ChangesOnly

variable (s : State) (n : StationNo) (p : List Byte)

/-! ## Requests that read -/

theorem quoteRequest_state : (quoteRequest n p s).1 = s := by
  dsimp only [quoteRequest]
  repeat' split
  all_goals rfl

theorem pluReadRequest_state : (pluReadRequest p s).1 = s := by
  dsimp only [pluReadRequest]
  repeat' split
  all_goals rfl

theorem clerkReadRequest_state : (clerkReadRequest p s).1 = s := by
  dsimp only [clerkReadRequest]
  repeat' split
  all_goals rfl

theorem totalsReadRequest_state : (totalsReadRequest p s).1 = s := by
  dsimp only [totalsReadRequest]
  repeat' split
  all_goals rfl

theorem reportReadRequest_state : (reportReadRequest p s).1 = s := by
  dsimp only [reportReadRequest]
  repeat' split
  all_goals rfl

/-! ## Requests that write -/

theorem zeroRequest_changesOnly : ChangesOnly [.weighing] s (zeroRequest n p s).1 := by
  dsimp only [zeroRequest]
  repeat' split
  all_goals first
    | exact refl s
    | exact setContext_changesOnly s n _

theorem tareKeyRequest_changesOnly : ChangesOnly [.weighing] s (tareKeyRequest n p s).1 := by
  dsimp only [tareKeyRequest]
  repeat' split
  all_goals first
    | exact refl s
    | exact setContext_changesOnly s n _

theorem tareSetRequest_changesOnly : ChangesOnly [.weighing] s (tareSetRequest n p s).1 := by
  dsimp only [tareSetRequest]
  repeat' split
  all_goals first
    | exact refl s
    | exact setContext_changesOnly s n _

theorem tareClearRequest_changesOnly : ChangesOnly [.weighing] s (tareClearRequest n p s).1 := by
  dsimp only [tareClearRequest]
  repeat' split
  all_goals first
    | exact refl s
    | exact setContext_changesOnly s n _

theorem clerkOnRequest_changesOnly : ChangesOnly [.orders, .clerks] s (clerkOnRequest n p s).1 := by
  dsimp only [clerkOnRequest]
  repeat' split
  all_goals first
    | exact refl s
    | exact signOn_changesOnly s _ n

theorem clerkOffRequest_changesOnly : ChangesOnly [.orders, .clerks, .queue] s (clerkOffRequest n p s).1 := by
  dsimp only [clerkOffRequest]
  repeat' split
  all_goals first
    | exact refl s
    | exact signOff_changesOnly s _ n

theorem voidItemRequest_changesOnly : ChangesOnly [.orders] s (voidItemRequest n p s).1 := by
  dsimp only [voidItemRequest]
  repeat' split
  all_goals first
    | exact refl s
    | exact onOrder_changesOnly s _ _

theorem parkOrderRequest_changesOnly : ChangesOnly [.orders] s (parkOrderRequest n p s).1 := by
  dsimp only [parkOrderRequest]
  repeat' split
  all_goals first
    | exact refl s
    | exact park_changesOnly s _

theorem claimOrderRequest_changesOnly : ChangesOnly [.orders, .clerks] s (claimOrderRequest n p s).1 := by
  dsimp only [claimOrderRequest]
  repeat' split
  all_goals first
    | exact refl s
    | exact claim_changesOnly s _ n

theorem closeOrderRequest_changesOnly :
    ChangesOnly [.totals, .openOrders, .orders, .mode, .queue, .notices, .labels, .ports] s (closeOrderRequest n p s).1 := by
  dsimp only [closeOrderRequest]
  repeat' split
  all_goals first
    | exact refl s
    | exact (closeEmpty_changesOnly s _).mono (by simp)
    | exact ((compose_changesOnly s n _).mono (by simp)).andThen (onOrder_changesOnly _ _ _) (by simp)

theorem reprintRequest_changesOnly : ChangesOnly [.labels, .ports] s (reprintRequest n p s).1 := by
  dsimp only [reprintRequest]
  repeat' split
  all_goals first
    | exact refl s
    | exact compose_changesOnly s n _

theorem callNextRequest_changesOnly : ChangesOnly [.queue, .totals, .ports] s (callNextRequest n p s).1 := by
  dsimp only [callNextRequest]
  split
  · exact refl s
  · exact refl s
  · next c _ _ =>
    have hreleased : ChangesOnly [.queue, .totals, .ports] s (s.releaseServing c) :=
      (releaseServing_changesOnly s c).mono (by simp)
    split
    · exact hreleased
    · exact hreleased.andThen (callTicket_changesOnly _ c n _ _) (by simp)

theorem recallRequest_changesOnly : ChangesOnly [.ports] s (recallRequest n p s).1 := by
  dsimp only [recallRequest]
  repeat' split
  all_goals first
    | exact refl s
    | exact display_changesOnly s _ _ n

theorem recallMissedRequest_changesOnly : ChangesOnly [.queue, .ports] s (recallMissedRequest n p s).1 := by
  dsimp only [recallMissedRequest]
  repeat' split
  all_goals first
    | exact refl s
    | exact recallNumber_changesOnly s _ n _

theorem pluWriteRequest_changesOnly : ChangesOnly [.plu, .pricing] s (pluWriteRequest p s).1 := by
  dsimp only [pluWriteRequest]
  repeat' split
  all_goals first
    | exact refl s
    | exact ((changesOnly_plu s _).mono (by simp)).andThen (stepGeneration_changesOnly _) (by simp)

theorem pluRemoveRequest_changesOnly : ChangesOnly [.plu, .pricing] s (pluRemoveRequest p s).1 := by
  dsimp only [pluRemoveRequest]
  repeat' split
  all_goals first
    | exact refl s
    | exact ((removalStep_changesOnly s _ _).mono (by simp)).andThen (stepGeneration_changesOnly _) (by simp)

theorem batchAddRequest_changesOnly : ChangesOnly [.pricing] s (batchAddRequest p s).1 := by
  dsimp only [batchAddRequest]
  repeat' split
  all_goals first
    | exact refl s
    | exact onPricing_changesOnly s _

theorem openCounterRequest_changesOnly : ChangesOnly [.mode, .queue, .notices] s (openCounterRequest p s).1 := by
  dsimp only [openCounterRequest]
  repeat' split
  all_goals first
    | exact refl s
    | exact enterState_changesOnly s _

theorem closeCounterRequest_changesOnly : ChangesOnly [.mode, .queue, .notices] s (closeCounterRequest p s).1 := by
  dsimp only [closeCounterRequest]
  repeat' split
  all_goals first
    | exact refl s
    | exact closeCounter_changesOnly s

theorem timeSetRequest_changesOnly :
    ChangesOnly [.clock, .session, .notices, .plu, .pricing] s (timeSetRequest p s).1 := by
  dsimp only [timeSetRequest]
  repeat' split
  all_goals first
    | exact refl s
    | exact stepTime_changesOnly s _

theorem settingsWriteRequest_changesOnly : ChangesOnly [.pricing, .queue] s (settingsWriteRequest p s).1 := by
  dsimp only [settingsWriteRequest]
  repeat' split
  all_goals first
    | exact refl s
    | exact writeSettings_changesOnly s _

theorem clerkWriteRequest_changesOnly : ChangesOnly [.orders, .clerks, .queue] s (clerkWriteRequest p s).1 := by
  dsimp only [clerkWriteRequest]
  repeat' split
  all_goals first
    | exact refl s
    | exact writeClerk_changesOnly s _ _ _

theorem profileWriteRequest_changesOnly : ChangesOnly [.profiles] s (profileWriteRequest p s).1 := by
  dsimp only [profileWriteRequest]
  repeat' split
  all_goals first
    | exact refl s
    | exact changesOnly_profiles s _

theorem zCloseRequest_changesOnly : ChangesOnly [.totals, .plu, .queue, .notices] s (zCloseRequest p s).1 := by
  dsimp only [zCloseRequest]
  repeat' split
  all_goals first
    | exact refl s
    | exact zClose_changesOnly s

theorem noticeTakeRequest_changesOnly : ChangesOnly [.notices] s (noticeTakeRequest p s).1 := by
  dsimp only [noticeTakeRequest]
  repeat' split
  all_goals first
    | exact refl s
    | exact onNotices_changesOnly s _

theorem noticeEnableRequest_changesOnly : ChangesOnly [.notices] s (noticeEnableRequest p s).1 := by
  dsimp only [noticeEnableRequest]
  repeat' split
  all_goals first
    | exact refl s
    | exact onNotices_changesOnly s _

theorem noticeDisableRequest_changesOnly : ChangesOnly [.notices] s (noticeDisableRequest p s).1 := by
  dsimp only [noticeDisableRequest]
  repeat' split
  all_goals first
    | exact refl s
    | exact onNotices_changesOnly s _

theorem flagsClearRequest_changesOnly : ChangesOnly [.notices] s (flagsClearRequest p s).1 := by
  dsimp only [flagsClearRequest]
  repeat' split
  all_goals first
    | exact refl s
    | exact onNotices_changesOnly s _

theorem serviceOpenRequest_changesOnly : ChangesOnly [.session] s (serviceOpenRequest p s).1 := by
  dsimp only [serviceOpenRequest]
  repeat' split
  all_goals first
    | exact refl s
    | exact changesOnly_session s _ _ _ _ _ _

theorem serviceAbandonRequest_changesOnly :
    ChangesOnly [.session, .roster, .weighing] s (serviceAbandonRequest p s).1 := by
  dsimp only [serviceAbandonRequest]
  repeat' split
  all_goals first
    | exact refl s
    | exact (idleSession_changesOnly s).mono (by simp)
    | exact endUnchanged_changesOnly s _

theorem takeTicketRequest_changesOnly : ChangesOnly [.queue, .notices] s (takeTicketRequest p s).1 := by
  dsimp only [takeTicketRequest]
  repeat' split
  all_goals first
    | exact refl s
    | exact blockDispenser_changesOnly s
    | exact issueTicket_changesOnly s

theorem enrolRequest_changesOnly :
    ChangesOnly [.labels, .ports, .notices, .orders, .clerks, .queue, .weighing, .roster] s (enrolRequest n p s).1 := by
  dsimp only [enrolRequest]
  repeat' split
  all_goals first
    | exact refl s
    | exact enrolStation_changesOnly s n _

theorem acceptSale_changesOnly (c : ClerkNo) (labelled : Bool) (r : Priced) :
    ChangesOnly [.orders, .labels, .ports, .queue, .weighing] s (acceptSale n c labelled r s).1 := by
  dsimp only [acceptSale]
  split
  · exact refl s
  · split
    · exact (((onOrder_changesOnly s c _).mono (by simp)).andThen (compose_changesOnly _ n _) (by simp)).andThen
        (useTare_changesOnly _ n _) (by simp)
    · exact (((onOrder_changesOnly s c _).mono (by simp)).andThen (goodsConfirmed_changesOnly _ c _) (by simp)).andThen
        (useTare_changesOnly _ n _) (by simp)

theorem saleRequest_changesOnly (labelled : Bool) :
    ChangesOnly [.orders, .openOrders, .labels, .ports, .queue, .weighing] s (saleRequest labelled n p s).1 := by
  dsimp only [saleRequest]
  repeat' split
  all_goals first
    | exact refl s
    | exact ((withOrder_changesOnly s _ n).mono (by simp)).andThen (acceptSale_changesOnly _ n _ labelled _) (by simp)

theorem pluWipeRequest_changesOnly : ChangesOnly [.plu, .pricing] s (pluWipeRequest p s).1 := by
  have hwiped (rs : List PluRecord) : ChangesOnly [.plu, .pricing] s (rs.foldl State.wipeStep s) :=
    (foldl wipeStep_changesOnly rs s).mono (by simp)
  dsimp only [pluWipeRequest]
  split
  · exact refl s
  · split
    · exact refl s
    · exact ite (hwiped _) ((hwiped _).andThen (stepGeneration_changesOnly _) (by simp))

theorem batchCommitRequest_changesOnly : ChangesOnly [.plu, .pricing, .notices] s (batchCommitRequest p s).1 := by
  have harmed (f : PricingUnit → PricingUnit) : ChangesOnly [.plu, .pricing, .notices] s (s.onPricing f) :=
    (onPricing_changesOnly s f).mono (by simp)
  dsimp only [batchCommitRequest]
  split
  · exact refl s
  · exact ite ((harmed _).andThen (activate_changesOnly _) (by simp)) (harmed _)

theorem rollLoadedRequest_changesOnly : ChangesOnly [.queue, .notices] s (rollLoadedRequest p s).1 :=
  ((changesOnly_queue s _).mono (by simp)).andThen (raiseIf_changesOnly _ _ _) (by simp)

theorem judgeKey_changesOnly (st : StationNo) (words : List Word32) :
    ChangesOnly [.session, .notices, .roster, .clerks, .queue, .weighing] s (judgeKey s st words).1 := by
  unfold judgeKey
  repeat' split
  · exact (idleSession_changesOnly s).mono (by simp)
  · exact (openSession_changesOnly s st).mono (by simp)
  · exact (failKey_changesOnly s st).mono (by simp)

theorem serviceKeyRequest_changesOnly :
    ChangesOnly [.session, .notices, .roster, .clerks, .queue, .weighing] s (serviceKeyRequest p s).1 := by
  dsimp only [serviceKeyRequest]
  repeat' split
  all_goals first
    | exact refl s
    | exact (changesOnly_session s _ _ _ _ _ _).mono (by simp)
    | exact judgeKey_changesOnly s _ _

/-- A request of the open session changes what its action does from the state with the inactivity timer restarted. -/
theorem inOpen_changesOnly {bs : List Part} {act : StationNo → CalFields → Option (List Word32) → State → Answer}
    (hsession : [.session] ⊆ bs) (h : ∀ st staged key u, ChangesOnly bs u (act st staged key u).1) :
    ChangesOnly bs s (inOpen act s).1 := by
  unfold inOpen
  split
  · exact ((restartInactivity_changesOnly s).mono hsession).trans (h _ _ _ _)
  all_goals exact refl s

theorem calReadRequest_changesOnly : ChangesOnly [.session] s (calReadRequest p s).1 :=
  inOpen_changesOnly s (by simp) fun _ _ _ u => refl u

theorem calWriteRequest_changesOnly : ChangesOnly [.session] s (calWriteRequest p s).1 := by
  refine inOpen_changesOnly s (by simp) fun st _ key u => ?_
  dsimp only
  split
  · exact stage_changesOnly u st _ key
  · exact refl u

theorem captureZeroRequest_changesOnly : ChangesOnly [.session] s (captureZeroRequest p s).1 := by
  refine inOpen_changesOnly s (by simp) fun st _ key u => ?_
  split
  · exact refl u
  · exact stage_changesOnly u st _ key

theorem captureSpanRequest_changesOnly : ChangesOnly [.session] s (captureSpanRequest p s).1 := by
  refine inOpen_changesOnly s (by simp) fun st _ key u => ?_
  dsimp only
  split
  · exact refl u
  · exact stage_changesOnly u st _ key

theorem keyChangeRequest_changesOnly : ChangesOnly [.session] s (keyChangeRequest p s).1 :=
  inOpen_changesOnly s (by simp) fun st _ _ u => stage_changesOnly u st _ _

theorem serviceCloseRequest_changesOnly :
    ChangesOnly [.records, .session, .notices, .weighing, .roster] s (serviceCloseRequest p s).1 := by
  refine inOpen_changesOnly s (by simp) fun st _ key u => ?_
  dsimp only
  repeat' split
  · exact refl u
  · exact refl u
  · exact closeSession_changesOnly u st _ key

end Sys2Proof.Machine
end

section
/-! The effects that a step is made of: what requests, reports, timers and lines do, each with the parts it changes. -/

namespace Sys2Proof.Machine

open ChangesOnly

/-! ## Requests by command -/

/-- What the command that takes a request does with its payload; the other events answer nothing. -/
def requestAct : Instr → List Byte → State → Answer
  | .enrol n => enrolRequest n
  | .zero n => zeroRequest n
  | .tareKey n => tareKeyRequest n
  | .tareSet n => tareSetRequest n
  | .tareClear n => tareClearRequest n
  | .clerkOn n => clerkOnRequest n
  | .clerkOff n => clerkOffRequest n
  | .quote n => quoteRequest n
  | .label n => saleRequest true n
  | .addItem n => saleRequest false n
  | .voidItem n => voidItemRequest n
  | .parkOrder n => parkOrderRequest n
  | .claimOrder n => claimOrderRequest n
  | .closeOrder n => closeOrderRequest n
  | .reprint n => reprintRequest n
  | .callNext n => callNextRequest n
  | .recall n => recallRequest n
  | .recallMissed n => recallMissedRequest n
  | .pluWrite => pluWriteRequest
  | .pluRead => pluReadRequest
  | .pluRemove => pluRemoveRequest
  | .pluWipe => pluWipeRequest
  | .batchAdd => batchAddRequest
  | .batchCommit => batchCommitRequest
  | .batchClear => batchClearRequest
  | .batchStatus => batchStatusRequest
  | .openCounter => openCounterRequest
  | .closeCounter => closeCounterRequest
  | .timeSet => timeSetRequest
  | .settingsWrite => settingsWriteRequest
  | .settingsRead => settingsReadRequest
  | .clerkWrite => clerkWriteRequest
  | .clerkRead => clerkReadRequest
  | .profileWrite => profileWriteRequest
  | .statusRead _ => statusReadRequest
  | .totalsRead => totalsReadRequest
  | .zClose => zCloseRequest
  | .reportRead => reportReadRequest
  | .reportRelease => reportReleaseRequest
  | .noticeTake => noticeTakeRequest
  | .noticeEnable => noticeEnableRequest
  | .noticeDisable => noticeDisableRequest
  | .flagsRead => flagsReadRequest
  | .flagsClear => flagsClearRequest
  | .serviceOpen => serviceOpenRequest
  | .serviceKey => serviceKeyRequest
  | .calRead => calReadRequest
  | .calWrite => calWriteRequest
  | .captureZero => captureZeroRequest
  | .captureSpan => captureSpanRequest
  | .keyChange => keyChangeRequest
  | .serviceClose => serviceCloseRequest
  | .serviceAbandon => serviceAbandonRequest
  | .take => takeTicketRequest
  | .rollLoaded => rollLoadedRequest
  | _ => fun _ s => (s, okReply [])

/-- A command that takes a request answers it with its act. -/
theorem exec_of_requestOf {i : Instr} {p : Port} {k : RequestKind} (h : requestOf i = some (p, k)) (s : State) :
    exec i s = answer p k (requestAct i) s := by
  cases i <;> cases h <;> rfl

/-- The parts that a request can change. -/
def requestParts : Instr → List Part
  | .enrol _ => [.labels, .ports, .notices, .orders, .clerks, .queue, .weighing, .roster]
  | .zero _ => [.weighing]
  | .tareKey _ => [.weighing]
  | .tareSet _ => [.weighing]
  | .tareClear _ => [.weighing]
  | .clerkOn _ => [.orders, .clerks]
  | .clerkOff _ => [.orders, .clerks, .queue]
  | .label _ => [.orders, .openOrders, .labels, .ports, .queue, .weighing]
  | .addItem _ => [.orders, .openOrders, .labels, .ports, .queue, .weighing]
  | .voidItem _ => [.orders]
  | .parkOrder _ => [.orders]
  | .claimOrder _ => [.orders, .clerks]
  | .closeOrder _ => [.totals, .openOrders, .orders, .mode, .queue, .notices, .labels, .ports]
  | .reprint _ => [.labels, .ports]
  | .callNext _ => [.queue, .totals, .ports]
  | .recall _ => [.ports]
  | .recallMissed _ => [.queue, .ports]
  | .pluWrite => [.plu, .pricing]
  | .pluRemove => [.plu, .pricing]
  | .pluWipe => [.plu, .pricing]
  | .batchAdd => [.pricing]
  | .batchCommit => [.plu, .pricing, .notices]
  | .batchClear => [.pricing]
  | .openCounter => [.mode, .queue, .notices]
  | .closeCounter => [.mode, .queue, .notices]
  | .timeSet => [.clock, .session, .notices, .plu, .pricing]
  | .settingsWrite => [.pricing, .queue]
  | .clerkWrite => [.orders, .clerks, .queue]
  | .profileWrite => [.profiles]
  | .zClose => [.totals, .plu, .queue, .notices]
  | .reportRelease => [.totals]
  | .noticeTake => [.notices]
  | .noticeEnable => [.notices]
  | .noticeDisable => [.notices]
  | .flagsClear => [.notices]
  | .serviceOpen => [.session]
  | .serviceKey => [.session, .notices, .roster, .clerks, .queue, .weighing]
  | .calRead => [.session]
  | .calWrite => [.session]
  | .captureZero => [.session]
  | .captureSpan => [.session]
  | .keyChange => [.session]
  | .serviceClose => [.records, .session, .notices, .weighing, .roster]
  | .serviceAbandon => [.session, .roster, .weighing]
  | .take => [.queue, .notices]
  | .rollLoaded => [.queue, .notices]
  | _ => []

theorem reportReleaseRequest_changesOnly (s : State) (p : List Byte) :
    ChangesOnly [.totals] s (reportReleaseRequest p s).1 :=
  .of_parts fun b => by cases b <;> rfl

theorem requestAct_changesOnly (i : Instr) (p : List Byte) (s : State) :
    ChangesOnly (requestParts i) s (requestAct i p s).1 := by
  match i with
  | .enrol n => exact enrolRequest_changesOnly s n p
  | .zero n => exact zeroRequest_changesOnly s n p
  | .tareKey n => exact tareKeyRequest_changesOnly s n p
  | .tareSet n => exact tareSetRequest_changesOnly s n p
  | .tareClear n => exact tareClearRequest_changesOnly s n p
  | .clerkOn n => exact clerkOnRequest_changesOnly s n p
  | .clerkOff n => exact clerkOffRequest_changesOnly s n p
  | .quote n => exact (quoteRequest_state s n p).symm ▸ refl s
  | .label n => exact saleRequest_changesOnly s n p true
  | .addItem n => exact saleRequest_changesOnly s n p false
  | .voidItem n => exact voidItemRequest_changesOnly s n p
  | .parkOrder n => exact parkOrderRequest_changesOnly s n p
  | .claimOrder n => exact claimOrderRequest_changesOnly s n p
  | .closeOrder n => exact closeOrderRequest_changesOnly s n p
  | .reprint n => exact reprintRequest_changesOnly s n p
  | .callNext n => exact callNextRequest_changesOnly s n p
  | .recall n => exact recallRequest_changesOnly s n p
  | .recallMissed n => exact recallMissedRequest_changesOnly s n p
  | .pluWrite => exact pluWriteRequest_changesOnly s p
  | .pluRead => exact (pluReadRequest_state s p).symm ▸ refl s
  | .pluRemove => exact pluRemoveRequest_changesOnly s p
  | .pluWipe => exact pluWipeRequest_changesOnly s p
  | .batchAdd => exact batchAddRequest_changesOnly s p
  | .batchCommit => exact batchCommitRequest_changesOnly s p
  | .batchClear => exact emptyBatch_changesOnly s
  | .batchStatus => exact refl s
  | .openCounter => exact openCounterRequest_changesOnly s p
  | .closeCounter => exact closeCounterRequest_changesOnly s p
  | .timeSet => exact timeSetRequest_changesOnly s p
  | .settingsWrite => exact settingsWriteRequest_changesOnly s p
  | .settingsRead => exact refl s
  | .clerkWrite => exact clerkWriteRequest_changesOnly s p
  | .clerkRead => exact (clerkReadRequest_state s p).symm ▸ refl s
  | .profileWrite => exact profileWriteRequest_changesOnly s p
  | .statusRead n => exact refl s
  | .totalsRead => exact (totalsReadRequest_state s p).symm ▸ refl s
  | .zClose => exact zCloseRequest_changesOnly s p
  | .reportRead => exact (reportReadRequest_state s p).symm ▸ refl s
  | .reportRelease => exact reportReleaseRequest_changesOnly s p
  | .noticeTake => exact noticeTakeRequest_changesOnly s p
  | .noticeEnable => exact noticeEnableRequest_changesOnly s p
  | .noticeDisable => exact noticeDisableRequest_changesOnly s p
  | .flagsRead => exact refl s
  | .flagsClear => exact flagsClearRequest_changesOnly s p
  | .serviceOpen => exact serviceOpenRequest_changesOnly s p
  | .serviceKey => exact serviceKeyRequest_changesOnly s p
  | .calRead => exact calReadRequest_changesOnly s p
  | .calWrite => exact calWriteRequest_changesOnly s p
  | .captureZero => exact captureZeroRequest_changesOnly s p
  | .captureSpan => exact captureSpanRequest_changesOnly s p
  | .keyChange => exact keyChangeRequest_changesOnly s p
  | .serviceClose => exact serviceCloseRequest_changesOnly s p
  | .serviceAbandon => exact serviceAbandonRequest_changesOnly s p
  | .take => exact takeTicketRequest_changesOnly s p
  | .rollLoaded => exact rollLoadedRequest_changesOnly s p
  | .resetAssert | .resetRelease | .loadHoldRelease | .frameArrival .. | .gapLimitExpiry _ | .frameSent _ | .sample ..
  | .printDone .. | .printFail .. | .linkReset _ | .printDeadlineExpiry _ | .silenceExpiry _ | .beatExpiry | .clockTick | .batchActivation
  | .sequenceTimerExpiry | .inactivityExpiry | .characterReceived .. | .loadHoldAssert | .batteryFailure => exact refl s

/-! ## Causes -/

/-- A service sequence's timer run out with RESET high: the session idle, when the timer runs. -/
def State.idleOnExpiry (s : State) : State :=
  if s.resetLow then s else if s.lock.sequence.isSome then s.idleSession else s

/-- LOAD_HOLD released with RESET high: the line's level, and in LOADING the entry to CLOSED. -/
def State.closeFromLoading (s : State) : State := if s.counter.state = .loading then s.enterState .closed else s

/-- LOAD_HOLD released: while RESET is low the line's level alone. -/
def State.holdReleased (s : State) : State :=
  if s.resetLow then { s with loadHold := false } else ({ s with loadHold := false } : State).closeFromLoading

/-- A clock second: while RESET is low the clock alone. -/
def State.secondPassed (s : State) : State :=
  if s.resetLow then s.setClock s.clock.tick else (s.setClock s.clock.tick).dayCheck.activateIfDue

/-- RESET released, when it is low. -/
def State.resetReleased (s : State) : State :=
  if s.resetLow then ({ s with resetLow := false } : State).powerOn else s

/-- The battery failing, which tells while RESET is low. -/
def State.batteryFailed (s : State) : State := if s.resetLow then { s with markerOk := false } else s

/-- What brings about a change of the hub's blocks, but for the taking, queueing and sending of frames: a good frame's
silence restart, the reports, the end of a label's sending, the timers, the clock, a request's act, the lines, and the
battery. -/
inductive Cause where
  | goodFrame (p : Port)
  | sample (n : StationNo) (count : Int)
  | printDone (n : StationNo) (label : Nat)
  | printFail (n : StationNo) (label : Nat)
  | lost (n : StationNo)
  | deadlineSet (n : StationNo) (f : TxFrame)
  | deadlineExpired (n : StationNo)
  | beat
  | tick
  | activation
  | sequenceExpired
  | inactivityExpired
  | request (i : Instr) (payload : List Byte)
  | resetAssert
  | resetRelease
  | holdRelease
  | holdAssert
  | battery

/-- What a cause does. -/
def Cause.run : Cause → State → State
  | .goodFrame p, s => s.goodFrame p
  | .sample n count, s => s.sample n count
  | .printDone n k, s => s.printDone n k
  | .printFail n k, s => s.printFail n k
  | .lost n, s => s.loseIfPresent n
  | .deadlineSet n f, s => s.setDeadline n f
  | .deadlineExpired n, s => s.deadlineExpired n
  | .beat, s => s.beatAll
  | .tick, s => s.secondPassed
  | .activation, s => s.activateIfDue
  | .sequenceExpired, s => s.idleOnExpiry
  | .inactivityExpired, s => s.inactivityExpired
  | .request i payload, s => (requestAct i payload s).1
  | .resetAssert, s => s.enterReset
  | .resetRelease, s => s.resetReleased
  | .holdRelease, s => s.holdReleased
  | .holdAssert, s => { s with loadHold := true }
  | .battery, s => s.batteryFailed

/-- The parts a cause can change. -/
def Cause.parts : Cause → List Part
  | .goodFrame _ => [.roster]
  | .sample _ _ => [.weighing, .ports]
  | .printDone _ _ => [.labels, .ports, .plu, .totals, .openOrders, .orders, .mode, .queue, .notices]
  | .printFail _ _ => [.labels, .ports, .notices, .orders]
  | .lost _ => [.labels, .ports, .notices, .orders, .clerks, .queue, .weighing, .roster]
  | .deadlineSet _ _ => [.labels]
  | .deadlineExpired _ => [.labels, .ports, .notices, .orders]
  | .beat => [.ports, .beat]
  | .tick => [.clock, .session, .plu, .pricing, .notices]
  | .activation => [.plu, .pricing, .notices]
  | .sequenceExpired => [.session]
  | .inactivityExpired => [.session, .roster, .weighing]
  | .request i _ => requestParts i
  | .resetAssert => [.lines, .ports, .beat, .roster, .labels, .session]
  | .resetRelease =>
    [.lines, .ports, .notices, .mode, .clock, .beat, .roster, .weighing, .plu, .pricing, .clerks, .orders, .labels,
      .queue, .totals, .openOrders, .records, .profiles, .session]
  | .holdRelease => [.lines, .mode, .queue, .notices]
  | .holdAssert => [.lines]
  | .battery => [.lines]

theorem changesOnly_lines (s : State) (x y z : Bool) :
    ChangesOnly [.lines] s { s with resetLow := x, loadHold := y, markerOk := z } :=
  .of_parts fun b => by cases b <;> rfl

theorem powerOn_pending (s : State) : s.powerOn.pending = s.pending := by
  have hk (t : State) : t.checkMarker.pending = t.pending := by
    unfold State.checkMarker
    split <;> rfl
  have hl (t : State) : t.countLost.pending = t.pending := by
    unfold State.countLost
    dsimp only
    split <;> rfl
  have hd (t : State) : t.dayCheck.pending = t.pending := dayCheck_changesOnly t .pending (by simp)
  have he (t : State) (c : CounterState) : t.sampleLoadHold.pending = t.pending :=
    enterState_changesOnly t _ .pending (by simp)
  calc s.powerOn.pending = (((s.checkMarker.initVolatile).countLost.dayCheck).sampleLoadHold).pending := rfl
    _ = s.checkMarker.pending := by rw [he _ .closed, hd, hl]; rfl
    _ = s.pending := hk s

theorem Cause.run_changesOnly (c : Cause) (s : State) : ChangesOnly c.parts s (c.run s) := by
  cases c with
  | goodFrame p => exact goodFrame_changesOnly s p
  | sample n count => exact sample_changesOnly s n count
  | printDone n k => exact printDone_changesOnly s n k
  | printFail n k => exact printFail_changesOnly s n k
  | lost n => exact loseIfPresent_changesOnly s n
  | deadlineSet n f => exact setDeadline_changesOnly s n f
  | deadlineExpired n => exact deadlineExpired_changesOnly s n
  | beat => exact beatAll_changesOnly s
  | tick =>
    have h : ChangesOnly [.clock, .session, .plu, .pricing, .notices] s (s.setClock s.clock.tick) :=
      (setClock_changesOnly s _).mono (by simp)
    exact ChangesOnly.ite h ((h.andThen (dayCheck_changesOnly _) (by simp)).andThen (activateIfDue_changesOnly _) (by simp))
  | activation => exact activateIfDue_changesOnly s
  | sequenceExpired => exact ChangesOnly.ite (refl s) (ChangesOnly.ite (idleSession_changesOnly s) (refl s))
  | inactivityExpired => exact inactivityExpired_changesOnly s
  | request i payload => exact requestAct_changesOnly i payload s
  | resetAssert => exact .of_parts fun b => by cases b <;> rfl
  | resetRelease =>
    refine ChangesOnly.ite ?_ (refl s)
    intro b hb
    cases b
    case pending => exact powerOn_pending _
    all_goals simp [Cause.parts] at hb
  | holdRelease =>
    have h : ChangesOnly [.lines, .mode, .queue, .notices] s { s with loadHold := false } :=
      (changesOnly_lines s s.resetLow false s.markerOk).mono (by simp)
    exact ChangesOnly.ite h (h.trans (ChangesOnly.ite ((enterState_changesOnly _ _).mono (by simp)) (refl _)))
  | holdAssert => exact changesOnly_lines s s.resetLow true s.markerOk
  | battery => exact ChangesOnly.ite (changesOnly_lines s s.resetLow s.loadHold false) (refl s)

end Sys2Proof.Machine
end

section
/-! What the causes leave of the ports, the effects that make up a step, and O53 from them. -/

namespace Sys2Proof.Machine

/-! ## Ports as the blocks leave them -/

/-- Every place of the ports' table is some link's (R173). -/
theorem forall_ports {s : State} {Q : LinkPort → Prop} : (∀ i : Fin 15, Q (s.ports.get i)) ↔ ∀ p : Port, Q (s.port p) := by
  refine ⟨fun h p => h p.index, fun h i => ?_⟩
  have hindex : ∃ p : Port, p.index = i := by
    rcases Nat.lt_or_ge i.val 12 with hi | hi
    · exact ⟨.s ⟨i.val, hi⟩, rfl⟩
    · obtain hi | hi | hi : i = 12 ∨ i = 13 ∨ i = 14 := by omega
      · exact ⟨.b, hi.symm⟩
      · exact ⟨.v, hi.symm⟩
      · exact ⟨.q, hi.symm⟩
  obtain ⟨p, rfl⟩ := hindex
  exact h p

/-- A port whose receiving side and replies are kept, and whose state lane is kept as R178 has it. -/
def LinkPort.Kept (x y : LinkPort) : Prop :=
  y.fifo = x.fifo ∧ y.replyLane = x.replyLane ∧ y.hunter = x.hunter ∧ y.gap = x.gap
    ∧ (StateLaneOk x.stateLane → StateLaneOk y.stateLane)

/-- Ports as the blocks behind the link controller leave them: each kept, and Q's display lane within its bound. -/
def PortsKept (s t : State) : Prop :=
  (∀ p : Port, (s.port p).Kept (t.port p))
    ∧ ((s.port .q).labelLane.length ≤ Config.displayLaneFrames →
      (t.port .q).labelLane.length ≤ Config.displayLaneFrames)

theorem LinkPort.Kept.refl (x : LinkPort) : x.Kept x := ⟨rfl, rfl, rfl, rfl, id⟩

namespace PortsKept

theorem of_ports {s t : State} (h : t.ports = s.ports) : PortsKept s t := by
  have hport (p : Port) : t.port p = s.port p := congrArg (Table.get · p.index) h
  refine ⟨fun p => ?_, fun hq => ?_⟩
  · rw [hport p]
    exact .refl _
  · rwa [hport .q]

theorem refl (s : State) : PortsKept s s := of_ports rfl

theorem trans {s t u : State} (h : PortsKept s t) (k : PortsKept t u) : PortsKept s u := by
  refine ⟨fun p => ?_, k.2 ∘ h.2⟩
  obtain ⟨h1, h2, h3, h4, h5⟩ := h.1 p
  obtain ⟨k1, k2, k3, k4, k5⟩ := k.1 p
  exact ⟨k1.trans h1, k2.trans h2, k3.trans h3, k4.trans h4, k5 ∘ h5⟩

theorem of_changesOnly {bs : List Part} {s t : State} (h : ChangesOnly bs s t)
    (hb : Part.ports ∉ bs) : PortsKept s t := of_ports (h .ports hb)

theorem ite {s t u : State} {c : Prop} [Decidable c] (h : PortsKept s t) (k : PortsKept s u) :
    PortsKept s (if c then t else u) := by
  split
  · exact h
  · exact k

/-- One port changed, and Q's display lane held to its bound. -/
theorem onPort {s : State} {p : Port} {f : LinkPort → LinkPort} (hf : (s.port p).Kept (f (s.port p)))
    (hq : p = .q → (f (s.port .q)).labelLane.length ≤ Config.displayLaneFrames) : PortsKept s (s.onPort p f) := by
  refine ⟨fun p' => ?_, fun h => ?_⟩
  · rw [State.onPort_port]
    split
    · next e => exact e ▸ hf
    · exact .refl _
  · rw [State.onPort_port]
    split
    · next e => exact e ▸ hq e.symm
    · exact h

/-- A station's port changed. -/
theorem onStation {s : State} {n : StationNo} {f : LinkPort → LinkPort} (hf : (s.port (.s n)).Kept (f (s.port (.s n)))) :
    PortsKept s (s.onPort (.s n) f) := onPort hf fun h => nomatch h

end PortsKept

/-! ## The operations that reach the ports -/

theorem StateLaneOk.sublist {fs gs : List TxFrame} (h : StateLaneOk fs) (hsub : gs.Sublist fs) : StateLaneOk gs :=
  ⟨h.1.sublist (hsub.map _), fun f hf => h.2 f (hsub.subset hf)⟩

theorem StateLaneOk.nil : StateLaneOk [] := ⟨List.nodup_nil, by simp⟩

/-- A push handed to the state lane leaves it with one frame of its kind (R178). -/
theorem StateLaneOk.pushState {x : LinkPort} {f : TxFrame} (hk : f.kind = weightKind ∨ f.kind = beatKind)
    (h : StateLaneOk x.stateLane) : StateLaneOk (x.pushState f).stateLane := by
  have hfiltered := h.sublist (List.filter_sublist (p := fun g : TxFrame => g.kind != f.kind))
  refine ⟨?_, fun g hg => ?_⟩
  · simp only [LinkPort.pushState, List.map_append, List.map_cons, List.map_nil]
    refine List.nodup_append.mpr ⟨hfiltered.1, by simp, ?_⟩
    simp only [List.mem_map, List.mem_filter, bne_iff_ne, List.mem_singleton]
    rintro _ ⟨g, ⟨-, hne⟩, rfl⟩ _ rfl
    exact hne
  · rcases LinkPort.mem_pushState.mp hg with rfl | ⟨hm, -⟩
    · exact hk
    · exact h.2 g hm

section
variable (s : State) (n : StationNo)

theorem pushToStation_portsKept (kind : Byte) (payload : List Byte) (hk : kind = weightKind ∨ kind = beatKind) :
    PortsKept s (s.pushToStation n kind payload) :=
  .onStation ⟨rfl, rfl, rfl, rfl, StateLaneOk.pushState hk⟩

theorem display_portsKept (action k : Nat) : PortsKept s (s.display action k n) := by
  refine .onPort ⟨rfl, rfl, rfl, rfl, id⟩ fun _ => ?_
  rw [LinkPort.length_pushDisplay]
  exact Nat.min_le_right _ _

theorem compose_portsKept (mk : Nat → LabelRecord) : PortsKept s (s.compose n mk) :=
  (PortsKept.of_changesOnly (setPrinter_changesOnly s n _) (by simp)).trans (.onStation ⟨rfl, rfl, rfl, rfl, id⟩)

theorem freeSlot_portsKept : PortsKept s (s.freeSlot n) :=
  (PortsKept.of_changesOnly (setPrinter_changesOnly s n _) (by simp)).trans (.onStation ⟨rfl, rfl, rfl, rfl, id⟩)

theorem sample_portsKept (count : Int) : PortsKept s (s.sample n count) := by
  unfold State.sample
  split
  · exact .refl s
  · exact (PortsKept.of_changesOnly (setContext_changesOnly s n _) (by simp)).trans (pushToStation_portsKept _ n _ _ (.inl rfl))
  · exact (PortsKept.of_changesOnly (setContext_changesOnly s n _) (by simp)).trans (pushToStation_portsKept _ n _ _ (.inl rfl))

theorem failLabel_portsKept (r : LabelRecord) (cause : FailCause) : PortsKept s (s.failLabel n r cause) :=
  ((freeSlot_portsKept s n).trans (.of_changesOnly (raise_changesOnly _ _ _) (by simp))).trans
    (.of_changesOnly (handFailure_changesOnly _ r) (by simp))

theorem finishLabel_portsKept (r : LabelRecord) : PortsKept s (s.finishLabel n r) := by
  have hkept : PortsKept s
      (((s.freeSlot n).setPrinter n { (s.freeSlot n).printer n with last := some r }).countLabel n) :=
    ((freeSlot_portsKept s n).trans (.of_changesOnly (setPrinter_changesOnly _ n _) (by simp))).trans
      (.of_changesOnly (countLabel_changesOnly _ n) (by simp))
  unfold State.finishLabel
  dsimp only
  split
  · exact hkept.trans (.of_changesOnly (confirmItem_changesOnly _ _ _) (by simp))
  · exact hkept.trans (.of_changesOnly (closePrinted_changesOnly _ _ _) (by simp))
  · exact (freeSlot_portsKept s n).trans (.of_changesOnly (countReprint_changesOnly _ n) (by simp))

theorem loseLabels_portsKept : PortsKept s (s.loseLabels n) := by
  unfold State.loseLabels
  refine PortsKept.trans (t := _) ?_ (.of_changesOnly (setPrinter_changesOnly _ n _) (by simp))
  split
  · exact failLabel_portsKept s n _ _
  · exact freeSlot_portsKept s n

theorem detach_portsKept : PortsKept s (s.detach n) :=
  (((((loseLabels_portsKept s n).trans (.of_changesOnly (parkHeld_changesOnly _ n) (by simp))).trans
    (.of_changesOnly (unbindRelease_changesOnly _ n) (by simp))).trans (.of_changesOnly (clearContext_changesOnly _ n) (by simp))).trans
      (.of_changesOnly (setStation_changesOnly _ n _) (by simp))).trans (.onStation ⟨rfl, rfl, rfl, rfl, fun _ => .nil⟩)

theorem loseIfPresent_portsKept : PortsKept s (s.loseIfPresent n) :=
  .ite (.refl s) ((detach_portsKept s n).trans (.of_changesOnly (raise_changesOnly _ _ _) (by simp)))

theorem enrolStation_portsKept (r : StationRecord) : PortsKept s (s.enrolStation n r) :=
  ((PortsKept.ite (.refl s) (detach_portsKept s n)).trans (.of_changesOnly (setStation_changesOnly _ n _) (by simp))).trans
    (.of_changesOnly (clearContext_changesOnly _ n) (by simp))

theorem beatAll_portsKept : PortsKept s s.beatAll := by
  refine PortsKept.trans (t := (List.finRange 12).foldl State.beatTo s) ?_ (.of_changesOnly (changesOnly_beat _ _) (by simp))
  generalize List.finRange 12 = ns
  induction ns generalizing s with
  | nil => exact .refl s
  | cons m ms ih =>
    exact (PortsKept.ite (.refl s) (pushToStation_portsKept s m _ _ (.inr rfl))).trans (ih (s.beatTo m))

theorem acceptSale_portsKept (c : ClerkNo) (labelled : Bool) (r : Priced) :
    PortsKept s (acceptSale n c labelled r s).1 := by
  dsimp only [acceptSale]
  split
  · exact .refl s
  · split
    · exact ((PortsKept.of_changesOnly (onOrder_changesOnly s c _) (by simp)).trans (compose_portsKept _ n _)).trans
        (.of_changesOnly (useTare_changesOnly _ n _) (by simp))
    · exact ((PortsKept.of_changesOnly (onOrder_changesOnly s c _) (by simp)).trans
        (.of_changesOnly (goodsConfirmed_changesOnly _ c _) (by simp))).trans (.of_changesOnly (useTare_changesOnly _ n _) (by simp))

theorem saleRequest_portsKept (labelled : Bool) (p : List Byte) : PortsKept s (saleRequest labelled n p s).1 := by
  dsimp only [saleRequest]
  repeat' split
  all_goals first
    | exact .refl s
    | exact (PortsKept.of_changesOnly (withOrder_changesOnly s _ n) (by simp)).trans (acceptSale_portsKept _ n _ labelled _)

theorem closeOrderRequest_portsKept (p : List Byte) : PortsKept s (closeOrderRequest n p s).1 := by
  dsimp only [closeOrderRequest]
  repeat' split
  all_goals first
    | exact .refl s
    | exact .of_changesOnly (closeEmpty_changesOnly s _) (by simp)
    | exact (compose_portsKept s n _).trans (.of_changesOnly (onOrder_changesOnly _ _ _) (by simp))

theorem reprintRequest_portsKept (p : List Byte) : PortsKept s (reprintRequest n p s).1 := by
  dsimp only [reprintRequest]
  split
  · exact .refl s
  · exact .refl s
  · exact compose_portsKept s n _

theorem callNextRequest_portsKept (p : List Byte) : PortsKept s (callNextRequest n p s).1 := by
  dsimp only [callNextRequest]
  split
  · exact .refl s
  · exact .refl s
  · next c _ _ =>
    have hreleased : PortsKept s (s.releaseServing c) := .of_changesOnly (releaseServing_changesOnly s c) (by simp)
    split
    · exact hreleased
    · exact (hreleased.trans (.of_ports rfl)).trans (display_portsKept _ n _ _)

theorem recallRequest_portsKept (p : List Byte) : PortsKept s (recallRequest n p s).1 := by
  dsimp only [recallRequest]
  repeat' split
  all_goals first
    | exact .refl s
    | exact display_portsKept s n _ _

theorem recallNumber_portsKept (c : ClerkNo) (m : Missed) : PortsKept s (s.recallNumber c n m) := by
  unfold State.recallNumber
  refine PortsKept.trans ?_ (display_portsKept _ n _ _)
  have hfiltered : PortsKept s
      { s with queue := { s.queue with missed := s.queue.missed.filter fun x => x.number != m.number } } := .of_ports rfl
  exact (hfiltered.trans (.of_changesOnly (releaseServing_changesOnly _ c) (by simp))).trans
    (.of_changesOnly (setServing_changesOnly _ c _) (by simp))

theorem recallMissedRequest_portsKept (p : List Byte) : PortsKept s (recallMissedRequest n p s).1 := by
  dsimp only [recallMissedRequest]
  split
  · exact .refl s
  · exact .refl s
  · split
    · exact .refl s
    · exact recallNumber_portsKept s n _ _

end

/-- A request's act keeps the ports: its FIFO place is freed before it, and its REPLY handed over after it. -/
theorem requestAct_portsKept (i : Instr) (p : List Byte) (s : State) : PortsKept s (requestAct i p s).1 := by
  by_cases hrecall : ∃ n, i = .recall n
  · obtain ⟨n, rfl⟩ := hrecall
    exact recallRequest_portsKept s n p
  cases i with
  | enrol n =>
    change PortsKept s (enrolRequest n p s).1
    unfold enrolRequest
    split
    · exact .refl s
    · exact enrolStation_portsKept s n _
  | label n => exact saleRequest_portsKept s n true p
  | addItem n => exact saleRequest_portsKept s n false p
  | closeOrder n => exact closeOrderRequest_portsKept s n p
  | reprint n => exact reprintRequest_portsKept s n p
  | callNext n => exact callNextRequest_portsKept s n p
  | recallMissed n => exact recallMissedRequest_portsKept s n p
  | _ => exact .of_changesOnly (requestAct_changesOnly _ p s) (by simp [requestParts] at hrecall ⊢)

/-- Every cause but a reset keeps the ports. -/
theorem Cause.run_portsKept {c : Cause} (s : State) (h1 : c ≠ .resetAssert) (h2 : c ≠ .resetRelease) :
    PortsKept s (c.run s) := by
  cases c with
  | resetAssert => exact absurd rfl h1
  | resetRelease => exact absurd rfl h2
  | sample n count => exact sample_portsKept s n count
  | printDone n k =>
    change PortsKept s (s.printDone n k)
    unfold State.printDone
    split
    · exact finishLabel_portsKept s n _
    · exact .refl s
  | printFail n k =>
    change PortsKept s (s.printFail n k)
    unfold State.printFail
    split
    · exact failLabel_portsKept s n _ _
    · exact .refl s
  | lost n => exact loseIfPresent_portsKept s n
  | deadlineExpired n =>
    change PortsKept s (s.deadlineExpired n)
    unfold State.deadlineExpired
    split
    · exact .ite (failLabel_portsKept s n _ _) (.refl s)
    · exact .refl s
  | beat => exact beatAll_portsKept s
  | request i payload => exact requestAct_portsKept i payload s
  | _ => exact .of_changesOnly (Cause.run_changesOnly _ s) (by simp [Cause.parts])

end Sys2Proof.Machine
end

section
/-! The effects that make up a step, once for every law, and O53 from them. -/

namespace Sys2Proof.Machine

/-! ## Effects -/

/-- One effect within a step: of the link controller (a request taken, queued or answered, bytes held by a hunter, a
frame sent, the transmitters' start), of the queue of commands, or of a cause. -/
inductive Effect : State → State → Prop
  | pending (s : State) (cs : List Instr) : Effect s (s.withPending cs)
  | start (s : State) : Effect s s.startAll
  | taken {s : State} {p : Port} {k : RequestKind} {tag : Byte} {payload : List Byte} {rest : List Request}
      (h : Waits s p k tag payload rest) : Effect s (s.freed p rest)
  | answered {s : State} {p : Port} (f : TxFrame) (h : (s.port p).replyLane.length < Config.replyLaneFrames) :
      Effect s (s.onPort p (·.pushReply f))
  | queued {s : State} {p : Port} (r : Request) (h : (s.port p).fifo.length < Config.fifoPlaces) :
      Effect s (s.onPort p fun x => { x with fifo := x.fifo ++ [r] })
  | hunter (s : State) (p : Port) {held : Option (List Byte)} (h : ∀ bs ∈ held, examine bs = .incomplete) :
      Effect s (s.setHunter p held)
  | sent (s : State) (p : Port) : Effect s (s.onPort p fun x => { x with sending := none })
  | cause (c : Cause) (s : State) : Effect s (c.run s)

/-- Effects one after another. -/
def Effects : State → State → Prop := Relation.ReflTransGen Effect

theorem Effects.refl {s : State} : Effects s s := Relation.ReflTransGen.refl

theorem Effects.single {s t : State} (h : Effect s t) : Effects s t := Relation.ReflTransGen.single h

theorem Effects.trans {s t u : State} (h : Effects s t) (k : Effects t u) : Effects s u :=
  Relation.ReflTransGen.trans h k

theorem Effects.cause (c : Cause) (s : State) : Effects s (c.run s) := single (.cause c s)

theorem Effects.started {s t : State} (h : Effects s t) : Effects s t.startAll := h.trans (single (.start t))

theorem Effects.ite {s t u : State} {c : Prop} [Decidable c] (h : Effects s t) (k : Effects s u) :
    Effects s (if c then t else u) := by
  split
  · exact h
  · exact k

/-! ## Frames received (R175, R176) -/

/-- What a search leaves undecided is still incomplete. -/
theorem examine_of_hunt (bs held : List Byte) (h : (hunt bs).2 = some held) : examine held = .incomplete := by
  induction hn : bs.length using Nat.strong_induction_on generalizing bs with
  | _ k ih =>
    subst hn
    cases bs with
    | nil => simp at h
    | cons b bs =>
      by_cases hb : b = syncByte
      · subst hb
        rw [hunt_cons_sync] at h
        split at h
        · next he => cases h; exact he
        · exact ih bs.length (by simp) bs h rfl
        · next f rest he =>
          have := (examine_accepted he).1
          exact ih rest.length (by simp; omega) rest h rfl
      · rw [hunt_cons_other bs hb] at h
        exact ih bs.length (by simp) bs h rfl

theorem State.onPort_id (s : State) (p : Port) : s.onPort p id = s := by
  simp [State.onPort, State.setPort, State.port]

theorem refuseFrame_eq (s : State) (p : Port) (f : Request) (c : ResultCode) :
    s.refuseFrame p f c =
      if (s.port p).replyLane.length < Config.replyLaneFrames then
        s.onPort p (·.pushReply (replyFrame f.kind f.tag (refusal c)))
      else s := by
  unfold State.refuseFrame
  split
  · next h => simp [State.onPort, h]
  · next h =>
    conv_rhs => rw [← s.onPort_id p]
    simp [State.onPort, h]

theorem refuseFrame_effects (s : State) (p : Port) (f : Request) (c : ResultCode) :
    Effects s (s.refuseFrame p f c) := by
  rw [refuseFrame_eq]
  split
  · next h => exact .single (.answered _ h)
  · exact .refl

theorem arrive_effects (s : State) (p : Port) (k : RequestKind) (f : Request) : Effects s (s.arrive p k f) := by
  unfold State.arrive
  split
  · exact refuseFrame_effects s p f _
  · next h =>
    have hroom := firstOf_eq_none.mp h (decide (Config.fifoPlaces ≤ (s.port p).fifo.length), .full)
      (by simp [arrivalTests])
    exact .single (.queued f (by simpa using hroom))

theorem report_effects (s : State) (n : StationNo) (k : ReportKind) (payload : List Byte) :
    Effects s (s.report n k payload) := by
  cases k with
  | sample => exact .cause (.sample n _) s
  | printDone => exact .cause (.printDone n _) s
  | printFail => exact .cause (.printFail n _) s
  | linkReset => exact .cause (.lost n) s

theorem acceptFrame_effects (s : State) (p : Port) (f : Request) : Effects s (s.acceptFrame p f) := by
  have hgood : Effects s (s.goodFrame p) := .cause (.goodFrame p) s
  unfold State.acceptFrame
  dsimp only
  split
  · exact hgood.trans (refuseFrame_effects _ p f _)
  · exact hgood
  · refine hgood.trans ?_
    unfold State.arriveReport
    split
    · exact .ite (report_effects _ _ _ _) .refl
    · exact .refl
  · exact hgood.trans (arrive_effects _ p _ f)

theorem takeHunt_effects (s : State) (p : Port) (bs : List Byte) : Effects s (s.takeHunt p (hunt bs)) := by
  have hfold (fs : List Request) (t : State) : Effects t (fs.foldl (State.acceptFrame p) t) := by
    induction fs generalizing t with
    | nil => exact .refl
    | cons f fs ih => exact (acceptFrame_effects t p f).trans (ih _)
  exact (Effects.single (.hunter s p fun held h => examine_of_hunt bs held h)).trans (hfold _ _)

theorem gapExpired_effects (s : State) (p : Port) : Effects s (s.gapExpired p) := by
  unfold State.gapExpired
  split
  · exact .ite (takeHunt_effects s p _) .refl
  · exact .refl

theorem frameSent_effects (s : State) (p : Port) : Effects s (s.frameSent p) := by
  unfold State.frameSent
  split
  · exact .refl
  · refine Effects.trans (.single (.sent s p)) ?_
    dsimp only
    split
    · exact .cause (.deadlineSet _ _) _
    · exact .refl

/-! ## Steps -/

theorem answer_effects {s t : State} {p : Port} {k : RequestKind} {i : Instr}
    (h : answer p k (requestAct i) s = .next t) : Effects s t := by
  rcases answer_cases h with rfl | ⟨tag, payload, rest, hw, rfl⟩
  · exact .refl
  · have hkept := ((requestAct_portsKept i payload (s.freed p rest)).1 p).2.1
    have hroom : ((requestAct i payload (s.freed p rest)).1.port p).replyLane.length < Config.replyLaneFrames := by
      rw [hkept, State.freed_port_same]
      exact hw.2.2
    exact ((Effects.single (.taken hw)).trans (Effects.cause (.request i payload) _)).trans
      ((Effects.single (.answered _ hroom)).started)

theorem unlessReset_effects {s t : State} {f : State → State} (h : unlessReset s f = .next t)
    (hf : Effects s (f s)) : Effects s t := by
  rcases unlessReset_cases h with ⟨-, rfl⟩ | ⟨-, rfl⟩
  · exact .refl
  · exact hf.started

theorem execClockTick_effects {s t : State} (h : execClockTick s = .next t) : Effects s t := by
  have htick := Effects.cause .tick s
  unfold execClockTick finish at h
  unfold Cause.run State.secondPassed at htick
  split at h <;> simp_all only [if_true, if_false, Bool.false_eq_true] <;> cases h
  · exact htick
  · exact htick.started

theorem execResetRelease_effects {s t : State} (h : execResetRelease s = .next t) : Effects s t := by
  have hrelease := Effects.cause .resetRelease s
  unfold execResetRelease finish at h
  unfold Cause.run State.resetReleased at hrelease
  split at h <;> simp_all only [if_true, if_false, Bool.false_eq_true] <;> cases h
  · exact hrelease.started
  · exact .refl

theorem execLoadHoldRelease_effects {s t : State} (h : execLoadHoldRelease s = .next t) : Effects s t := by
  have hrelease := Effects.cause .holdRelease s
  rcases unlessReset_cases h with ⟨hr, rfl⟩ | ⟨hr, rfl⟩
  · change s.resetLow = true at hr
    rwa [Cause.run, State.holdReleased, if_pos hr] at hrelease
  · change s.resetLow = false at hr
    rw [Cause.run, State.holdReleased, if_neg (by simp [hr])] at hrelease
    exact hrelease.started

theorem execSequenceTimerExpiry_effects {s t : State} (h : execSequenceTimerExpiry s = .next t) : Effects s t := by
  have hexpired := Effects.cause .sequenceExpired s
  rcases unlessReset_cases h with ⟨-, rfl⟩ | ⟨hr, rfl⟩
  · exact .refl
  · rw [Cause.run, State.idleOnExpiry, if_neg (by simp [hr])] at hexpired
    exact hexpired.started

/-- Every command's effects are of the listed kinds. -/
theorem exec_effects {i : Instr} {s t : State} (h : exec i s = .next t) : Effects s t := by
  cases hq : requestOf i with
  | some pk =>
    obtain ⟨p, k⟩ := pk
    rw [exec_of_requestOf hq] at h
    exact answer_effects h
  | none =>
    cases i with
    | resetAssert => cases h; exact .cause .resetAssert s
    | resetRelease => exact execResetRelease_effects h
    | loadHoldRelease => exact execLoadHoldRelease_effects h
    | frameArrival p kind tag payload check =>
      exact unlessReset_effects (f := (·.receive p (frameBytes kind tag payload check))) h (takeHunt_effects s p _)
    | gapLimitExpiry p => exact unlessReset_effects (f := (·.gapExpired p)) h (gapExpired_effects s p)
    | frameSent p => exact unlessReset_effects (f := (·.frameSent p)) h (frameSent_effects s p)
    | sample n count =>
      exact unlessReset_effects (f := fun s => (s.goodFrame (.s n)).sample n count) h
        ((Effects.cause (.goodFrame (.s n)) s).trans (Effects.cause (.sample n count) _))
    | printDone n k =>
      exact unlessReset_effects (f := fun s => (s.goodFrame (.s n)).printDone n k) h
        ((Effects.cause (.goodFrame (.s n)) s).trans (Effects.cause (.printDone n k) _))
    | printFail n k =>
      exact unlessReset_effects (f := fun s => (s.goodFrame (.s n)).printFail n k) h
        ((Effects.cause (.goodFrame (.s n)) s).trans (Effects.cause (.printFail n k) _))
    | linkReset n =>
      exact unlessReset_effects (f := fun s => (s.goodFrame (.s n)).loseIfPresent n) h
        ((Effects.cause (.goodFrame (.s n)) s).trans (Effects.cause (.lost n) _))
    | printDeadlineExpiry n => exact unlessReset_effects (f := (·.deadlineExpired n)) h (.cause (.deadlineExpired n) s)
    | silenceExpiry n =>
      exact unlessReset_effects (f := fun s => if (s.station n).silence.isSome then s.loseIfPresent n else s) h
        (.ite (.cause (.lost n) s) .refl)
    | beatExpiry =>
      exact unlessReset_effects (f := fun s => if s.counter.beat.isSome then s.beatAll else s) h
        (.ite (.cause .beat s) .refl)
    | clockTick => exact execClockTick_effects h
    | batchActivation => exact unlessReset_effects (f := State.activateIfDue) h (.cause .activation s)
    | sequenceTimerExpiry => exact execSequenceTimerExpiry_effects h
    | inactivityExpiry => exact unlessReset_effects (f := (·.inactivityExpired)) h (.cause .inactivityExpired s)
    | characterReceived p b => exact unlessReset_effects (f := (·.receive p [b])) h (takeHunt_effects s p _)
    | loadHoldAssert => cases h; exact .cause .holdAssert s
    | batteryFailure => cases h; exact .cause .battery s
    | _ => cases hq

/-- A step's effects. -/
theorem step_effects {s t : State} (h : step s = .next t) : Effects s t := by
  unfold step at h
  split at h
  · cases h; exact .refl
  · exact (Effects.single (.pending s _)).trans (exec_effects h)

/-- A law that every effect keeps is kept by every step. -/
theorem step_keeps {P : State → Prop} (hP : ∀ s t, Effect s t → P s → P t) {s t : State} (h : step s = .next t)
    (hs : P s) : P t := by
  have he := step_effects h
  clear h
  unfold Effects at he
  induction he with
  | refl => exact hs
  | tail _ hlast ih => exact hP _ _ hlast ih

/-- A law that speaks of neither the ports nor the queue of commands is kept by every step once every cause keeps it. -/
theorem step_keeps_of_causes {P : State → Prop}
    (hports : ∀ s t, ChangesOnly [.pending, .ports] s t → P s → P t)
    (hcause : ∀ (c : Cause) s, P s → P (c.run s)) {s t : State} (h : step s = .next t) (hs : P s) : P t := by
  refine step_keeps (fun s t he hs => ?_) h hs
  cases he with
  | pending _ cs => exact hports s _ ((changesOnly_pending s cs).mono (by simp)) hs
  | cause c s => exact hcause c s hs
  | _ => exact hports s _ ((changesOnly_ports s _).mono (by simp)) hs

/-! ## The links' law (R173, R178) -/

theorem LinkPort.Ok.of_kept {x y : LinkPort} (hk : x.Kept y) (h : x.Ok) : y.Ok := by
  obtain ⟨hfifo, hreply, hhunter, hgap, hstate⟩ := hk
  obtain ⟨h1, h2, h3, h4, h5⟩ := h
  exact ⟨hfifo ▸ h1, hreply ▸ h2, hstate h3, by rw [hgap, hhunter, h4], hhunter ▸ h5⟩

theorem State.linksOk_iff {s : State} :
    s.LinksOk ↔ (∀ p : Port, (s.port p).Ok) ∧ (s.port .q).labelLane.length ≤ Config.displayLaneFrames :=
  and_congr_left' forall_ports

theorem State.LinksOk.of_portsKept {s t : State} (hk : PortsKept s t) (h : s.LinksOk) : t.LinksOk := by
  rw [State.linksOk_iff] at *
  exact ⟨fun p => (h.1 p).of_kept (hk.1 p), hk.2 h.2⟩

/-- A port changed within its law, its label lane kept. -/
theorem State.LinksOk.onPort {s : State} (h : s.LinksOk) {p : Port} {f : LinkPort → LinkPort}
    (hf : (s.port p).Ok → (f (s.port p)).Ok) (hlabel : (f (s.port p)).labelLane = (s.port p).labelLane) :
    (s.onPort p f).LinksOk := by
  rw [State.linksOk_iff] at *
  refine ⟨fun p' => ?_, ?_⟩
  · rw [State.onPort_port]
    split
    · exact hf (h.1 p)
    · exact h.1 p'
  · rw [State.onPort_port]
    split
    · next e => rw [hlabel, ← e]; exact h.2
    · exact h.2

theorem LinkPort.Ok.empty : emptyPort.Ok := ⟨by decide, by decide, .nil, rfl, by simp [emptyPort]⟩

theorem State.LinksOk.of_emptied {s : State} (h : ∀ p : Port, s.port p = emptyPort) : s.LinksOk := by
  rw [State.linksOk_iff]
  exact ⟨fun p => h p ▸ .empty, by rw [h .q]; decide⟩

/-- Starting a transmitter keeps the port's law: no lane grows. -/
theorem LinkPort.Ok.start {x : LinkPort} (h : x.Ok) : x.start.Ok := by
  obtain ⟨h1, h2, h3, h4, h5⟩ := h
  refine ⟨by rwa [start_fifo], ?_, ?_, by rwa [start_gap, start_hunter], by rwa [start_hunter]⟩
  · have hlane : x.start.replyLane.length ≤ x.replyLane.length := by
      rcases x.start_lane .reply with e | e
      · exact (congrArg List.length e).le
      · exact (congrArg List.length e).le.trans (by simp [lane])
    omega
  · rcases x.start_lane .state with e | e
    · exact (show x.start.stateLane = x.stateLane from e) ▸ h3
    · exact (show x.start.stateLane = x.stateLane.tail from e) ▸ h3.sublist (List.tail_sublist _)

theorem State.LinksOk.startAll {s : State} (h : s.LinksOk) : s.startAll.LinksOk := by
  rw [State.linksOk_iff] at *
  refine ⟨fun p => by rw [State.startAll_port]; exact (h.1 p).start, ?_⟩
  rw [State.startAll_port]
  rcases (s.port .q).start_lane .label with e | e
  · exact (congrArg List.length e).le.trans h.2
  · exact (congrArg List.length e).le.trans ((by simp [LinkPort.lane] : _ ≤ (s.port .q).labelLane.length).trans h.2)

theorem powerOn_ports (s : State) : s.powerOn.ports = Table.fill 15 emptyPort := by
  have hl (t : State) : t.countLost.ports = t.ports := by
    unfold State.countLost
    dsimp only
    split <;> rfl
  have hd (t : State) : t.dayCheck.ports = t.ports := dayCheck_changesOnly t .ports (by simp)
  have he (t : State) : t.sampleLoadHold.ports = t.ports := enterState_changesOnly t _ .ports (by simp)
  calc s.powerOn.ports = (((s.checkMarker.initVolatile).countLost.dayCheck).sampleLoadHold).ports := rfl
    _ = Table.fill 15 emptyPort := by rw [he, hd, hl]; rfl

theorem powerOn_port (s : State) (p : Port) : s.powerOn.port p = emptyPort := by
  rw [State.port, powerOn_ports, Table.get_fill]

theorem enterReset_port (s : State) (p : Port) : s.enterReset.port p = emptyPort := by
  rw [State.port, State.enterReset, Table.get_fill]

theorem Effect.keeps_linksOk {s t : State} (he : Effect s t) (h : s.LinksOk) : t.LinksOk := by
  cases he with
  | pending _ cs => exact h
  | start => exact h.startAll
  | taken hw =>
    refine h.onPort (fun ⟨h1, h2, h3, h4, h5⟩ => ⟨?_, h2, h3, h4, h5⟩) rfl
    rw [hw.2.1, List.length_cons] at h1
    exact Nat.le_of_succ_le h1
  | answered f hroom =>
    refine h.onPort (fun ⟨h1, h2, h3, h4, h5⟩ => ⟨h1, ?_, h3, h4, h5⟩) rfl
    simp only [LinkPort.pushReply, List.length_append, List.length_singleton]
    omega
  | queued r hroom =>
    refine h.onPort (fun ⟨h1, h2, h3, h4, h5⟩ => ⟨?_, h2, h3, h4, h5⟩) rfl
    simp only [List.length_append, List.length_singleton]
    omega
  | hunter _ p hheld =>
    refine h.onPort (fun ⟨h1, h2, h3, _, _⟩ => ⟨h1, h2, h3, ?_, hheld⟩) rfl
    dsimp only
    split <;> simp_all
  | sent _ p => exact h.onPort (fun ⟨h1, h2, h3, h4, h5⟩ => ⟨h1, h2, h3, h4, h5⟩) rfl
  | cause c s =>
    by_cases h1 : c = .resetAssert
    · subst h1
      exact .of_emptied (enterReset_port s)
    by_cases h2 : c = .resetRelease
    · subst h2
      change s.resetReleased.LinksOk
      unfold State.resetReleased
      split
      · exact .of_emptied (powerOn_port _)
      · exact h
    exact h.of_portsKept (c.run_portsKept s h1 h2)

/-! ## The notice unit's law (R184, R187) -/

namespace State.NoticesOk

theorem of_changesOnly {bs : List Part} {s t : State} (h : s.NoticesOk) (hc : ChangesOnly bs s t)
    (hb : Part.notices ∉ bs) : t.NoticesOk := by
  unfold State.NoticesOk
  rwa [show t.notices = s.notices from hc .notices hb]

theorem raise {s : State} (h : s.NoticesOk) (c : NoticeClass) (f : NoticeFields) : (s.raise c f).NoticesOk := by
  obtain ⟨hqueue, hoccurred, henabled⟩ := h
  refine ⟨s.raise_queue_le c f hqueue, ?_, henabled⟩
  have hmask : c.mask.getLsbD 14 = false ∧ c.mask.getLsbD 15 = false := by cases c <;> decide
  simp only [maskBad, Bool.or_eq_false_iff] at hoccurred
  simp [NoticeUnit.raise, maskBad, setFlags, hoccurred, hmask, BitVec.getLsbD_or, -BitVec.getLsbD_eq_getElem]

theorem ite {s t : State} {c : Prop} [Decidable c] (h : s.NoticesOk) (k : t.NoticesOk) :
    (if c then s else t).NoticesOk := by
  split
  · exact h
  · exact k

variable {s : State} (h : s.NoticesOk)
include h

theorem of_notices {t : State} (e : t.notices = s.notices) : t.NoticesOk := by
  unfold State.NoticesOk
  rwa [e]

theorem enterState (c : CounterState) : (s.enterState c).NoticesOk := by
  unfold State.enterState
  refine raise ?_ _ _
  split
  · exact h.of_notices rfl
  · exact h.of_notices rfl

theorem reportClosing : s.reportClosing.NoticesOk := ite (h.enterState _) h

theorem raiseIf (cond : Bool) (c : NoticeClass) : (s.raiseIf cond c).NoticesOk := ite (h.raise _ _) h

theorem issueTicket : s.issueTicket.NoticesOk := by
  unfold State.issueTicket
  refine raiseIf (raiseIf (raiseIf ?_ _ _) _ _) _ _
  exact h.of_notices rfl

theorem activate : s.activate.NoticesOk := by
  have happlied : s.applyBatch.1.NoticesOk := h.of_changesOnly (applyBatch_changesOnly s) (by simp)
  have hstepped : (if s.applyBatch.2.applied = 0 then s.applyBatch.1 else s.applyBatch.1.stepGeneration).NoticesOk :=
    ite happlied (happlied.of_changesOnly (stepGeneration_changesOnly _) (by simp))
  have hraised (t : State) (r : BatchResult) (ht : t.NoticesOk) : (t.raiseBatch r).NoticesOk :=
    ite (ht.raise _ _) ((ht.raise _ _).raise _ _)
  exact (hraised _ _ (hstepped.of_changesOnly (onPricing_changesOnly _ _) (by simp))).of_changesOnly (emptyBatch_changesOnly _) (by simp)

theorem activateIfDue : s.activateIfDue.NoticesOk := ite h.activate h

theorem closePrinted (c : ClerkNo) (n : StationNo) : (s.closePrinted c n).NoticesOk := by
  unfold State.closePrinted
  split
  · exact h
  · exact reportClosing ((h.of_changesOnly (accumulate_changesOnly s c n _) (by simp)).of_changesOnly
      (setOrder_changesOnly _ c none) (by simp))

theorem failLabel (n : StationNo) (r : LabelRecord) (cause : FailCause) : (s.failLabel n r cause).NoticesOk :=
  ((h.of_changesOnly (freeSlot_changesOnly s n) (by simp)).raise _ _).of_changesOnly (handFailure_changesOnly _ r) (by simp)

theorem printDone (n : StationNo) (k : Nat) : (s.printDone n k).NoticesOk := by
  unfold State.printDone
  split
  · next r _ =>
    have hfree := h.of_changesOnly (freeSlot_changesOnly s n) (by simp)
    have hkept := (hfree.of_changesOnly
      (setPrinter_changesOnly _ n { (s.freeSlot n).printer n with last := some r }) (by simp)).of_changesOnly
        (countLabel_changesOnly _ n) (by simp)
    unfold State.finishLabel
    dsimp only
    split
    · exact hkept.of_changesOnly (confirmItem_changesOnly _ _ _) (by simp)
    · exact hkept.closePrinted _ n
    · exact hfree.of_changesOnly (countReprint_changesOnly _ n) (by simp)
  · exact h

theorem detach (n : StationNo) : (s.detach n).NoticesOk := by
  have hlost : (s.loseLabels n).NoticesOk := by
    unfold State.loseLabels
    refine of_changesOnly ?_ (setPrinter_changesOnly _ n _) (by simp)
    split
    · exact h.failLabel n _ _
    · exact h.of_changesOnly (freeSlot_changesOnly s n) (by simp)
  exact ((((hlost.of_changesOnly (parkHeld_changesOnly _ n) (by simp)).of_changesOnly
    (unbindRelease_changesOnly _ n) (by simp)).of_changesOnly (clearContext_changesOnly _ n) (by simp)).of_changesOnly
      (setStation_changesOnly _ n _) (by simp)).of_changesOnly (onPort_changesOnly _ _ _) (by simp)

theorem lost (n : StationNo) : (s.loseIfPresent n).NoticesOk := ite h ((h.detach n).raise _ _)

theorem closeCounter : s.closeCounter.NoticesOk := by
  unfold State.closeCounter
  split
  · exact ite (h.enterState _) (h.enterState _)
  all_goals exact h

theorem stepTime (t : DateTime) : (s.stepTime t).NoticesOk := by
  have hclock := h.of_changesOnly (setClock_changesOnly s t) (by simp)
  exact ((ite (hclock.raise _ _) hclock).of_changesOnly (dayCheck_changesOnly _) (by simp)).activateIfDue

theorem closeSession (st : StationNo) (f : CalFields) (key : Option (List Word32)) :
    (s.closeSession st f key).NoticesOk := by
  refine ite ?_ ((h.of_changesOnly (commitKey_changesOnly s key) (by simp)).of_changesOnly (endUnchanged_changesOnly _ st) (by simp))
  have hcommitted : (s.commitCal st f).NoticesOk := (raise (h.of_notices rfl) _ _).of_notices rfl
  exact ((hcommitted.of_changesOnly (commitKey_changesOnly _ key) (by simp)).of_changesOnly
    (idleSession_changesOnly _) (by simp)).of_changesOnly (leaveService_changesOnly _ st) (by simp)

theorem judgeKey (st : StationNo) (words : List Word32) : (judgeKey s st words).1.NoticesOk := by
  unfold Machine.judgeKey
  repeat' split
  · exact h.of_changesOnly (idleSession_changesOnly s) (by simp)
  · exact h.of_changesOnly (openSession_changesOnly s st) (by simp)
  · exact raise (h.of_notices rfl) _ _

omit h in
/-- The power-on handling starts the notice unit afresh and raises at most two notices. -/
theorem powerOn : s.powerOn.NoticesOk := by
  have hinit (t : State) : t.initVolatile.NoticesOk :=
    ⟨Nat.zero_le _, (by decide : maskBad 0 = false), (by decide : maskBad allClasses = false)⟩
  have hcounted (t : State) (ht : t.NoticesOk) : t.countLost.NoticesOk := ite ht (raise (ht.of_notices rfl) _ _)
  have hday := (hcounted _ (hinit s.checkMarker)).of_changesOnly (dayCheck_changesOnly _) (by simp)
  exact (hday.enterState _).of_changesOnly (changesOnly_beat _ _) (by simp)

/-- Every request's act keeps the notice unit's law. -/
theorem request (i : Instr) (p : List Byte) : (requestAct i p s).1.NoticesOk := by
  cases i with
  | enrol n =>
    change (enrolRequest n p s).1.NoticesOk
    unfold enrolRequest
    split
    · exact h
    · exact ((ite h (h.detach n)).of_changesOnly (setStation_changesOnly _ n _) (by simp)).of_changesOnly
        (clearContext_changesOnly _ n) (by simp)
  | closeOrder n =>
    change (closeOrderRequest n p s).1.NoticesOk
    dsimp only [closeOrderRequest]
    repeat' split
    all_goals first
      | exact h
      | exact reportClosing ((h.of_notices (t := s.countEmpty) rfl).of_changesOnly (setOrder_changesOnly _ _ _) (by simp))
  | batchCommit =>
    change (batchCommitRequest p s).1.NoticesOk
    dsimp only [batchCommitRequest]
    split
    · exact h
    · have harmed (f : PricingUnit → PricingUnit) := h.of_changesOnly (onPricing_changesOnly s f) (by simp)
      exact ite (harmed _).activate (harmed _)
  | openCounter =>
    change (openCounterRequest p s).1.NoticesOk
    unfold openCounterRequest
    split
    · exact h.enterState _
    all_goals exact h
  | closeCounter =>
    change (closeCounterRequest p s).1.NoticesOk
    unfold closeCounterRequest
    split
    · exact h
    · exact h.closeCounter
  | timeSet =>
    change (timeSetRequest p s).1.NoticesOk
    unfold timeSetRequest
    repeat' split
    · exact h
    · exact h
    · exact h.stepTime _
  | zClose =>
    change (zCloseRequest p s).1.NoticesOk
    unfold zCloseRequest
    split
    · exact h
    · exact raise (h.of_notices rfl) _ _
  | noticeTake =>
    change (noticeTakeRequest p s).1.NoticesOk
    unfold noticeTakeRequest
    split
    · exact h
    · next hq =>
      obtain ⟨hlen, hmasks⟩ := h
      rw [hq, List.length_cons] at hlen
      exact ⟨Nat.le_of_succ_le hlen, hmasks⟩
  | noticeEnable =>
    change (noticeEnableRequest p s).1.NoticesOk
    unfold noticeEnableRequest
    split
    · exact h
    · next hmask =>
      obtain ⟨hlen, hoccurred, henabled⟩ := h
      refine ⟨hlen, hoccurred, ?_⟩
      simp only [maskBad, Bool.not_eq_true, Bool.or_eq_false_iff] at *
      simp [setFlags, hmask, henabled, -BitVec.getLsbD_eq_getElem]
  | noticeDisable =>
    change (noticeDisableRequest p s).1.NoticesOk
    unfold noticeDisableRequest
    split
    · exact h
    · obtain ⟨hlen, hoccurred, henabled⟩ := h
      refine ⟨hlen, hoccurred, ?_⟩
      simp only [maskBad, Bool.or_eq_false_iff] at *
      simp [clearFlags, henabled, -BitVec.getLsbD_eq_getElem]
  | flagsClear =>
    change (flagsClearRequest p s).1.NoticesOk
    unfold flagsClearRequest
    split
    · exact h
    · obtain ⟨hlen, hoccurred, henabled⟩ := h
      refine ⟨hlen, ?_, henabled⟩
      simp only [maskBad, Bool.or_eq_false_iff] at *
      simp [clearFlags, hoccurred, -BitVec.getLsbD_eq_getElem]
  | serviceKey =>
    change (serviceKeyRequest p s).1.NoticesOk
    dsimp only [serviceKeyRequest]
    repeat' split
    all_goals first
      | exact h
      | exact h.judgeKey _ _
  | serviceClose =>
    change (serviceCloseRequest p s).1.NoticesOk
    unfold serviceCloseRequest inOpen
    split
    · have hrestarted := h.of_changesOnly (restartInactivity_changesOnly s) (by simp)
      dsimp only
      repeat' split
      · exact hrestarted
      · exact hrestarted
      · exact hrestarted.closeSession _ _ _
    all_goals exact h
  | take =>
    change (takeTicketRequest p s).1.NoticesOk
    dsimp only [takeTicketRequest]
    repeat' split
    · exact h
    · exact h
    · exact ite h (raise (h.of_notices rfl) _ _)
    · exact h.issueTicket
  | rollLoaded =>
    change (rollLoadedRequest p s).1.NoticesOk
    unfold rollLoadedRequest
    refine raiseIf ?_ _ _
    exact h.of_notices rfl
  | _ => exact h.of_changesOnly (requestAct_changesOnly _ p s) (by simp [requestParts])

/-- Every cause keeps the notice unit's law. -/
theorem cause (c : Cause) : (c.run s).NoticesOk := by
  cases c with
  | printDone n k => exact h.printDone n k
  | printFail n k =>
    change (s.printFail n k).NoticesOk
    unfold State.printFail
    split
    · exact h.failLabel n _ _
    · exact h
  | lost n => exact h.lost n
  | deadlineExpired n =>
    change (s.deadlineExpired n).NoticesOk
    unfold State.deadlineExpired
    split
    · exact ite (h.failLabel n _ _) h
    · exact h
  | tick =>
    have hclock := h.of_changesOnly (setClock_changesOnly s s.clock.tick) (by simp)
    exact ite hclock (hclock.of_changesOnly (dayCheck_changesOnly _) (by simp)).activateIfDue
  | activation => exact h.activateIfDue
  | request i payload => exact h.request i payload
  | resetRelease => exact ite (powerOn (s := { s with resetLow := false })) h
  | holdRelease => exact ite h (ite (enterState (s := { s with loadHold := false }) h _) h)
  | _ => exact h.of_changesOnly (Cause.run_changesOnly _ s) (by simp [Cause.parts])

end State.NoticesOk

end Sys2Proof.Machine

open Sys2Proof Sys2Proof.Machine

/-- Settles O53: every effect of the link controller keeps each port within its law, every cause but a reset keeps the
ports, and notices are only raised, taken and masked. -/
theorem linksAndNoticesAreKept : Obligations.LinksAndNoticesAreKept := by
  intro s t hstep
  refine ⟨step_keeps (fun _ _ he => he.keeps_linksOk) hstep, ?_⟩
  exact step_keeps_of_causes (fun _ _ hc h => h.of_changesOnly hc (by simp)) (fun c _ h => h.cause c) hstep
end

section
/-! Tables one entry at a time, and the service queue's law (06): what each operation does to the numbers in use, and
O55 from it. -/

namespace Sys2Proof.Machine

/-! ## A table's rows, one entry set apart -/

/-- The entries beside one place stay the same, whatever stands at that place. -/
theorem Table.rows_perm {n : Nat} {α : Type} (t : Table n α) (i : Fin n) :
    ∃ rest : List α, ∀ x, (t.put i x).rows.Perm (x :: rest) := by
  refine ⟨((List.finRange n).erase i).map t.get, fun x => ?_⟩
  have hperm := (List.perm_cons_erase (List.mem_finRange i)).map (t.put i x).get
  rw [List.map_cons, Table.get_put_same] at hperm
  have hrest : ((List.finRange n).erase i).map (t.put i x).get = ((List.finRange n).erase i).map t.get := by
    refine List.map_congr_left fun j hj => Table.get_put_ne _ _ ?_
    exact ((List.nodup_finRange n).mem_erase_iff.mp hj).1
  exact hrest ▸ hperm

/-! ## Numbers in use -/

/-- The queue's law, of what the queue unit controller holds. -/
def QueueUnit.Ok (q : QueueUnit) : Prop :=
  q.numbers.Nodup ∧ (∀ k ∈ q.numbers, 1 ≤ k ∧ k ≤ Config.lastTicket)
    ∧ q.missed.length ≤ Config.missedPlaces ∧ 1 ≤ q.nextNumber
    ∧ q.nextNumber ≤ Config.lastTicket ∧ q.roll ≤ 9999 ∧ 1 ≤ q.rollLength ∧ q.rollLength ≤ 9999

theorem State.queueOk_iff {s : State} : s.QueueOk ↔ s.queue.Ok := Iff.rfl

/-- A queue with no more numbers than another's, its missed list within its places, and its counts the other's. -/
def QueueUnit.Lighter (q r : QueueUnit) : Prop :=
  r.numbers.Subperm q.numbers ∧ (q.missed.length ≤ Config.missedPlaces → r.missed.length ≤ Config.missedPlaces)
    ∧ r.nextNumber = q.nextNumber ∧ r.roll = q.roll ∧ r.rollLength = q.rollLength

theorem QueueUnit.Lighter.refl (q : QueueUnit) : q.Lighter q := ⟨List.Subperm.refl _, id, rfl, rfl, rfl⟩

theorem QueueUnit.Ok.of_lighter {q r : QueueUnit} (hl : q.Lighter r) (h : q.Ok) : r.Ok := by
  obtain ⟨hsub, hmissed, hnext, hroll, hlength⟩ := hl
  obtain ⟨h1, h2, h3, h4, h5, h6, h7, h8⟩ := h
  refine ⟨?_, fun k hk => h2 k (hsub.subset hk), hmissed h3, hnext ▸ h4, hnext ▸ h5, hroll ▸ h6, hlength ▸ h7,
    hlength ▸ h8⟩
  obtain ⟨l, hperm, hsublist⟩ := hsub
  exact hperm.nodup_iff.mp (hsublist.nodup h1)

/-- One clerk's serving record set apart: the numbers are that record's and some others. -/
theorem QueueUnit.numbers_serving (q : QueueUnit) (c : ClerkNo) :
    ∃ rest : List Nat, ∀ (w : List Ticket) (x : Option Serving) (m : List Missed),
      ({ q with waiting := w, serving := q.serving.put c x, missed := m } : QueueUnit).numbers.Perm
        (w.map (·.number) ++ ((x.map (·.number)).toList ++ rest) ++ m.map (·.number)) := by
  obtain ⟨rest, hrest⟩ := Table.rows_perm q.serving c
  refine ⟨(rest.filterMap id).map (·.number), fun w x m => ?_⟩
  refine (List.Perm.append_left _ ?_).append_right _
  have hperm := ((hrest x).filterMap id).map (·.number)
  cases x <;> exact hperm

/-- Changing one clerk's serving record and the two lists: the numbers there were are those of the old record and
lists with the same others. -/
theorem QueueUnit.numbers_serving_get (q : QueueUnit) (c : ClerkNo) :
    ∃ rest : List Nat,
      q.numbers.Perm (q.waiting.map (·.number) ++ (((q.serving.get c).map (·.number)).toList ++ rest)
          ++ q.missed.map (·.number))
        ∧ ∀ (w : List Ticket) (x : Option Serving) (m : List Missed),
          ({ q with waiting := w, serving := q.serving.put c x, missed := m } : QueueUnit).numbers.Perm
            (w.map (·.number) ++ ((x.map (·.number)).toList ++ rest) ++ m.map (·.number)) := by
  obtain ⟨rest, hrest⟩ := q.numbers_serving c
  refine ⟨rest, ?_, hrest⟩
  have h := hrest q.waiting (q.serving.get c) q.missed
  rwa [Table.put_get] at h

/-! ## Releasing, confirming, calling -/

theorem addMissed_number_sublist (m : Missed) (l : List Missed) :
    ((addMissed m l).map (·.number)).Sublist (m.number :: l.map (·.number)) :=
  (((List.take_sublist _ l).map _).cons_cons _)

theorem State.releaseServing_lighter (s : State) (c : ClerkNo) : s.queue.Lighter (s.releaseServing c).queue := by
  unfold State.releaseServing
  split
  · exact .refl _
  · next r hr =>
    obtain ⟨rest, hold, hnew⟩ := s.queue.numbers_serving_get c
    rw [show s.queue.serving.get c = some r from hr] at hold
    dsimp only
    split
    · refine ⟨?_, id, rfl, rfl, rfl⟩
      refine ((hnew s.queue.waiting none s.queue.missed).subperm.trans ?_).trans hold.symm.subperm
      simp only [Option.map_none, Option.toList_none, List.nil_append, Option.map_some, Option.toList_some]
      exact ((List.Sublist.append_left (List.sublist_append_right _ _) _).append_right _).subperm
    · refine ⟨?_, fun _ => State.length_addMissed _ _, rfl, rfl, rfl⟩
      refine ((hnew s.queue.waiting none (addMissed ⟨r.number, r.issued, r.called⟩ s.queue.missed)).subperm.trans
        ?_).trans hold.symm.subperm
      simp only [Option.map_none, Option.toList_none, List.nil_append, Option.map_some, Option.toList_some]
      refine ((List.Sublist.append_left (addMissed_number_sublist _ _) _).subperm).trans (List.Perm.subperm ?_)
      simp only [List.append_assoc, List.cons_append]
      exact List.Perm.append_left _ List.perm_middle

theorem State.goodsConfirmed_lighter (s : State) (c : ClerkNo) (k : Option Nat) :
    s.queue.Lighter (s.goodsConfirmed c k).queue := by
  unfold State.goodsConfirmed
  split
  · next r hr =>
    split
    · obtain ⟨rest, hold, hnew⟩ := s.queue.numbers_serving_get c
      rw [show s.queue.serving.get c = some _ from hr] at hold
      exact ⟨((hnew s.queue.waiting (some { r with hadGoods := true }) s.queue.missed).trans hold.symm).subperm, id,
        rfl, rfl, rfl⟩
    · exact .refl _
  · exact .refl _

theorem State.unbindRelease_lighter (s : State) (n : StationNo) : s.queue.Lighter (s.unbindRelease n).queue := by
  unfold State.unbindRelease
  split
  · exact .refl _
  · exact State.releaseServing_lighter _ _

/-- A clerk who serves no number takes one: it joins the numbers in use. -/
theorem QueueUnit.numbers_put_of_none {q : QueueUnit} {c : ClerkNo} (h : q.serving.get c = none) (x : Serving) :
    ({ q with serving := q.serving.put c (some x) } : QueueUnit).numbers.Perm (x.number :: q.numbers) := by
  obtain ⟨rest, hold, hnew⟩ := q.numbers_serving_get c
  rw [h] at hold
  refine (hnew q.waiting (some x) q.missed).trans (List.Perm.trans ?_ (hold.symm.cons _))
  simp only [Option.map_some, Option.toList_some, Option.map_none, Option.toList_none, List.nil_append,
    List.append_assoc, List.cons_append]
  exact List.perm_middle

theorem State.callTicket_lighter {s : State} {c : ClerkNo} {n : StationNo} {t : Ticket} {rest : List Ticket}
    (hc : s.serving c = none) (hw : s.queue.waiting = t :: rest) :
    s.queue.Lighter (s.callTicket c n t rest).queue := by
  refine ⟨?_, id, rfl, rfl, rfl⟩
  have hput := QueueUnit.numbers_put_of_none (q := { s.queue with waiting := rest }) hc
    ⟨t.number, t.issued, s.clock, false⟩
  refine (hput.trans (List.Perm.of_eq ?_)).subperm
  simp only [QueueUnit.numbers, hw, List.map_cons, List.cons_append]

theorem State.recallNumber_lighter {s : State} {c : ClerkNo} {n : StationNo} {m : Missed} (hm : m ∈ s.queue.missed) :
    s.queue.Lighter (s.recallNumber c n m).queue := by
  let s1 : State := { s with queue := { s.queue with missed := s.queue.missed.filter fun x => x.number != m.number } }
  obtain ⟨hsub, hmissed, hnext, hroll, hlength⟩ := s1.releaseServing_lighter c
  refine ⟨?_, fun h => hmissed ((List.length_filter_le _ _).trans h), hnext, hroll, hlength⟩
  have hnone : (s1.releaseServing c).queue.serving.get c = none := by
    have := s1.releaseServing_serving c c
    rwa [if_pos rfl] at this
  refine (QueueUnit.numbers_put_of_none hnone ⟨m.number, m.issued, s.clock, false⟩).subperm.trans ?_
  refine ((List.subperm_cons m.number).mpr hsub).trans ?_
  have hfiltered : (m.number :: s1.queue.missed.map (·.number)).Subperm (s.queue.missed.map (·.number)) := by
    refine List.cons_subperm_of_not_mem_of_mem ?_ (List.mem_map_of_mem hm) ?_
    · simp [s1]
    · exact (List.filter_sublist.map _).subperm
  exact List.perm_middle.symm.subperm.trans ((List.subperm_append_left _).mpr hfiltered)

/-! ## Issuing, the roll, and what a request does -/

theorem nextTicket_bounds {k : Nat} (h : k ≤ Config.lastTicket) :
    1 ≤ nextTicket k ∧ nextTicket k ≤ Config.lastTicket := by
  unfold nextTicket
  have hl : Config.lastTicket = 99 := rfl
  split
  · omega
  · omega

theorem QueueUnit.Ok.issue {q : QueueUnit} (h : q.Ok) (hfree : q.inUse q.nextNumber = false) (t : DateTime) :
    QueueUnit.Ok
      { q with
        waiting := q.waiting ++ [⟨q.nextNumber, t⟩], nextNumber := nextTicket q.nextNumber, roll := q.roll - 1
        blocked := false } := by
  obtain ⟨h1, h2, h3, h4, h5, h6, h7, h8⟩ := h
  have hperm : QueueUnit.numbers
      { q with
        waiting := q.waiting ++ [⟨q.nextNumber, t⟩], nextNumber := nextTicket q.nextNumber, roll := q.roll - 1
        blocked := false } |>.Perm (q.nextNumber :: q.numbers) := by
    simp only [QueueUnit.numbers, List.map_append, List.map_cons, List.map_nil, List.append_assoc,
      List.singleton_append]
    exact List.perm_middle
  have hnew : q.nextNumber ∉ q.numbers := fun hm => by simp [(q.inUse_iff _).mpr hm] at hfree
  refine ⟨hperm.nodup_iff.mpr (List.nodup_cons.mpr ⟨hnew, h1⟩), fun k hk => ?_, h3, ?_, ?_, by dsimp only; omega, h7,
    h8⟩
  · rcases List.mem_cons.mp (hperm.mem_iff.mp hk) with rfl | hk
    · exact ⟨h4, h5⟩
    · exact h2 k hk
  · exact (nextTicket_bounds h5).1
  · exact (nextTicket_bounds h5).2

/-- A queue with no number in use, and counts within their ranges. -/
theorem QueueUnit.Ok.of_empty {q : QueueUnit} (hn : q.numbers = []) (hm : q.missed = [])
    (hk : 1 ≤ q.nextNumber ∧ q.nextNumber ≤ Config.lastTicket)
    (hr : q.roll ≤ 9999 ∧ 1 ≤ q.rollLength ∧ q.rollLength ≤ 9999) : q.Ok := by
  refine ⟨hn ▸ List.nodup_nil, by simp [hn], by simp [hm], hk.1, hk.2, hr⟩

theorem numbers_of_lists_empty {q : QueueUnit} (hw : q.waiting = []) (hs : q.serving = Table.fill 32 none)
    (hm : q.missed = []) : q.numbers = [] := by
  have hrows : (Table.fill 32 (none : Option Serving)).rows.filterMap id = [] := by
    simp [List.filterMap_eq_nil_iff, Table.mem_rows]
  rw [QueueUnit.numbers, hw, hs, hm, hrows]
  rfl

theorem QueueUnit.Ok.closed {q : QueueUnit} (h : q.Ok) : q.closed.Ok := by
  obtain ⟨-, -, -, h4, h5, h6, h7, h8⟩ := h
  exact .of_empty (numbers_of_lists_empty rfl rfl rfl) rfl ⟨h4, h5⟩ ⟨h6, h7, h8⟩

theorem QueueUnit.Ok.powerOn {q : QueueUnit} (h7 : 1 ≤ q.rollLength) (h8 : q.rollLength ≤ 9999) : q.powerOn.Ok :=
  .of_empty (numbers_of_lists_empty rfl rfl rfl) rfl ⟨le_rfl, (by decide : 1 ≤ Config.lastTicket)⟩ ⟨h8, h7, h8⟩

namespace State.QueueOk

theorem of_changesOnly {bs : List Part} {s t : State} (h : s.QueueOk) (hc : ChangesOnly bs s t)
    (hb : Part.queue ∉ bs) : t.QueueOk := by
  rw [queueOk_iff, show t.queue = s.queue from hc .queue hb]
  exact h

theorem of_lighter {s t : State} (h : s.QueueOk) (hl : s.queue.Lighter t.queue) : t.QueueOk :=
  QueueUnit.Ok.of_lighter hl h

theorem ite {s t : State} {c : Prop} [Decidable c] (h : s.QueueOk) (k : t.QueueOk) :
    (if c then s else t).QueueOk := by
  split
  · exact h
  · exact k

variable {s : State} (h : s.QueueOk)
include h

theorem enterState (c : CounterState) : (s.enterState c).QueueOk := by
  unfold State.enterState
  refine of_changesOnly ?_ (raise_changesOnly _ _ _) (by simp)
  split
  · exact QueueUnit.Ok.closed h
  · exact h

theorem reportClosing : s.reportClosing.QueueOk := ite (h.enterState _) h

theorem closeCounter : s.closeCounter.QueueOk := by
  unfold State.closeCounter
  split
  · exact ite (h.enterState _) (h.enterState _)
  all_goals exact h

theorem closePrinted (c : ClerkNo) (n : StationNo) : (s.closePrinted c n).QueueOk := by
  unfold State.closePrinted
  split
  · exact h
  · exact reportClosing ((h.of_changesOnly (accumulate_changesOnly s c n _) (by simp)).of_changesOnly
      (setOrder_changesOnly _ c none) (by simp))

theorem printDone (n : StationNo) (k : Nat) : (s.printDone n k).QueueOk := by
  unfold State.printDone
  split
  · next r _ =>
    have hfree := h.of_changesOnly (freeSlot_changesOnly s n) (by simp)
    have hkept := (hfree.of_changesOnly
      (setPrinter_changesOnly _ n { (s.freeSlot n).printer n with last := some r }) (by simp)).of_changesOnly
        (countLabel_changesOnly _ n) (by simp)
    unfold State.finishLabel
    dsimp only
    split
    · exact (hkept.of_changesOnly (onOrder_changesOnly _ _ _) (by simp)).of_lighter (goodsConfirmed_lighter _ _ _)
    · exact hkept.closePrinted _ n
    · exact hfree.of_changesOnly (countReprint_changesOnly _ n) (by simp)
  · exact h

theorem detach (n : StationNo) : (s.detach n).QueueOk :=
  ((((((h.of_changesOnly (loseLabels_changesOnly s n) (by simp)).of_changesOnly (parkHeld_changesOnly _ n)
    (by simp)).of_lighter (unbindRelease_lighter _ n)).of_changesOnly (clearContext_changesOnly _ n)
      (by simp)).of_changesOnly (setStation_changesOnly _ n _) (by simp)).of_changesOnly (onPort_changesOnly _ _ _)
        (by simp))

theorem enrolRequest (n : StationNo) (p : List Byte) : (enrolRequest n p s).1.QueueOk := by
  unfold Machine.enrolRequest
  split
  · exact h
  · exact ((ite h (h.detach n)).of_changesOnly (setStation_changesOnly _ n _) (by simp)).of_changesOnly
      (clearContext_changesOnly _ n) (by simp)

theorem clerkOffRequest (n : StationNo) (p : List Byte) : (clerkOffRequest n p s).1.QueueOk := by
  unfold Machine.clerkOffRequest
  repeat' split
  all_goals first
    | exact h
    | exact (h.of_changesOnly (parkIfHeld_changesOnly s _ n) (by simp)).of_lighter (unbindRelease_lighter _ n)

theorem writeClerk (c : ClerkNo) (code : Nat) (enabled : Bool) : (s.writeClerk c code enabled).QueueOk := by
  have hset : (s.setClerk c { s.clerk c with code := code, enabled := enabled }).QueueOk := h
  unfold State.writeClerk
  split
  · exact ite hset (((hset.of_changesOnly (parkIfHeld_changesOnly _ c _) (by simp)).of_changesOnly
      (bind_changesOnly _ c none) (by simp)).of_lighter (releaseServing_lighter _ c))
  · exact hset

theorem saleRequest (labelled : Bool) (n : StationNo) (p : List Byte) : (saleRequest labelled n p s).1.QueueOk := by
  have haccept (t : State) (ht : t.QueueOk) (c : ClerkNo) (r : Priced) : (acceptSale n c labelled r t).1.QueueOk := by
    unfold acceptSale
    split
    · exact ht
    · have hordered (f : Order → Order) := ht.of_changesOnly (onOrder_changesOnly t c f) (by simp)
      split
      · exact ((hordered _).of_changesOnly (compose_changesOnly _ n _) (by simp)).of_changesOnly
          (useTare_changesOnly _ n _) (by simp)
      · exact ((hordered _).of_lighter (goodsConfirmed_lighter _ c _)).of_changesOnly (useTare_changesOnly _ n _)
          (by simp)
  unfold Machine.saleRequest
  repeat' split
  all_goals first
    | exact h
    | exact haccept _ (h.of_changesOnly (withOrder_changesOnly s _ n) (by simp)) _ _

theorem callNextRequest (n : StationNo) (p : List Byte) : (callNextRequest n p s).1.QueueOk := by
  unfold Machine.callNextRequest
  split
  · exact h
  · exact h
  · next c _ _ =>
    have hreleased := h.of_lighter (s.releaseServing_lighter c)
    dsimp only
    split
    · exact hreleased
    · next hw => exact hreleased.of_lighter (callTicket_lighter (by rw [releaseServing_serving, if_pos rfl]) hw)

theorem recallMissedRequest (n : StationNo) (p : List Byte) : (recallMissedRequest n p s).1.QueueOk := by
  unfold Machine.recallMissedRequest
  dsimp only
  split
  · exact h
  · exact h
  · split
    · exact h
    · next hm => exact h.of_lighter (recallNumber_lighter (List.mem_of_find?_eq_some hm))

theorem takeTicketRequest (p : List Byte) : (takeTicketRequest p s).1.QueueOk := by
  dsimp only [Machine.takeTicketRequest]
  split
  · exact h
  · split
    · exact h
    · split
      · exact ite h (of_changesOnly (s := { s with queue := { s.queue with blocked := true } }) h
          (raise_changesOnly _ _ _) (by simp))
      · next hfree =>
        have hissued := QueueUnit.Ok.issue h (by simpa using hfree) s.clock
        exact ((of_changesOnly (s := { s with queue := _ }) hissued (raiseIf_changesOnly _ _ _) (by simp)).of_changesOnly
          (raiseIf_changesOnly _ _ _) (by simp)).of_changesOnly (raiseIf_changesOnly _ _ _) (by simp)

theorem rollLoadedRequest (p : List Byte) : (rollLoadedRequest p s).1.QueueOk := by
  obtain ⟨h1, h2, h3, h4, h5, h6, h7, h8⟩ := h
  exact of_changesOnly (s := { s with queue := { s.queue with roll := s.queue.rollLength } })
    ⟨h1, h2, h3, h4, h5, h8, h7, h8⟩ (raiseIf_changesOnly _ _ _) (by simp)

theorem settingsWriteRequest (p : List Byte) : (settingsWriteRequest p s).1.QueueOk := by
  unfold Machine.settingsWriteRequest
  split
  · exact h
  · split
    · exact h
    · next r hr =>
      have hok : queueSettingsOk r.rollLength r.rollLow r.queueLong = true := by
        unfold decodeSettings at hr
        split at hr
        · cases hr
        · dsimp only at hr
          split at hr
          · next hvalid =>
            cases hr
            exact (Bool.and_eq_true _ _ ▸ hvalid).2
          · cases hr
      simp only [queueSettingsOk, Bool.and_eq_true, decide_eq_true_eq] at hok
      obtain ⟨⟨⟨⟨⟨hlow, hhigh⟩, -⟩, -⟩, -⟩, -⟩ := hok
      obtain ⟨h1, h2, h3, h4, h5, h6, -, -⟩ := h
      exact ⟨h1, h2, h3, h4, h5, h6, hlow, hhigh⟩

theorem zCloseRequest (p : List Byte) : (zCloseRequest p s).1.QueueOk := by
  unfold Machine.zCloseRequest
  split
  · exact h
  · obtain ⟨h1, h2, h3, -, -, h6, h7, h8⟩ := h
    exact ⟨h1, h2, h3, le_rfl, (by decide : 1 ≤ Config.lastTicket), h6, h7, h8⟩

theorem powerOn : s.powerOn.QueueOk := by
  have hmarker : s.checkMarker.initVolatile.QueueOk := by
    have hlength : 1 ≤ s.checkMarker.queue.rollLength ∧ s.checkMarker.queue.rollLength ≤ 9999 := by
      obtain ⟨-, -, -, -, -, -, h7, h8⟩ := h
      unfold State.checkMarker
      split
      · exact ⟨h7, h8⟩
      · exact ⟨(by decide : 1 ≤ 2000), (by decide : 2000 ≤ 9999)⟩
    exact QueueUnit.Ok.powerOn hlength.1 hlength.2
  have hcounted (t : State) (ht : t.QueueOk) : t.countLost.QueueOk :=
    ite ht (of_changesOnly (ht.of_changesOnly (onTotals_changesOnly t _) (by simp)) (raise_changesOnly _ _ _) (by simp))
  exact (((hcounted _ hmarker).of_changesOnly (dayCheck_changesOnly _) (by simp)).enterState _).of_changesOnly
    (changesOnly_beat _ _) (by simp)

theorem openSession (st : StationNo) : (s.openSession st).QueueOk := by
  unfold State.openSession
  refine of_changesOnly (of_lighter ?_ (unbindRelease_lighter _ st)) (emptyWindow_changesOnly _ st) (by simp)
  exact h

/-- Every request's act keeps the queue's law. -/
theorem request (i : Instr) (p : List Byte) : (requestAct i p s).1.QueueOk := by
  cases i with
  | enrol n => exact h.enrolRequest n p
  | clerkOff n => exact h.clerkOffRequest n p
  | label n => exact h.saleRequest true n p
  | addItem n => exact h.saleRequest false n p
  | closeOrder n =>
    change (closeOrderRequest n p s).1.QueueOk
    dsimp only [closeOrderRequest]
    repeat' split
    all_goals first
      | exact h
      | exact reportClosing ((h.of_changesOnly (onTotals_changesOnly s _) (by simp)).of_changesOnly
          (setOrder_changesOnly _ _ none) (by simp))
  | callNext n => exact h.callNextRequest n p
  | recallMissed n => exact h.recallMissedRequest n p
  | openCounter =>
    change (openCounterRequest p s).1.QueueOk
    unfold openCounterRequest
    split
    · exact h.enterState _
    all_goals exact h
  | closeCounter =>
    change (closeCounterRequest p s).1.QueueOk
    unfold closeCounterRequest
    split
    · exact h
    · exact h.closeCounter
  | settingsWrite => exact h.settingsWriteRequest p
  | clerkWrite =>
    change (clerkWriteRequest p s).1.QueueOk
    unfold clerkWriteRequest
    repeat' split
    · exact h
    · exact h
    · exact h.writeClerk _ _ _
  | zClose => exact h.zCloseRequest p
  | serviceKey =>
    have hjudged (st : StationNo) (ws : List Word32) : (judgeKey s st ws).1.QueueOk := by
      unfold judgeKey
      repeat' split
      · exact h.of_changesOnly (idleSession_changesOnly s) (by simp)
      · exact h.openSession st
      · exact h.of_changesOnly (failKey_changesOnly s st) (by simp)
    change (serviceKeyRequest p s).1.QueueOk
    dsimp only [serviceKeyRequest]
    repeat' split
    all_goals first
      | exact h
      | exact hjudged _ _
  | take => exact h.takeTicketRequest p
  | rollLoaded => exact h.rollLoadedRequest p
  | _ => exact h.of_changesOnly (requestAct_changesOnly _ p s) (by simp [requestParts])

/-- Every cause keeps the queue's law. -/
theorem cause (c : Cause) : (c.run s).QueueOk := by
  cases c with
  | printDone n k => exact h.printDone n k
  | lost n => exact ite h ((h.detach n).of_changesOnly (raise_changesOnly _ _ _) (by simp))
  | request i payload => exact h.request i payload
  | resetRelease => exact ite (powerOn (s := { s with resetLow := false }) h) h
  | holdRelease => exact ite h (ite (enterState (s := { s with loadHold := false }) h _) h)
  | _ => exact h.of_changesOnly (Cause.run_changesOnly _ s) (by simp [Cause.parts])

end State.QueueOk

end Sys2Proof.Machine

open Sys2Proof Sys2Proof.Machine

/-- Settles O55: a number enters the numbers in use only where it is issued, and is then free; every other operation
moves a number or drops it. -/
theorem queueNumbersStayUnique : Obligations.QueueNumbersStayUnique := by
  intro s t h hstep
  exact step_keeps_of_causes (P := State.QueueOk) (fun _ _ hc h => h.of_changesOnly hc (by simp))
    (fun c _ h => h.cause c) hstep h
end

section
/-! The totals store's law over clerks, stations and GT (07): what each accumulation does to the sums, and O58 from
it. -/

namespace Sys2Proof.Machine

/-! ## Sums over a table -/

section
variable {n : Nat} {α : Type} (t : Table n α) (i : Fin n) (f : α → Nat)

theorem sumOf_put (x : α) : sumOf (t.put i x) f + f (t.get i) = sumOf t f + f x := by
  obtain ⟨rest, hrest⟩ := Table.rows_perm t i
  have hsum (y : α) : sumOf (t.put i y) f = f y + (rest.map f).sum := by
    rw [sumOf, ((hrest y).map f).sum_eq, List.map_cons, List.sum_cons]
  have hold := hsum (t.get i)
  rw [Table.put_get] at hold
  have hnew := hsum x
  omega

theorem sumOf_put_of_eq {x : α} (h : f x = f (t.get i)) : sumOf (t.put i x) f = sumOf t f := by
  have := sumOf_put t i f x
  omega

theorem sumOf_fill_zero {x : α} (h : f x = 0) : sumOf (Table.fill n x) f = 0 := by
  simp only [sumOf, List.sum_eq_zero_iff, List.mem_map, Table.mem_rows]
  rintro _ ⟨_, ⟨j, rfl⟩, rfl⟩
  rwa [Table.get_fill]

end

/-- The counter's figure and one entry's figure moved on by the same amount keep the counter's equal to the sum. -/
theorem addValue_eq_sum {m sum sum' a x : Nat} (h : m = sum % Config.valueModulus)
    (hput : sum' + a = sum + addValue a x) : addValue m x = sum' % Config.valueModulus := by
  simp only [addValue, Config.valueModulus] at *
  omega

theorem addCount_eq_sum {m sum sum' a x : Nat} (h : m = sum % Config.countModulus)
    (hput : sum' + a = sum + addCount a x) : addCount m x = sum' % Config.countModulus := by
  simp only [addCount, Config.countModulus] at *
  omega

/-! ## The totals store's law -/

/-- The law over clerks, stations and GT, of what the totals store holds. -/
def TotalsStore.Balanced (t : TotalsStore) : Prop :=
  t.counter.value = sumOf t.clerks (·.value) % Config.valueModulus
    ∧ t.counter.value = sumOf t.stations (·.value) % Config.valueModulus
    ∧ t.gt < Config.valueModulus ∧ t.gtLast < Config.valueModulus
    ∧ t.counter.value = (t.gt + Config.valueModulus - t.gtLast) % Config.valueModulus
    ∧ t.counter.orders = sumOf t.clerks (·.orders) % Config.countModulus
    ∧ t.counter.items = sumOf t.clerks (·.items) % Config.countModulus
    ∧ t.counter.voidedValue = sumOf t.clerks (·.voidedValue) % Config.valueModulus

/-- The value in the period, as GT has moved since the last Z-close, moves on with GT. -/
theorem addValue_eq_period {m gt gtLast x : Nat} (hlast : gtLast < Config.valueModulus)
    (h : m = (gt + Config.valueModulus - gtLast) % Config.valueModulus) :
    addValue m x = (addValue gt x + Config.valueModulus - gtLast) % Config.valueModulus := by
  simp only [addValue, Config.valueModulus] at *
  omega

namespace TotalsStore.Balanced

theorem addOrder {t : TotalsStore} (h : t.Balanced) (c : ClerkNo) (n : StationNo) (o : Order) :
    (t.addOrder c n o).Balanced := by
  obtain ⟨hclerks, hstations, -, hlast, hgt, horders, hitems, hvoided⟩ := h
  refine ⟨addValue_eq_sum hclerks (sumOf_put _ _ _ _), addValue_eq_sum hstations (sumOf_put _ _ _ _),
    Nat.mod_lt _ (by simp [Config.valueModulus]), hlast, addValue_eq_period hlast hgt,
    addCount_eq_sum horders (sumOf_put _ _ _ _), addCount_eq_sum hitems (sumOf_put _ _ _ _),
    addValue_eq_sum hvoided (sumOf_put _ _ _ _)⟩

theorem putStation {t : TotalsStore} (h : t.Balanced) {n : StationNo} {x : StationTotals}
    (hx : x.value = (t.stations.get n).value) : Balanced { t with stations := t.stations.put n x } := by
  obtain ⟨hclerks, hstations, hrest⟩ := h
  exact ⟨hclerks, hstations.trans (congrArg (· % Config.valueModulus) (sumOf_put_of_eq _ _ _ hx).symm), hrest⟩

/-- A store whose period records are all zero and whose GT has not moved. -/
theorem of_zero {t : TotalsStore} (hc : t.counter = zeroCounterTotals) (hk : t.clerks = Table.fill 32 zeroClerkTotals)
    (hs : t.stations = Table.fill 12 zeroStationTotals) (hgt : t.gt < Config.valueModulus) (hlast : t.gtLast = t.gt) :
    t.Balanced := by
  have hclerks (f : ClerkTotals → Nat) (hf : f zeroClerkTotals = 0) : sumOf t.clerks f = 0 := by
    rw [hk, sumOf_fill_zero _ hf]
  have hstations : sumOf t.stations (·.value) = 0 := hs ▸ sumOf_fill_zero (·.value) (x := zeroStationTotals) rfl
  unfold Balanced
  rw [hclerks (·.value) rfl, hclerks (·.orders) rfl, hclerks (·.items) rfl, hclerks (·.voidedValue) rfl, hstations, hc, hlast, Nat.add_sub_cancel_left]
  exact ⟨rfl, rfl, hgt, hgt, rfl, rfl, rfl, rfl⟩

end TotalsStore.Balanced

namespace State.LedgerOk

theorem of_changesOnly {bs : List Part} {s t : State} (h : s.LedgerOk) (hc : ChangesOnly bs s t)
    (hb : Part.totals ∉ bs) : t.LedgerOk := by
  have htotals : { t.totals with openOrders := s.totals.openOrders } = s.totals := hc .totals hb
  have hbalanced : s.totals.Balanced := h
  rw [← htotals] at hbalanced
  exact hbalanced

theorem ite {s t : State} {c : Prop} [Decidable c] (h : s.LedgerOk) (k : t.LedgerOk) :
    (if c then s else t).LedgerOk := by
  split
  · exact h
  · exact k

variable {s : State} (h : s.LedgerOk)
include h

theorem accumulateItem (i : Item) : (s.accumulateItem i).LedgerOk := by
  unfold State.accumulateItem
  split
  · exact h
  · exact h

theorem accumulate (c : ClerkNo) (n : StationNo) (o : Order) : (s.accumulate c n o).LedgerOk := by
  have hitems : ((o.inState .confirmed).foldl State.accumulateItem s).LedgerOk := by
    generalize o.inState .confirmed = items
    induction items generalizing s with
    | nil => exact h
    | cons i items ih => exact ih (h.accumulateItem i)
  exact TotalsStore.Balanced.addOrder hitems c n o

theorem closePrinted (c : ClerkNo) (n : StationNo) : (s.closePrinted c n).LedgerOk := by
  unfold State.closePrinted
  split
  · exact h
  · exact ((h.accumulate c n _).of_changesOnly (setOrder_changesOnly _ c none) (by simp)).of_changesOnly
      (reportClosing_changesOnly _) (by simp)

theorem printDone (n : StationNo) (k : Nat) : (s.printDone n k).LedgerOk := by
  unfold State.printDone
  split
  · next r _ =>
    have hfree := h.of_changesOnly (freeSlot_changesOnly s n) (by simp)
    have hcounted (t : State) (ht : t.LedgerOk) : (t.countLabel n).LedgerOk := TotalsStore.Balanced.putStation ht rfl
    have hkept := hcounted _ (hfree.of_changesOnly
      (setPrinter_changesOnly _ n { (s.freeSlot n).printer n with last := some r }) (by simp))
    unfold State.finishLabel
    dsimp only
    split
    · exact hkept.of_changesOnly (confirmItem_changesOnly _ _ _) (by simp)
    · exact hkept.closePrinted _ n
    · exact TotalsStore.Balanced.putStation hfree rfl
  · exact h

theorem callNextRequest (n : StationNo) (p : List Byte) : (callNextRequest n p s).1.LedgerOk := by
  unfold Machine.callNextRequest
  split
  · exact h
  · exact h
  · next c _ _ =>
    have hreleased := h.of_changesOnly (releaseServing_changesOnly s c) (by simp)
    dsimp only
    split
    · exact hreleased
    · next t rest _ =>
      have hcounted (u : State) (hu : u.LedgerOk) (w : Nat) : (u.countCall w).LedgerOk := hu
      have hserving : State.LedgerOk ((({ s.releaseServing c with queue := { (s.releaseServing c).queue with
          waiting := rest } } : State).setServing c (some ⟨t.number, t.issued, (s.releaseServing c).clock, false⟩))) :=
        hreleased
      exact (hcounted _ hserving _).of_changesOnly (display_changesOnly _ _ _ _) (by simp)

theorem zClose : s.zClose.LedgerOk := by
  obtain ⟨-, -, hgt, -⟩ := h
  exact TotalsStore.Balanced.of_zero (t := s.zClose.totals) rfl rfl rfl hgt rfl

theorem powerOn : s.powerOn.LedgerOk := by
  have hmarker : s.checkMarker.LedgerOk :=
    ite h (TotalsStore.Balanced.of_zero (t := zeroTotals) rfl rfl rfl (by simp [zeroTotals, Config.valueModulus]) rfl)
  have hcounted (t : State) (ht : t.LedgerOk) : t.countLost.LedgerOk := ite ht ht
  exact (((hcounted s.checkMarker.initVolatile hmarker).of_changesOnly (dayCheck_changesOnly _) (by simp)).of_changesOnly
    (enterState_changesOnly _ _) (by simp)).of_changesOnly (changesOnly_beat _ _) (by simp)

/-- Every request's act keeps the totals' law. -/
theorem request (i : Instr) (p : List Byte) : (requestAct i p s).1.LedgerOk := by
  cases i with
  | closeOrder n =>
    change (closeOrderRequest n p s).1.LedgerOk
    have hempty (c : ClerkNo) : (s.closeEmpty c).LedgerOk :=
      of_changesOnly (of_changesOnly (s := s.countEmpty) h (setOrder_changesOnly _ c none) (by simp))
        (reportClosing_changesOnly _) (by simp)
    have hbegun (c : ClerkNo) (o : Order) : (s.beginClose c n o).LedgerOk :=
      (h.of_changesOnly (compose_changesOnly s n _) (by simp)).of_changesOnly (onOrder_changesOnly _ c _) (by simp)
    dsimp only [closeOrderRequest]
    split
    · exact h
    · exact h
    · split
      · exact h
      · split
        · exact h
        · split
          · exact hempty _
          · exact hbegun _ _
  | callNext n => exact h.callNextRequest n p
  | zClose =>
    change (zCloseRequest p s).1.LedgerOk
    unfold zCloseRequest
    split
    · exact h
    · exact h.zClose
  | reportRelease => exact h
  | _ => exact h.of_changesOnly (requestAct_changesOnly _ p s) (by simp [requestParts])

/-- Every cause keeps the totals' law. -/
theorem cause (c : Cause) : (c.run s).LedgerOk := by
  cases c with
  | printDone n k => exact h.printDone n k
  | request i payload => exact h.request i payload
  | resetRelease => exact ite (powerOn (s := { s with resetLow := false }) h) h
  | _ => exact h.of_changesOnly (Cause.run_changesOnly _ s) (by simp [Cause.parts])

end State.LedgerOk

end Sys2Proof.Machine

open Sys2Proof Sys2Proof.Machine

/-- Settles O58: a closed order moves the counter's figures, one clerk's, one station's and GT on by the same amounts,
and every other operation leaves these figures alone or starts them all at zero. -/
theorem ledgerBalances : Obligations.LedgerBalances := by
  intro s t h hstep
  exact step_keeps_of_causes (P := State.LedgerOk) (fun _ _ hc h => h.of_changesOnly hc (by simp))
    (fun c _ h => h.cause c) hstep h
end

section
/-! The session, the roster and the clock (08, 09): what each operation does to the link states, the lock and the date,
and O60 from it. -/

namespace Sys2Proof.Machine

theorem Part.Same.resetLow {s t : State} (h : Part.lines.Same s t) : t.resetLow = s.resetLow :=
  congrArg Prod.fst (show (t.resetLow, t.loadHold, t.markerOk) = (s.resetLow, s.loadHold, s.markerOk) from h)

/-! ## The roster (R152, R154) -/

/-- The roster's law of one entry, with RESET low or high. -/
def RosterEntry.Ok (low : Bool) (e : RosterEntry) : Prop :=
  (e.record.isSome = true ↔ e.link ≠ .absent) ∧ (low = false → (e.silence.isSome = true ↔ e.link ≠ .absent))

theorem RosterEntry.Ok.absent (low : Bool) : absentEntry.Ok low := by simp [RosterEntry.Ok, absentEntry]

theorem RosterEntry.Ok.present {low : Bool} {l : LinkState} (hl : l ≠ .absent) (r : StationRecord) (k : Nat) :
    RosterEntry.Ok low ⟨l, some r, some k⟩ := by simp [RosterEntry.Ok, hl]

/-- An entry whose link state passes between ENROLLED and SERVICE. -/
theorem RosterEntry.Ok.withLink {low : Bool} {e : RosterEntry} {l : LinkState} (h : e.Ok low) (he : e.link ≠ .absent)
    (hl : l ≠ .absent) : RosterEntry.Ok low { e with link := l } := by
  obtain ⟨hrecord, hsilence⟩ := h
  exact ⟨hrecord.trans (iff_of_true he hl), fun hlow => (hsilence hlow).trans (iff_of_true he hl)⟩

theorem RosterEntry.Ok.withSilence {low : Bool} {e : RosterEntry} (h : e.Ok low) (he : e.link ≠ .absent) (k : Nat) :
    RosterEntry.Ok low { e with silence := some k } :=
  ⟨h.1, fun _ => iff_of_true rfl he⟩

theorem enrolledLink_ne_absent (s : State) (n : StationNo) : s.enrolledLink n ≠ .absent := by
  unfold State.enrolledLink
  split <;> simp

namespace State.RosterOk

theorem ite {s t : State} {c : Prop} [Decidable c] (h : s.RosterOk) (k : t.RosterOk) :
    (if c then s else t).RosterOk := by
  split
  · exact h
  · exact k

theorem of_changesOnly {bs : List Part} {s t : State} (h : s.RosterOk) (hc : ChangesOnly bs s t)
    (hb : Part.roster ∉ bs ∧ Part.lines ∉ bs) : t.RosterOk := by
  have hroster : t.counter.roster = s.counter.roster := hc .roster hb.1
  intro n
  rw [State.link, State.station, hroster, (hc .lines hb.2).resetLow]
  exact h n

variable {s : State} (h : s.RosterOk)
include h

theorem setStation {n : StationNo} {x : RosterEntry} (hx : x.Ok s.resetLow) : (s.setStation n x).RosterOk := by
  intro m
  rw [State.link, State.setStation_station]
  split
  · exact hx
  · exact h m

theorem goodFrame (p : Port) : (s.goodFrame p).RosterOk := by
  unfold State.goodFrame
  split
  · next n =>
    split
    · exact h
    · next hl => exact h.setStation (RosterEntry.Ok.withSilence (h n) hl _)
  · exact h

theorem detach (n : StationNo) : (s.detach n).RosterOk := by
  refine of_changesOnly (setStation ?_ (.absent _)) (onPort_changesOnly _ _ _) (by simp)
  exact (((h.of_changesOnly (loseLabels_changesOnly s n) (by simp)).of_changesOnly (parkHeld_changesOnly _ n)
    (by simp)).of_changesOnly (unbindRelease_changesOnly _ n) (by simp)).of_changesOnly (clearContext_changesOnly _ n)
      (by simp)

theorem enrolRequest (n : StationNo) (p : List Byte) : (enrolRequest n p s).1.RosterOk := by
  unfold Machine.enrolRequest
  split
  · exact h
  · next r _ =>
    have hgone : (if s.link n = .absent then s else s.detach n).RosterOk := ite h (h.detach n)
    exact (hgone.setStation (.present (enrolledLink_ne_absent _ n) r _)).of_changesOnly (clearContext_changesOnly _ n)
      (by simp)

theorem openSession {st : StationNo} (hl : s.link st ≠ .absent) : (s.openSession st).RosterOk := by
  unfold State.openSession
  refine of_changesOnly (of_changesOnly (setStation ?_ ?_) (unbindRelease_changesOnly _ st) (by simp))
    (emptyWindow_changesOnly _ st) (by simp)
  · exact h
  · exact RosterEntry.Ok.withLink (h st) hl (by simp)

theorem leaveService (st : StationNo) : (s.leaveService st).RosterOk := by
  unfold State.leaveService
  split
  · next hl =>
    have hl' : (s.station st).link = .service := hl
    exact h.setStation (RosterEntry.Ok.withLink (h st) (by simp [hl']) (by simp))
  · exact h

theorem endUnchanged (st : StationNo) : (s.endUnchanged st).RosterOk :=
  have hidle : s.idleSession.RosterOk := h
  ite ((hidle.leaveService st).of_changesOnly (emptyWindow_changesOnly _ st) (by simp)) hidle

theorem closeSession (st : StationNo) (f : CalFields) (key : Option (List Word32)) :
    (s.closeSession st f key).RosterOk := by
  refine ite (leaveService ?_ st) (endUnchanged ?_ st)
  · exact ((h.of_changesOnly (commitCal_changesOnly s st f) (by simp)).of_changesOnly (commitKey_changesOnly _ key)
      (by simp)).of_changesOnly (idleSession_changesOnly _) (by simp)
  · exact h.of_changesOnly (commitKey_changesOnly s key) (by simp)

end State.RosterOk

theorem openTests_link {s : State} {st : StationNo} (h : firstOf (openTests s st) = none) : s.link st ≠ .absent := by
  simpa using firstOf_eq_none.mp h _ (List.mem_cons_self ..)

namespace State.RosterOk

/-- After the power-on handling every station is absent. -/
theorem powerOn (s : State) : s.powerOn.RosterOk := by
  have hinit : s.checkMarker.initVolatile.RosterOk := fun n => by
    have hn : s.checkMarker.initVolatile.station n = absentEntry := Table.get_fill _ _
    rw [State.link, hn]
    exact RosterEntry.Ok.absent _
  have hcounted (t : State) (ht : t.RosterOk) : t.countLost.RosterOk := ite ht ht
  exact (((hcounted _ hinit).of_changesOnly (dayCheck_changesOnly _) (by simp)).of_changesOnly
    (enterState_changesOnly _ _) (by simp)).of_changesOnly (changesOnly_beat _ _) (by simp)

variable {s : State} (h : s.RosterOk)
include h

theorem serviceKeyRequest (p : List Byte) : (serviceKeyRequest p s).1.RosterOk := by
  have hjudged (st : StationNo) (ws : List Word32) : (judgeKey s st ws).1.RosterOk := by
    unfold judgeKey
    split
    · split
      · exact h
      · next hopen => exact h.openSession (openTests_link hopen)
    · exact h
  dsimp only [Machine.serviceKeyRequest]
  split
  · exact h
  · exact h
  · exact h
  · split
    · exact h
    · exact hjudged _ _

theorem request (i : Instr) (p : List Byte) : (requestAct i p s).1.RosterOk := by
  cases i with
  | enrol n => exact h.enrolRequest n p
  | serviceKey => exact h.serviceKeyRequest p
  | serviceClose =>
    change (serviceCloseRequest p s).1.RosterOk
    unfold serviceCloseRequest inOpen
    split
    · dsimp only
      split
      · exact h
      · split
        · exact h
        · exact closeSession (s := s.restartInactivity) h _ _ _
    all_goals exact h
  | serviceAbandon =>
    change (serviceAbandonRequest p s).1.RosterOk
    unfold serviceAbandonRequest
    split
    · exact h
    · exact h
    · exact h
    · exact h.endUnchanged _
  | _ => exact h.of_changesOnly (requestAct_changesOnly _ p s) (by simp [requestParts])

/-- Every cause keeps the roster's law. -/
theorem cause (c : Cause) : (c.run s).RosterOk := by
  cases c with
  | goodFrame p => exact h.goodFrame p
  | lost n => exact ite h ((h.detach n).of_changesOnly (raise_changesOnly _ _ _) (by simp))
  | inactivityExpired =>
    change s.inactivityExpired.RosterOk
    unfold State.inactivityExpired
    split
    · exact ite (h.endUnchanged _) h
    all_goals exact h
  | request i payload => exact h.request i payload
  | resetAssert =>
    change s.enterReset.RosterOk
    intro n
    have hn : s.enterReset.station n = { s.station n with silence := none } := by
      simp only [State.station, State.enterReset, Table.get_each]
    rw [State.link, hn]
    exact ⟨(h n).1, fun hlow => by cases hlow⟩
  | resetRelease =>
    change s.resetReleased.RosterOk
    unfold State.resetReleased
    exact ite (powerOn _) h
  | holdRelease =>
    have hline : State.RosterOk { s with loadHold := false } := h
    exact ite hline (ite (hline.of_changesOnly (enterState_changesOnly _ _) (by simp)) hline)
  | holdAssert => exact h
  | battery => exact ite (show State.RosterOk { s with markerOk := false } from h) h
  | _ => exact h.of_changesOnly (Cause.run_changesOnly _ s) (by simp [Cause.parts])

end State.RosterOk

/-! ## The clock (R148 to R150) -/

theorem tick_valid {t : DateTime} (h : t.valid = true) : t.tick.valid = true := by
  have hv := h
  simp only [DateTime.valid, Bool.and_eq_true, decide_eq_true_eq] at hv
  obtain ⟨⟨⟨hdate, hhour⟩, hminute⟩, hsecond⟩ := hv
  unfold DateTime.tick
  split_ifs with hend h1 h2 h3
  · exact h
  · simp only [DateTime.valid, Bool.and_eq_true, decide_eq_true_eq]
    exact ⟨⟨⟨hdate, hhour⟩, hminute⟩, by omega⟩
  · simp only [DateTime.valid, Bool.and_eq_true, decide_eq_true_eq]
    exact ⟨⟨⟨hdate, hhour⟩, by omega⟩, by omega⟩
  · simp only [DateTime.valid, Bool.and_eq_true, decide_eq_true_eq]
    exact ⟨⟨⟨hdate, by omega⟩, by omega⟩, by omega⟩
  · have hlast : t.date ≠ lastDate := by
      intro he
      obtain ⟨d, a, b, c⟩ := t
      simp only at he hhour hminute hsecond h1 h2 h3
      exact hend (by rw [clockEnd, he]; congr <;> omega)
    simp [DateTime.valid, Date.next_valid hdate hlast]

theorem decodeTime_valid {p : List Byte} {t : DateTime} (h : decodeTime p = some t) : t.valid = true := by
  unfold decodeTime at h
  dsimp only at h
  split at h
  · next hv => cases h; exact hv
  · cases h

/-- After a day check the last date is the clock's date. -/
theorem dayCheck_lastDate (s : State) : s.dayCheck.counter.lastDate = s.dayCheck.counter.clock.date := by
  unfold State.dayCheck
  split
  · next h => exact h.symm
  · rfl

theorem dayCheck_clock (s : State) : s.dayCheck.clock = s.clock := by
  unfold State.dayCheck
  split <;> rfl

namespace State.ClockOk

theorem ite {s t : State} {c : Prop} [Decidable c] (h : s.ClockOk) (k : t.ClockOk) :
    (if c then s else t).ClockOk := by
  split
  · exact h
  · exact k

theorem of_changesOnly {bs : List Part} {s t : State} (h : s.ClockOk) (hc : ChangesOnly bs s t)
    (hb : Part.clock ∉ bs ∧ Part.lines ∉ bs) : t.ClockOk := by
  have hclock : (t.counter.clock, t.counter.lastDate) = (s.counter.clock, s.counter.lastDate) := hc .clock hb.1
  obtain ⟨hnow, hdate⟩ := Prod.mk.injEq _ _ _ _ ▸ hclock
  rw [State.ClockOk, hnow, hdate, (hc .lines hb.2).resetLow]
  exact h

/-- A valid clock is all that a day check needs. -/
theorem dayCheck {s : State} (h : s.clock.valid = true) : s.dayCheck.ClockOk :=
  ⟨(congrArg DateTime.valid (dayCheck_clock s)).trans h, fun _ => dayCheck_lastDate s⟩

theorem powerOn {s : State} (h : s.clock.valid = true) : s.powerOn.ClockOk := by
  have hclock : s.checkMarker.initVolatile.countLost.clock.valid = true := by
    have hlost (t : State) : t.countLost.clock = t.clock := by
      unfold State.countLost
      dsimp only
      split <;> rfl
    rw [hlost]
    change s.checkMarker.clock.valid = true
    unfold State.checkMarker
    split
    · exact h
    · exact (by decide : epoch.valid = true)
  exact ((dayCheck hclock).of_changesOnly (enterState_changesOnly _ _) (by simp)).of_changesOnly
    (changesOnly_beat _ _) (by simp)

variable {s : State} (h : s.ClockOk)
include h

theorem request (i : Instr) (p : List Byte) : (requestAct i p s).1.ClockOk := by
  cases i with
  | timeSet =>
    change (timeSetRequest p s).1.ClockOk
    unfold timeSetRequest
    split
    · exact h
    · next t ht =>
      split
      · exact h
      · have hraised : (if 2 < (timeStep s t).natAbs then
            (s.setClock t).raise .timeStepped { variant := .step (timeStep s t) } else s.setClock t).clock.valid
              = true := by
          split <;> exact decodeTime_valid ht
        exact (dayCheck hraised).of_changesOnly (activateIfDue_changesOnly _) (by simp)
  | _ => exact h.of_changesOnly (requestAct_changesOnly _ p s) (by simp [requestParts])

/-- Every cause keeps the clock's law. -/
theorem cause (c : Cause) : (c.run s).ClockOk := by
  cases c with
  | tick =>
    have hvalid : (s.setClock s.clock.tick).clock.valid = true := tick_valid h.1
    change s.secondPassed.ClockOk
    unfold State.secondPassed
    split
    · next hlow => exact ⟨hvalid, fun hhigh => absurd (hlow.symm.trans hhigh) (by simp)⟩
    · exact (dayCheck hvalid).of_changesOnly (activateIfDue_changesOnly _) (by simp)
  | request i payload => exact h.request i payload
  | resetAssert => exact ⟨h.1, fun hlow => by cases hlow⟩
  | resetRelease => exact ite (powerOn (s := { s with resetLow := false }) h.1) h
  | holdRelease =>
    have hline : State.ClockOk { s with loadHold := false } := h
    exact ite hline (ite (hline.of_changesOnly (enterState_changesOnly _ _) (by simp)) hline)
  | holdAssert => exact h
  | battery => exact ite (show State.ClockOk { s with markerOk := false } from h) h
  | _ => exact h.of_changesOnly (Cause.run_changesOnly _ s) (by simp [Cause.parts])

end State.ClockOk

end Sys2Proof.Machine
end

section
/-! The service session's law (09): what each operation does to the session, its timers and the stations in SERVICE, and
O60 with the roster's and the clock's laws. -/

namespace Sys2Proof.Machine

namespace State.SessionOk

theorem ite {s t : State} {c : Prop} [Decidable c] (h : s.SessionOk) (k : t.SessionOk) :
    (if c then s else t).SessionOk := by
  split
  · exact h
  · exact k

/-- The lock's state is another's, and every station's link state is the other's, ABSENT, or what an enrolment takes. -/
theorem of_links {s t : State} (h : s.SessionOk) (hlock : Part.session.Same s t) (hlow : t.resetLow = s.resetLow)
    (hlink : ∀ n, t.link n = s.link n ∨ t.link n = .absent ∨ t.link n = s.enrolledLink n) : t.SessionOk := by
  have hl : { t.lock with records := s.lock.records, profiles := s.lock.profiles } = s.lock := hlock
  have hsession : t.lock.session = s.lock.session := congrArg (·.session) hl
  have hon (n : StationNo) : t.sessionOn n = s.sessionOn n := by rw [State.sessionOn, hsession]; rfl
  obtain ⟨h1, h2, h3, h4, h5, h6, h7, h8⟩ := h
  rw [← hl] at h1 h2 h3 h4 h7 h8
  refine ⟨h1, h2, h3, h4, fun n hn => ?_, fun n hn => ?_, h7, fun hhigh => h8 (hlow ▸ hhigh)⟩
  · rw [hon]
    rcases hlink n with e | e | e
    · exact h5 n (e ▸ hn)
    · exact absurd (e.symm.trans hn) (by simp)
    · rw [e] at hn
      unfold State.enrolledLink at hn
      split at hn
      · assumption
      · cases hn
  · rw [hon] at hn
    rcases hlink n with e | e | e
    · exact e ▸ h6 n hn
    · simp [e]
    · simp [e, State.enrolledLink, hn]

theorem of_changesOnly {bs : List Part} {s t : State} (h : s.SessionOk) (hc : ChangesOnly bs s t)
    (hb : Part.session ∉ bs ∧ Part.lines ∉ bs ∧ Part.roster ∉ bs) : t.SessionOk := by
  have hroster : t.counter.roster = s.counter.roster := hc .roster hb.2.2
  refine h.of_links (hc .session hb.1) (hc .lines hb.2.1).resetLow fun n => .inl ?_
  rw [State.link, State.station, hroster]
  rfl

/-- The session IDLE with both timers stopped and no station in SERVICE. -/
theorem of_idle {s : State} (hsession : s.lock.session = .idle) (hsequence : s.lock.sequence = none)
    (hinactivity : s.lock.inactivity = none) (hfailures : s.lock.failures < Config.lockoutFailures)
    (haudit : s.lock.audit ≤ Config.lastAudit) (hkey : s.lock.key.length = 4)
    (hlink : ∀ n, s.link n ≠ .service) : s.SessionOk := by
  refine ⟨hfailures.le, haudit, hkey, ?_, fun n hn => absurd hn (hlink n), fun n hn => ?_, ?_, fun _ => ?_⟩
  · rw [hsession]
    exact iff_of_false (by simp) (ne_of_lt hfailures)
  · simp [State.sessionOn, hsession] at hn
  · rw [hsession]
    trivial
  · rw [hsession, hsequence, hinactivity]
    exact ⟨rfl, rfl⟩

variable {s : State} (h : s.SessionOk)
include h

/-- Fewer than three failures outside LOCKED_OUT. -/
theorem failures_lt (hs : s.lock.session ≠ .lockedOut) : s.lock.failures < Config.lockoutFailures := by
  obtain ⟨h1, -, -, h4, -⟩ := h
  exact lt_of_le_of_ne h1 fun e => hs (h4.mpr e)

/-- Outside an open session no station is in SERVICE. -/
theorem link_ne_service (hs : ∀ n, s.sessionOn n = false) (n : StationNo) : s.link n ≠ .service := by
  obtain ⟨-, -, -, -, h5, -⟩ := h
  exact fun hn => absurd (h5 n hn) (by simp [hs n])

/-- A session that ends with no station in SERVICE. -/
theorem idle (hs : s.lock.session ≠ .lockedOut) (hlink : ∀ n, s.link n ≠ .service) : s.idleSession.SessionOk := by
  have hfailures := h.failures_lt hs
  obtain ⟨-, haudit, hkey, -⟩ := h
  exact of_idle rfl rfl rfl hfailures haudit hkey hlink

theorem dayCheck : s.dayCheck.SessionOk := by
  unfold State.dayCheck
  split
  · exact h
  · obtain ⟨-, h2, h3, -, h5, h6, h7, h8⟩ := h
    have hon (n : StationNo) : s.changeDay.sessionOn n = s.sessionOn n := by
      simp only [State.sessionOn, State.changeDay]
      cases s.lock.session <;> rfl
    refine ⟨Nat.zero_le _, h2, h3, ?_, fun n hn => hon n ▸ h5 n hn, fun n hn => h6 n (hon n ▸ hn), ?_, fun hlow => ?_⟩
    · simp only [State.changeDay, Config.lockoutFailures]
      cases s.lock.session <;> simp [Session.afterDay]
    · simp only [State.changeDay]
      cases hs : s.lock.session <;> simp_all [Session.afterDay]
    · have h8 := h8 hlow
      simp only [State.changeDay]
      cases hs : s.lock.session <;> simp_all [Session.afterDay]

/-- A roster entry replaced whose link state is as before, ABSENT, or what an enrolment takes. -/
theorem setStation {n : StationNo} {x : RosterEntry}
    (hx : x.link = s.link n ∨ x.link = .absent ∨ x.link = s.enrolledLink n) : (s.setStation n x).SessionOk := by
  refine h.of_links rfl rfl fun m => ?_
  rw [State.setStation_link]
  split
  · next e => exact e ▸ hx
  · exact .inl rfl

theorem goodFrame (p : Port) : (s.goodFrame p).SessionOk := by
  unfold State.goodFrame
  split
  · exact ite h (h.setStation (.inl rfl))
  · exact h

theorem detach (n : StationNo) : (s.detach n).SessionOk := by
  unfold State.detach
  have hbefore := ((((h.of_changesOnly (loseLabels_changesOnly s n) (by simp)).of_changesOnly
    (parkHeld_changesOnly _ n) (by simp)).of_changesOnly (unbindRelease_changesOnly _ n) (by simp)).of_changesOnly
      (clearContext_changesOnly _ n) (by simp))
  exact (hbefore.setStation (x := absentEntry) (.inr (.inl rfl))).of_changesOnly (onPort_changesOnly _ _ _) (by simp)

theorem enrolRequest (n : StationNo) (p : List Byte) : (enrolRequest n p s).1.SessionOk := by
  unfold Machine.enrolRequest
  split
  · exact h
  · have hgone : (if s.link n = .absent then s else s.detach n).SessionOk := ite h (h.detach n)
    exact (hgone.setStation (.inr (.inr rfl))).of_changesOnly (clearContext_changesOnly _ n) (by simp)

/-! ## A session's work and its end -/

theorem restartInactivity {st : StationNo} {f : CalFields} {key : Option (List Word32)}
    (hs : s.lock.session = .opened st f key) : s.restartInactivity.SessionOk := by
  obtain ⟨h1, h2, h3, h4, h5, h6, h7, h8⟩ := h
  refine ⟨h1, h2, h3, h4, h5, h6, h7, fun hlow => ⟨(h8 hlow).1, ?_⟩⟩
  simp [State.restartInactivity, State.onLock, hs]

theorem stage {st : StationNo} {f f' : CalFields} {key key' : Option (List Word32)}
    (hs : s.lock.session = .opened st f key) (hkey : ∀ ws ∈ key', ws.length = 4) : (s.stage st f' key').SessionOk := by
  have hon (n : StationNo) : (s.stage st f' key').sessionOn n = s.sessionOn n := by
    simp [State.sessionOn, State.stage, State.onLock, hs]
  obtain ⟨h1, h2, h3, h4, h5, h6, -, h8⟩ := h
  rw [hs] at h4 h8
  refine ⟨h1, h2, h3, ?_, fun n hn => hon n ▸ h5 n hn, fun n hn => h6 n (hon n ▸ hn), hkey, h8⟩
  exact iff_of_false (by simp [State.stage, State.onLock]) (mt h4.mpr (by simp))

/-- The staged key of an open session holds four words. -/
theorem stagedKey {st : StationNo} {f : CalFields} {key : Option (List Word32)}
    (hs : s.lock.session = .opened st f key) : ∀ ws ∈ key, ws.length = 4 := by
  obtain ⟨-, -, -, -, -, -, h7, -⟩ := h
  rwa [hs] at h7

/-- In an open session no station but the session's is in SERVICE. -/
theorem link_ne_service_of_ne {st n : StationNo} {f : CalFields} {key : Option (List Word32)}
    (hs : s.lock.session = .opened st f key) (hn : n ≠ st) : s.link n ≠ .service := by
  obtain ⟨-, -, -, -, h5, -⟩ := h
  intro hl
  have := h5 n hl
  simp [State.sessionOn, hs] at this
  exact hn this.symm

/-- What an open session's request does keeps the law when it does so from the restarted inactivity timer. -/
theorem inOpen {act : StationNo → CalFields → Option (List Word32) → State → Answer}
    (hact : ∀ st f key, s.lock.session = .opened st f key → (act st f key s.restartInactivity).1.SessionOk) :
    (inOpen act s).1.SessionOk := by
  unfold Machine.inOpen
  split
  · next hs => exact hact _ _ _ hs
  all_goals exact h

end State.SessionOk

theorem leaveService_link (s : State) (st n : StationNo) :
    (s.leaveService st).link n = if n = st ∧ s.link st = .service then .enrolled else s.link n := by
  unfold State.leaveService
  split_ifs with hl hn
  · rw [State.setStation_link, if_pos hn.1]
  · rw [State.setStation_link, if_neg fun e => hn ⟨e, hl⟩]
  · exact absurd ‹_ ∧ _›.2 hl
  · rfl

/-- During a key sequence no station's session is open. -/
theorem sessionOn_of_synced {s : State} {st : StationNo} {ws : List Word32} (hs : s.lock.session = .synced st ws) (n : StationNo) :
    s.sessionOn n = false := by
  rw [State.sessionOn, hs]

/-- After the return from SERVICE the station is not in SERVICE. -/
theorem leaveService_link_ne {s : State} {st : StationNo} (h : ∀ n, n ≠ st → s.link n ≠ .service) (n : StationNo) :
    (s.leaveService st).link n ≠ .service := by
  rw [leaveService_link]
  split_ifs with hn
  · simp
  · by_cases e : n = st
    · exact fun hl => hn ⟨e, e ▸ hl⟩
    · exact h n e

theorem leaveService_lock (s : State) (st : StationNo) : (s.leaveService st).lock = s.lock := by
  unfold State.leaveService
  split <;> rfl

namespace State.SessionOk

variable {s : State}

/-- A session that ends at a station: the lock idle, the station returned, and no other in SERVICE. -/
theorem endUnchanged {st : StationNo} (hfailures : s.lock.failures < Config.lockoutFailures)
    (haudit : s.lock.audit ≤ Config.lastAudit) (hkey : s.lock.key.length = 4)
    (hlink : ∀ n, n ≠ st → s.link n ≠ .service) : (s.endUnchanged st).SessionOk := by
  unfold State.endUnchanged
  dsimp only
  split
  · have hlock : (s.idleSession.leaveService st).lock = s.idleSession.lock := leaveService_lock _ _
    refine of_changesOnly (of_idle ?_ ?_ ?_ ?_ ?_ ?_ ?_) (emptyWindow_changesOnly _ st) (by simp)
    · rw [hlock]; rfl
    · rw [hlock]; rfl
    · rw [hlock]; rfl
    · rw [hlock]; exact hfailures
    · rw [hlock]; exact haudit
    · rw [hlock]; exact hkey
    · exact leaveService_link_ne hlink
  · next hl =>
    refine of_idle rfl rfl rfl hfailures haudit hkey fun n => ?_
    by_cases e : n = st
    · exact e ▸ hl
    · exact hlink n e

theorem closeSession {st : StationNo} {f : CalFields} {key : Option (List Word32)}
    (hfailures : s.lock.failures < Config.lockoutFailures) (haudit : s.lock.audit ≤ Config.lastAudit)
    (hkey : s.lock.key.length = 4) (hstaged : ∀ ws ∈ key, ws.length = 4)
    (hlink : ∀ n, n ≠ st → s.link n ≠ .service)
    (hroom : calChanged (s.calibration st) f = true → s.lock.audit ≠ Config.lastAudit) :
    (s.closeSession st f key).SessionOk := by
  have hnew : (key.getD s.lock.key).length = 4 := by
    cases key with
    | none => exact hkey
    | some ws => exact hstaged ws rfl
  unfold State.closeSession
  split
  · next hchanged =>
    have hlock := leaveService_lock ((s.commitCal st f).commitKey key).idleSession st
    refine of_idle ?_ ?_ ?_ ?_ ?_ ?_ ?_
    · rw [hlock]; rfl
    · rw [hlock]; rfl
    · rw [hlock]; rfl
    · rw [hlock]; exact hfailures
    · rw [hlock]; exact Nat.succ_le_of_lt (lt_of_le_of_ne haudit (hroom hchanged))
    · rw [hlock]; exact hnew
    · exact leaveService_link_ne hlink
  · exact endUnchanged (s := s.commitKey key) hfailures haudit hnew hlink

variable (h : s.SessionOk)
include h

/-- An open session abandoned. -/
theorem abandon {st : StationNo} {f : CalFields} {key : Option (List Word32)}
    (hs : s.lock.session = .opened st f key) : (s.endUnchanged st).SessionOk := by
  have hfailures := h.failures_lt (by simp [hs])
  have hlink := fun n => h.link_ne_service_of_ne (n := n) hs
  obtain ⟨-, haudit, hkey, -⟩ := h
  exact endUnchanged hfailures haudit hkey hlink

theorem inactivityExpired : s.inactivityExpired.SessionOk := by
  unfold State.inactivityExpired
  split
  · next hs => exact ite (h.abandon hs) h
  all_goals exact h

theorem serviceCloseRequest (p : List Byte) : (serviceCloseRequest p s).1.SessionOk := by
  refine h.inOpen fun st f key hs => ?_
  have hkept := h.restartInactivity hs
  have hfailures := h.failures_lt (by simp [hs])
  have hstaged := h.stagedKey hs
  have hlink := fun n => h.link_ne_service_of_ne (n := n) hs
  dsimp only
  split
  · exact hkept
  · split
    · exact hkept
    · next hroom =>
      obtain ⟨-, haudit, hkey, -⟩ := h
      exact closeSession (s := s.restartInactivity) hfailures haudit hkey hstaged hlink fun hchanged hlast =>
        hroom (by rw [hchanged]; simpa using hlast)

/-! ## The key sequence -/

theorem failKey {st : StationNo} {ws : List Word32} (hs : s.lock.session = .synced st ws) :
    (s.failKey st).SessionOk := by
  have hfailures := h.failures_lt (by simp [hs])
  have hlink := h.link_ne_service (sessionOn_of_synced hs)
  obtain ⟨-, haudit, hkey, -⟩ := h
  have hsession : (s.failKey st).lock.session
      = if s.lock.failures + 1 = Config.lockoutFailures then .lockedOut else .idle := rfl
  have hon (n : StationNo) : (s.failKey st).sessionOn n = false := by
    rw [State.sessionOn, hsession]
    split_ifs <;> rfl
  refine ⟨hfailures, haudit, hkey, ?_, fun n hn => absurd hn (hlink n), fun n hn => ?_, ?_, fun _ => ?_⟩
  · rw [hsession]
    change _ ↔ s.lock.failures + 1 = _
    split_ifs with hk
    · exact iff_of_true rfl hk
    · exact iff_of_false (by simp) hk
  · rw [hon] at hn
    cases hn
  · rw [hsession]
    split_ifs <;> trivial
  · rw [hsession]
    split_ifs <;> exact ⟨rfl, rfl⟩

theorem openSession {st : StationNo} {ws : List Word32} (hs : s.lock.session = .synced st ws) :
    (s.openSession st).SessionOk := by
  have hlink := h.link_ne_service (sessionOn_of_synced hs)
  obtain ⟨-, haudit, hkey, -⟩ := h
  unfold State.openSession
  refine of_changesOnly (of_changesOnly ?_ (unbindRelease_changesOnly _ st) (by simp)) (emptyWindow_changesOnly _ st)
    (by simp)
  refine ⟨Nat.zero_le _, haudit, hkey, iff_of_false (by simp [State.onLock]) (by simp [State.onLock,
    Config.lockoutFailures]), fun n hn => ?_, fun n hn => ?_, by simp [State.onLock], fun _ => ⟨rfl, rfl⟩⟩
  · rw [State.setStation_link] at hn
    split at hn
    · next e => simp [State.sessionOn, State.onLock, e]
    · exact absurd hn (hlink n)
  · have hst : st = n := by simpa [State.sessionOn, State.onLock] using hn
    rw [← hst, State.setStation_link_same]
    simp

theorem serviceKeyRequest (p : List Byte) : (serviceKeyRequest p s).1.SessionOk := by
  unfold Machine.serviceKeyRequest
  split
  · exact h
  · exact h
  · exact h
  · next st ws hs =>
    dsimp only
    split
    · next hlength =>
      have hon (n : StationNo) : s.sessionOn n = false := sessionOn_of_synced hs n
      have hlink := h.link_ne_service hon
      obtain ⟨h1, h2, h3, h4, -, -, -, h8⟩ := h
      rw [hs] at h4 h8
      refine ⟨h1, h2, h3, iff_of_false (by simp [State.onLock]) (mt h4.mpr (by simp)), fun n hn => absurd hn (hlink n),
        fun n hn => ?_, hlength, h8⟩
      simp [State.sessionOn, State.onLock] at hn
    · unfold judgeKey
      split
      · split
        · exact h.idle (by simp [hs]) (h.link_ne_service (sessionOn_of_synced hs))
        · exact h.openSession hs
      · exact h.failKey hs

theorem serviceOpenRequest (p : List Byte) : (serviceOpenRequest p s).1.SessionOk := by
  unfold Machine.serviceOpenRequest
  split
  · exact h
  · exact h
  · exact h
  · next hs =>
    split
    · exact h
    · have hlink := h.link_ne_service fun n => by rw [State.sessionOn, hs]
      obtain ⟨h1, h2, h3, h4, -, -, -, h8⟩ := h
      rw [hs] at h4 h8
      refine ⟨h1, h2, h3, iff_of_false (by simp [State.onLock]) (mt h4.mpr (by simp)), fun n hn => absurd hn (hlink n),
        fun n hn => ?_, by simp [State.onLock], fun hlow => ⟨rfl, (h8 hlow).2⟩⟩
      simp [State.sessionOn, State.onLock] at hn

/-! ## Requests, power and causes -/

theorem request (i : Instr) (p : List Byte) : (requestAct i p s).1.SessionOk := by
  cases i with
  | enrol n => exact h.enrolRequest n p
  | timeSet =>
    change (timeSetRequest p s).1.SessionOk
    unfold timeSetRequest
    split
    · exact h
    · split
      · exact h
      · next t _ _ =>
        have hclock : (s.setClock t).SessionOk := h
        exact (dayCheck (ite (hclock.of_changesOnly (raise_changesOnly _ _ _) (by simp)) hclock)).of_changesOnly
          (activateIfDue_changesOnly _) (by simp)
  | serviceOpen => exact h.serviceOpenRequest p
  | serviceKey => exact h.serviceKeyRequest p
  | calRead => exact h.inOpen fun st f key hs => h.restartInactivity hs
  | calWrite =>
    refine h.inOpen fun st f key hs => ?_
    dsimp only
    split
    · exact (h.restartInactivity hs).stage hs (h.stagedKey hs)
    · exact h.restartInactivity hs
  | captureZero =>
    refine h.inOpen fun st f key hs => ?_
    dsimp only
    split
    · exact h.restartInactivity hs
    · exact (h.restartInactivity hs).stage hs (h.stagedKey hs)
  | captureSpan =>
    refine h.inOpen fun st f key hs => ?_
    dsimp only
    split
    · exact h.restartInactivity hs
    · exact (h.restartInactivity hs).stage hs (h.stagedKey hs)
  | keyChange =>
    refine h.inOpen fun st f key hs => (h.restartInactivity hs).stage hs ?_
    rintro _ ⟨⟩
    simp [decodeKey]
  | serviceClose => exact h.serviceCloseRequest p
  | serviceAbandon =>
    change (serviceAbandonRequest p s).1.SessionOk
    unfold serviceAbandonRequest
    split
    · exact h
    · exact h
    · next hs => exact h.idle (by simp [hs]) (h.link_ne_service (sessionOn_of_synced hs))
    · next hs => exact h.abandon hs
  | _ => exact h.of_changesOnly (requestAct_changesOnly _ p s) (by simp [requestParts])

omit h in
/-- The power-on handling needs nothing of the session but its counts and its key. -/
theorem powerOn (hfailures : s.lock.failures ≤ Config.lockoutFailures) (haudit : s.lock.audit ≤ Config.lastAudit)
    (hkey : s.lock.key.length = 4) : s.powerOn.SessionOk := by
  have hmarker : s.checkMarker.lock.failures ≤ Config.lockoutFailures ∧ s.checkMarker.lock.audit ≤ Config.lastAudit
      ∧ s.checkMarker.lock.key.length = 4 := by
    unfold State.checkMarker
    split
    · exact ⟨hfailures, haudit, hkey⟩
    · exact ⟨Nat.zero_le _, Nat.zero_le _, rfl⟩
  obtain ⟨h1, h2, h3⟩ := hmarker
  have habsent (n : StationNo) : s.checkMarker.initVolatile.link n = .absent := by
    simp only [State.link, State.station, State.initVolatile, Table.get_fill, absentEntry]
  have hsession : s.checkMarker.initVolatile.lock.session
      = if s.checkMarker.lock.failures = Config.lockoutFailures then .lockedOut else .idle := rfl
  have hinit : s.checkMarker.initVolatile.SessionOk := by
    refine ⟨h1, h2, h3, ?_, fun n hn => ?_, fun n _ => ?_, ?_, fun _ => ?_⟩
    · rw [hsession]
      split_ifs with hk
      · exact iff_of_true rfl hk
      · exact iff_of_false (by simp) hk
    · rw [habsent] at hn
      cases hn
    · rw [habsent]
      simp
    · rw [hsession]
      split_ifs <;> trivial
    · rw [hsession]
      split_ifs <;> exact ⟨rfl, rfl⟩
  have hcounted (t : State) (ht : t.SessionOk) : t.countLost.SessionOk := ite ht ht
  exact ((dayCheck (hcounted _ hinit)).of_changesOnly (enterState_changesOnly _ _) (by simp)).of_changesOnly
    (changesOnly_beat _ _) (by simp)

/-- Every cause keeps the session's law. -/
theorem cause (c : Cause) : (c.run s).SessionOk := by
  cases c with
  | goodFrame p => exact h.goodFrame p
  | lost n => exact ite h ((h.detach n).of_changesOnly (raise_changesOnly _ _ _) (by simp))
  | tick =>
    have hclock : (s.setClock s.clock.tick).SessionOk := h
    exact ite hclock (hclock.dayCheck.of_changesOnly (activateIfDue_changesOnly _) (by simp))
  | sequenceExpired =>
    change s.idleOnExpiry.SessionOk
    unfold State.idleOnExpiry
    split
    · exact h
    · next hlow =>
      split
      · next hsequence =>
        obtain ⟨st, ws, hs⟩ : ∃ st ws, s.lock.session = .synced st ws := by
          obtain ⟨-, -, -, -, -, -, -, h8⟩ := h
          have hrun := (h8 (by simpa using hlow)).1
          rw [hsequence] at hrun
          split at hrun
          · exact ⟨_, _, ‹_›⟩
          · cases hrun
        exact h.idle (by simp [hs]) (h.link_ne_service (sessionOn_of_synced hs))
      · exact h
  | inactivityExpired => exact h.inactivityExpired
  | request i payload => exact h.request i payload
  | resetAssert =>
    change s.enterReset.SessionOk
    have hlink (n : StationNo) : s.enterReset.link n = s.link n := by
      simp only [State.link, State.station, State.enterReset, Table.get_each]
    obtain ⟨h1, h2, h3, h4, h5, h6, h7, -⟩ := h
    exact ⟨h1, h2, h3, h4, fun n hn => h5 n (hlink n ▸ hn), fun n hn => hlink n ▸ h6 n hn, h7, fun hlow => by cases hlow⟩
  | resetRelease =>
    change s.resetReleased.SessionOk
    unfold State.resetReleased
    split
    · obtain ⟨h1, h2, h3, -⟩ := h
      exact powerOn (s := { s with resetLow := false }) h1 h2 h3
    · exact h
  | holdRelease =>
    have hline : State.SessionOk { s with loadHold := false } := h
    exact ite hline (ite (hline.of_changesOnly (enterState_changesOnly _ _) (by simp)) hline)
  | holdAssert => exact h
  | battery => exact ite (show State.SessionOk { s with markerOk := false } from h) h
  | _ => exact h.of_changesOnly (Cause.run_changesOnly _ s) (by simp [Cause.parts])

end State.SessionOk

end Sys2Proof.Machine

open Sys2Proof Sys2Proof.Machine

/-- Settles O60: each law speaks of a few parts of the state, and each operation that changes one of them keeps it. -/
theorem sessionRosterClockAreKept : Obligations.SessionRosterClockAreKept := by
  intro s t hstep
  refine ⟨?_, ?_, ?_⟩
  · exact step_keeps_of_causes (P := State.SessionOk) (fun _ _ hc h => h.of_changesOnly hc (by simp))
      (fun c _ h => h.cause c) hstep
  · exact step_keeps_of_causes (P := State.RosterOk) (fun _ _ hc h => h.of_changesOnly hc (by simp))
      (fun c _ h => h.cause c) hstep
  · exact step_keeps_of_causes (P := State.ClockOk) (fun _ _ hc h => h.of_changesOnly hc (by simp))
      (fun c _ h => h.cause c) hstep
end

section
/-! The weighing engine's law (01): what each operation does to a weighing context, and O54 from it. -/

namespace Sys2Proof.Machine

/-! ## One context -/

/-- What holds of a context's zero and tare: an initial zero exactly with a zero, within the zero band of it, and tare
used only with a station tare. -/
def WeighContext.Held (x : WeighContext) (c : CalFields) : Prop :=
  (x.initialZero = none ↔ x.zero = none) ∧ (x.tareUsed = true → x.tare ≠ none)
    ∧ ∀ z ∈ x.zero, ∀ z0 ∈ x.initialZero, (z - z0).natAbs ≤ c.max2 * 20

theorem WeighContext.Ok.held {x : WeighContext} {r : CalRecord} (h : x.Ok r) : x.Held r.fields := by
  obtain ⟨-, -, -, hzero, htare, hband⟩ := h
  exact ⟨hzero, htare, hband⟩

/-- The state a sample gives of a context is NO_ZERO exactly without a zero, and never NO_CAL. -/
theorem stateOf_spec (c : CalFields) (zero : Option Int) (gross : Int) :
    stateOf c zero gross ≠ .noCal ∧ (zero = none ↔ stateOf c zero gross = .noZero) := by
  unfold stateOf
  cases zero with
  | none => simp
  | some z =>
    simp only [Option.isNone_some, Bool.false_eq_true, if_false]
    split_ifs <;> simp

/-- A context under a SET record whose state is what a sample gives. -/
theorem WeighContext.Held.ok {x : WeighContext} {r : CalRecord} (h : x.Held r.fields) (hset : r.isSet = true)
    (hwindow : x.window.length ≤ Config.windowEntries) {g : Int} (hstate : x.state = stateOf r.fields x.zero g) :
    x.Ok r := by
  obtain ⟨hcal, hzero⟩ := stateOf_spec r.fields x.zero g
  rw [← hstate] at hcal hzero
  obtain ⟨h1, h2, h3⟩ := h
  refine ⟨hwindow, iff_of_false hcal (by simp [hset]), hzero.trans ⟨.inr, fun h => h.resolve_left hcal⟩, h1, h2, h3⟩

/-- A context's window and newest result replaced. -/
theorem WeighContext.Ok.withWindow {x y : WeighContext} {r : CalRecord} (h : x.Ok r)
    (hwindow : y.window.length ≤ Config.windowEntries)
    (hsame : (y.state, y.zero, y.initialZero, y.tare, y.tareUsed) = (x.state, x.zero, x.initialZero, x.tare, x.tareUsed)) :
    y.Ok r := by
  simp only [Prod.mk.injEq] at hsame
  obtain ⟨hstate, hzero, hinitial, htare, hused⟩ := hsame
  obtain ⟨-, h2, h3, h4, h5, h6⟩ := h
  unfold WeighContext.Ok
  rw [hstate, hzero, hinitial, htare, hused]
  exact ⟨hwindow, h2, h3, h4, h5, h6⟩

/-- A context's station tare replaced, and tare used set only with one. -/
theorem WeighContext.Ok.withTares {x y : WeighContext} {r : CalRecord} (h : x.Ok r)
    (hwindow : y.window.length ≤ Config.windowEntries)
    (hsame : (y.state, y.zero, y.initialZero) = (x.state, x.zero, x.initialZero))
    (hused : y.tareUsed = true → y.tare ≠ none) : y.Ok r := by
  simp only [Prod.mk.injEq] at hsame
  obtain ⟨hstate, hzero, hinitial⟩ := hsame
  obtain ⟨-, h2, h3, h4, -, h6⟩ := h
  unfold WeighContext.Ok
  rw [hstate, hzero, hinitial]
  exact ⟨hwindow, h2, h3, h4, hused, h6⟩

theorem clearedContext_ok (r : CalRecord) : (clearedContext r.isSet).Ok r := by
  unfold clearedContext WeighContext.Ok
  cases r.isSet <;> simp [Config.windowEntries]

theorem length_pushEntry {w : List WindowEntry} (h : w.length ≤ Config.windowEntries) (e : WindowEntry) :
    (pushEntry w e).length ≤ Config.windowEntries := by
  unfold pushEntry
  rw [List.length_append, List.length_singleton]
  split
  · assumption
  · rw [List.length_tail]
    simp only [Config.windowEntries] at *
    omega

/-! ## A sample -/

theorem adjust_state (c : CalFields) (autoClear : Bool) (r : Reading) (x : WeighContext) :
    (adjust c autoClear r x).state = x.state ∧ (adjust c autoClear r x).window = x.window := by
  unfold adjust
  dsimp only
  split
  · split_ifs <;> exact ⟨rfl, rfl⟩
  · split_ifs <;> exact ⟨rfl, rfl⟩
  · exact ⟨rfl, rfl⟩

/-- Tracking's candidate stays within the zero band of the initial zero. -/
theorem clampZero_band (c : CalFields) (initial m : Int) : (clampZero c initial m - initial).natAbs ≤ c.max2 * 20 := by
  unfold clampZero
  dsimp only
  split_ifs <;> omega

theorem adjust_held {c : CalFields} {autoClear : Bool} {r : Reading} {x : WeighContext} (h : x.Held c)
    (hzero : x.state = .weighing → x.zero ≠ none) : (adjust c autoClear r x).Held c := by
  obtain ⟨h1, h2, h3⟩ := h
  unfold adjust
  dsimp only
  split
  · split
    · refine ⟨by simp, h2, ?_⟩
      rintro z ⟨⟩ z0 ⟨⟩
      simp
    · exact ⟨h1, h2, h3⟩
  · next hstate =>
    split
    · exact ⟨h1, by simp, h3⟩
    · split
      · have hinitial : x.initialZero ≠ none := fun e => hzero hstate (h1.mp e)
        refine ⟨by simp [hinitial], h2, ?_⟩
        rintro z ⟨⟩ z0 hz0
        rw [Option.mem_def] at hz0
        rw [hz0]
        exact clampZero_band c z0 r.m
      · exact ⟨h1, h2, h3⟩
  · exact ⟨h1, h2, h3⟩

theorem weighSample_ok {x : WeighContext} {r : CalRecord} (h : x.Ok r) (hset : r.isSet = true) (autoClear : Bool)
    (count : Int) : (weighSample r.fields autoClear count x).Ok r := by
  unfold weighSample
  dsimp only
  generalize hg : readingOf (r.fields.mass count) x.zero x.tare = g
  have hwindow : (pushEntry x.window ⟨count, some g.gross⟩).length ≤ Config.windowEntries := length_pushEntry h.1 _
  generalize hy : ({ x with
      state := stateOf r.fields x.zero g.gross, window := pushEntry x.window ⟨count, some g.gross⟩
      newest := some g } : WeighContext) = y
  have hheld : (adjust r.fields autoClear g y).Held r.fields := by
    refine adjust_held (hy ▸ h.held) fun hstate hzero => ?_
    rw [← hy] at hstate hzero
    exact absurd (hstate.symm.trans ((stateOf_spec r.fields x.zero g.gross).2.mp hzero)) (by simp)
  obtain ⟨hstate, hentries⟩ := adjust_state r.fields autoClear g y
  split
  · next hsame =>
    refine hheld.ok hset (by rw [hentries, ← hy]; exact hwindow) (g := g.gross) ?_
    rw [hstate, hsame.1, ← hy]
  · exact WeighContext.Held.ok hheld hset (by simp [Config.windowEntries]) rfl

theorem enrolledSample_ok {x : WeighContext} {r : CalRecord} (h : x.Ok r) (autoClear : Bool) (count : Int) :
    (enrolledSample r autoClear count x).Ok r := by
  unfold enrolledSample
  split
  · next hset => exact weighSample_ok h hset autoClear count
  · next hset =>
    have hcal : x.state = .noCal := h.2.1.mpr (by simpa using hset)
    exact h.withWindow (length_pushEntry h.1 _) (by rw [hcal])

/-! ## The law of the engine -/

/-- The lock's law of one calibration record: a SET record passes every check, an UNSET one holds zeros. -/
def CalRecord.Ok (r : CalRecord) : Prop := if r.isSet then r.fields.valid = true else r.fields = zeroCal

/-- A sale priced under the station tare had one. -/
theorem priceSale_source {s : State} {n : StationNo} {q : SaleRequest} {b : Bool} {r : Priced}
    (h : s.priceSale n q b = .ok r) (hr : r.source = .station) : (s.context n).tare ≠ none := by
  have hforce (c : CalFields) (tare : Option StationTare) (preset : Nat)
      (ht : (tareInForce c tare preset).2 = .station) : tare ≠ none := by
    unfold tareInForce at ht
    split at ht
    · simp
    · split at ht <;> cases ht
  have hamount (x : PluRecord) (k : Option Nat) (w : PricedWeight) (hw : s.saleAmount n x k = .ok w)
      (hs : w.source = .station) : (s.context n).tare ≠ none := by
    unfold State.saleAmount at hw
    split at hw
    · unfold pricingRead at hw
      split at hw
      · cases hw
      · cases hw
        exact hforce _ _ _ hs
    · cases hw
      cases hs
  unfold State.priceSale at h
  split at h
  · cases h
  · split at h
    · cases h
    · split at h
      · cases h
      · next hw =>
        dsimp only at h
        split at h
        · cases h
        · cases h
          exact hamount _ _ _ hw hr

namespace State.WeighingOk

theorem ite {s t : State} {c : Prop} [Decidable c] (h : s.WeighingOk) (k : t.WeighingOk) :
    (if c then s else t).WeighingOk := by
  split
  · exact h
  · exact k

theorem of_changesOnly {bs : List Part} {s t : State} (h : s.WeighingOk) (hc : ChangesOnly bs s t)
    (hb : Part.weighing ∉ bs ∧ Part.records ∉ bs) : t.WeighingOk := by
  have hweighing : t.weighing = s.weighing := hc .weighing hb.1
  have hrecords : t.lock.records = s.lock.records := hc .records hb.2
  intro n
  rw [State.context, State.calibration, hweighing, hrecords]
  exact h n

variable {s : State} (h : s.WeighingOk)
include h

theorem setContext {n : StationNo} {x : WeighContext} (hx : x.Ok (s.calibration n)) : (s.setContext n x).WeighingOk := by
  intro m
  rw [State.setContext_context, State.setContext_calibration]
  split
  · next e => exact ⟨e ▸ hx, (h m).2⟩
  · exact h m

theorem clearContext (n : StationNo) : (s.clearContext n).WeighingOk := h.setContext (clearedContext_ok _)

theorem emptyWindow (n : StationNo) : (s.emptyWindow n).WeighingOk :=
  h.setContext ((h n).1.withWindow (Nat.zero_le _) rfl)

theorem useTare {n : StationNo} {source : TareSource} (ht : source = .station → (s.context n).tare ≠ none) :
    (s.useTare n source).WeighingOk := by
  unfold State.useTare
  split
  · next hs => exact h.setContext ((h n).1.withTares (h n).1.1 rfl fun _ => ht hs)
  · exact h

theorem sample (n : StationNo) (count : Int) : (s.sample n count).WeighingOk := by
  unfold State.sample
  split
  · exact h
  · refine of_changesOnly (h.setContext ?_) (pushToStation_changesOnly _ n _ _) (by simp)
    exact (h n).1.withWindow (length_pushEntry (h n).1.1 _) rfl
  · exact (h.setContext (enrolledSample_ok (h n).1 _ count)).of_changesOnly (pushToStation_changesOnly _ n _ _) (by simp)

theorem detach (n : StationNo) : (s.detach n).WeighingOk :=
  (((((h.of_changesOnly (loseLabels_changesOnly s n) (by simp)).of_changesOnly (parkHeld_changesOnly _ n)
    (by simp)).of_changesOnly (unbindRelease_changesOnly _ n) (by simp)).clearContext n).of_changesOnly
      (setStation_changesOnly _ n _) (by simp)).of_changesOnly (onPort_changesOnly _ _ _) (by simp)

theorem enrolRequest (n : StationNo) (p : List Byte) : (enrolRequest n p s).1.WeighingOk := by
  unfold Machine.enrolRequest
  split
  · exact h
  · have hgone : (if s.link n = .absent then s else s.detach n).WeighingOk := ite h (h.detach n)
    exact (hgone.of_changesOnly (setStation_changesOnly _ n _) (by simp)).clearContext n

theorem zeroRequest (n : StationNo) (p : List Byte) : (zeroRequest n p s).1.WeighingOk := by
  unfold Machine.zeroRequest
  split
  · exact h
  · next hnone =>
    obtain ⟨hwindow, hcal, hzero, hinitial, htare, -⟩ := (h n).1
    have htests := firstOf_eq_none.mp hnone
    have hset : (s.calibration n).isSet = true := by
      simpa using htests (!(s.calibration n).isSet, .noCal) (by simp [zeroTests])
    have hstate : (s.context n).state ≠ .noZero := by
      simpa using htests ((s.context n).state == .noZero, .noZero) (by simp [zeroTests])
    have hband : (((s.context n).newest.map (·.m)).getD 0 - (s.context n).initialZero.getD 0).natAbs
        ≤ (s.calibration n).fields.max2 * 20 := by
      simpa using htests (decide ((s.calibration n).fields.max2 * 20
        < (((s.context n).newest.map (·.m)).getD 0 - (s.context n).initialZero.getD 0).natAbs), .outOfRange)
        (by simp [zeroTests])
    have hnocal : (s.context n).state ≠ .noCal := fun e => by simp [hcal.mp e] at hset
    have hpresent : (s.context n).initialZero ≠ none := fun e => by
      rcases hzero.mp (hinitial.mp e) with e | e
      · exact hnocal e
      · exact hstate e
    refine h.setContext ⟨Nat.zero_le _, hcal, ?_, ?_, htare, ?_⟩
    · exact iff_of_false (by simp) (by simp [hnocal, hstate])
    · exact iff_of_false hpresent (by simp)
    · rintro z ⟨⟩ z0 hz0
      rw [Option.mem_def] at hz0
      rwa [hz0] at hband

theorem withTare (n : StationNo) (g : Nat) (origin : TareOrigin) :
    (s.setContext n ((s.context n).withTare g origin)).WeighingOk :=
  h.setContext ((h n).1.withTares (Nat.zero_le _) rfl (by simp [WeighContext.withTare]))

theorem saleRequest (labelled : Bool) (n : StationNo) (p : List Byte) : (saleRequest labelled n p s).1.WeighingOk := by
  have haccept (t : State) (ht : t.WeighingOk) (c : ClerkNo) (r : Priced)
      (hr : r.source = .station → (t.context n).tare ≠ none) : (acceptSale n c labelled r t).1.WeighingOk := by
    unfold acceptSale
    split
    · exact ht
    · next o _ =>
      have hordered (f : Order → Order) := ht.of_changesOnly (onOrder_changesOnly t c f) (by simp)
      split
      · refine useTare ((hordered _).of_changesOnly (compose_changesOnly _ n _) (by simp)) ?_
        exact hr
      · refine useTare ((hordered _).of_changesOnly (goodsConfirmed_changesOnly _ c _) (by simp)) fun hs => ?_
        have hcontext : ((t.onOrder c (·.allocate (saleItem t n o r none))).goodsConfirmed c o.queueNumber).weighing
            = t.weighing := goodsConfirmed_changesOnly _ c _ .weighing (by simp)
        rw [State.context, hcontext]
        exact hr hs
  unfold Machine.saleRequest
  split
  · exact h
  · exact h
  · split
    · exact h
    · split
      · exact h
      · next c _ _ _ _ _ r hr =>
        split
        · exact h
        · refine haccept _ (h.of_changesOnly (withOrder_changesOnly s _ n) (by simp)) _ _ fun hs => ?_
          have hcontext : (s.withOrder c n).weighing = s.weighing := withOrder_changesOnly s c n .weighing (by simp)
          rw [State.context, hcontext]
          exact priceSale_source hr hs

theorem openSession (st : StationNo) : (s.openSession st).WeighingOk := by
  unfold State.openSession
  refine emptyWindow (of_changesOnly ?_ (unbindRelease_changesOnly _ st) (by simp)) st
  exact h

theorem endUnchanged (st : StationNo) : (s.endUnchanged st).WeighingOk := by
  have hidle := h.of_changesOnly (idleSession_changesOnly s) (by simp)
  exact ite ((hidle.of_changesOnly (leaveService_changesOnly _ st) (by simp)).emptyWindow st) hidle

theorem commitCal {st : StationNo} {f : CalFields} (hf : f.valid = true) : (s.commitCal st f).WeighingOk := by
  intro n
  have hcalibration : (s.commitCal st f).calibration n = if n = st then ⟨true, f⟩ else s.calibration n :=
    Table.get_put _ _ _ _
  have hcontext : (s.commitCal st f).context n = if n = st then clearedContext true else s.context n :=
    Table.get_put _ _ _ _
  rw [hcalibration, hcontext]
  split
  · exact ⟨clearedContext_ok ⟨true, f⟩, hf⟩
  · exact h n

theorem closeSession {st : StationNo} {f : CalFields} (hf : f.valid = true) (key : Option (List Word32)) :
    (s.closeSession st f key).WeighingOk := by
  refine ite ?_ ((h.of_changesOnly (commitKey_changesOnly s key) (by simp)).endUnchanged st)
  exact (((h.commitCal hf).of_changesOnly (commitKey_changesOnly _ key) (by simp)).of_changesOnly
    (idleSession_changesOnly _) (by simp)).of_changesOnly (leaveService_changesOnly _ st) (by simp)

/-- Every request's act keeps the weighing engine's law. -/
theorem request (i : Instr) (p : List Byte) : (requestAct i p s).1.WeighingOk := by
  cases i with
  | enrol n => exact h.enrolRequest n p
  | zero n => exact h.zeroRequest n p
  | tareKey n =>
    change (tareKeyRequest n p s).1.WeighingOk
    unfold tareKeyRequest
    split
    · exact h
    · exact h.withTare n _ _
  | tareSet n =>
    change (tareSetRequest n p s).1.WeighingOk
    unfold tareSetRequest
    split
    · exact h
    · exact h.withTare n _ _
  | tareClear n =>
    change (tareClearRequest n p s).1.WeighingOk
    unfold tareClearRequest
    split
    · exact h
    · exact ite (h.setContext ((h n).1.withTares (Nat.zero_le _) rfl (by simp))) h
  | label n => exact h.saleRequest true n p
  | addItem n => exact h.saleRequest false n p
  | serviceKey =>
    have hjudged (st : StationNo) (ws : List Word32) : (judgeKey s st ws).1.WeighingOk := by
      unfold judgeKey
      split
      · split
        · exact h.of_changesOnly (idleSession_changesOnly s) (by simp)
        · exact h.openSession st
      · exact h.of_changesOnly (failKey_changesOnly s st) (by simp)
    change (serviceKeyRequest p s).1.WeighingOk
    dsimp only [serviceKeyRequest]
    split
    · exact h
    · exact h
    · exact h
    · split
      · exact h
      · exact hjudged _ _
  | serviceClose =>
    change (serviceCloseRequest p s).1.WeighingOk
    unfold serviceCloseRequest inOpen
    split
    · dsimp only
      split
      · exact h
      · next hvalid =>
        split
        · exact h
        · exact closeSession (s := s.restartInactivity) h (by simpa using hvalid) _
    all_goals exact h
  | serviceAbandon =>
    change (serviceAbandonRequest p s).1.WeighingOk
    unfold serviceAbandonRequest
    split
    · exact h
    · exact h
    · exact h
    · exact h.endUnchanged _
  | _ => exact h.of_changesOnly (requestAct_changesOnly _ p s) (by simp [requestParts])

/-- The power-on handling clears every context under the records kept or formatted. -/
theorem powerOn : s.powerOn.WeighingOk := by
  have hmarker (n : StationNo) : (s.checkMarker.calibration n).Ok := by
    unfold State.checkMarker
    split
    · exact (h n).2
    · have hunset : s.format.calibration n = unsetCal := Table.get_fill _ _
      rw [hunset]
      exact (by decide : unsetCal.fields = zeroCal)
  have hinit : s.checkMarker.initVolatile.WeighingOk := fun n => by
    have hcontext : s.checkMarker.initVolatile.context n = clearedContext (s.checkMarker.calibration n).isSet :=
      Table.get_ofFn _ _
    rw [hcontext]
    exact ⟨clearedContext_ok _, hmarker n⟩
  have hcounted (t : State) (ht : t.WeighingOk) : t.countLost.WeighingOk := ite ht ht
  exact (((hcounted _ hinit).of_changesOnly (dayCheck_changesOnly _) (by simp)).of_changesOnly
    (enterState_changesOnly _ _) (by simp)).of_changesOnly (changesOnly_beat _ _) (by simp)

/-- Every cause keeps the weighing engine's law. -/
theorem cause (c : Cause) : (c.run s).WeighingOk := by
  cases c with
  | sample n count => exact h.sample n count
  | lost n => exact ite h ((h.detach n).of_changesOnly (raise_changesOnly _ _ _) (by simp))
  | inactivityExpired =>
    change s.inactivityExpired.WeighingOk
    unfold State.inactivityExpired
    split
    · exact ite (h.endUnchanged _) h
    all_goals exact h
  | request i payload => exact h.request i payload
  | resetRelease =>
    change s.resetReleased.WeighingOk
    unfold State.resetReleased
    split
    · exact powerOn (s := { s with resetLow := false }) h
    · exact h
  | _ => exact h.of_changesOnly (Cause.run_changesOnly _ s) (by simp [Cause.parts])

end State.WeighingOk

end Sys2Proof.Machine

open Sys2Proof Sys2Proof.Machine

/-- Settles O54: every adjustment leaves the zero within its band of the initial zero, and every other change of a
context clears it, changes its window, or sets a tare. -/
theorem weighingIsKept : Obligations.WeighingIsKept := by
  intro s t h hstep
  exact step_keeps_of_causes (P := State.WeighingOk) (fun _ _ hc h => h.of_changesOnly hc (by simp))
    (fun c _ h => h.cause c) hstep h
end

section
/-! The PLU table (02): what a placement and a change leave to be looked up, that both keep the table's law, and what
the records come to by their numbers; O15 from it. -/

namespace Sys2Proof.Machine.PluTable

/-! ## A record written into its slot -/

/-- A record with valid fields has a number the directory reaches. -/
theorem dirIndex_le_of_valid {f : PluFields} (h : f.valid = true) : dirIndex f.number ≤ 3124 := by
  simp only [PluFields.valid, Bool.and_eq_true, decide_eq_true_eq] at h
  have hlast : f.number ≤ 99999 := by tauto
  unfold dirIndex
  omega

/-- The leaf found at each index decides each lookup. -/
theorem find_of_leafOf {t u : PluTable} {p : Nat} {x : Option PluRecord} {leaf : Leaf}
    (hu : ∀ i, u.leafOf i = if i = dirIndex p then some leaf else t.leafOf i) (hx : leaf.get (slotOf p) = x)
    (hother : ∀ k, k ≠ slotOf p → leaf.get k = (t.leafOf (dirIndex p)).bind fun old => old.get k) (q : Nat) :
    u.find q = if q = p then x else t.find q := by
  rw [find_eq_leafOf_bind, find_eq_leafOf_bind, hu]
  by_cases hi : dirIndex q = dirIndex p
  · rw [if_pos hi, Option.bind_some, hi]
    split
    · next hq => rw [hq, hx]
    · next hq => exact hother _ fun hk => hq (place_inj hi hk)
  · rw [if_neg hi, if_neg fun hq => hi (congrArg dirIndex hq)]

theorem Ok.leafOf_writeSlot {t : PluTable} (h : t.Ok) {p : Nat} {l : LeafNo} (hl : t.leafAt (dirIndex p) = some l)
    (leaf : Leaf) (r : PluRecord) (i : Nat) :
    (t.writeSlot l leaf p r).leafOf i = if i = dirIndex p then some (leaf.put (slotOf p) (some r)) else t.leafOf i := by
  rw [leafOf, writeSlot_leafAt, writeSlot_pool]
  split
  · next hi => rw [hi, hl, Option.bind_some, Table.get_put_same]
  · next hi =>
    cases hk : t.leafAt i with
    | none => simp [leafOf, hk]
    | some k => simp [leafOf, hk, h.pool_put_of_leafAt_ne hl hk hi]

/-- A valid record written into its slot of the leaf its index names keeps the table's law. -/
theorem Ok.writeSlot {t : PluTable} (h : t.Ok) {l : LeafNo} {leaf : Leaf} {r : PluRecord}
    (hl : t.leafAt (dirIndex r.fields.number) = some l) (hpool : t.pool.get l = some leaf)
    (hr : r.fields.valid = true) : (t.writeSlot l leaf r.fields.number r).Ok := by
  have hentry {e : Nat × LeafNo} (he : e ∈ t.directory) (hel : e.2 = l) : e.1 = dirIndex r.fields.number :=
    congrArg Prod.fst (h.entry_inj he (h.leafAt_eq_some.mp hl) hel)
  obtain ⟨hsorted, hnodup, hentries, hnamed⟩ := h
  refine ⟨hsorted, hnodup, fun e he => ?entry, fun k hk => hnamed k ?allocated⟩
  case entry =>
    unfold PluTable.EntryOk
    rw [writeSlot_pool]
    by_cases hel : e.2 = l
    · obtain ⟨hindex, leaf', hpool', -, hrecords⟩ := hentries e he
      obtain rfl : leaf = leaf' := Option.some_injective _ (hpool.symm.trans (hel ▸ hpool'))
      refine ⟨hindex, _, by rw [hel, Table.get_put_same]; rfl, ⟨slotOf r.fields.number, by simp⟩, fun k x hx => ?_⟩
      rw [Option.mem_def, Table.get_put] at hx
      split at hx
      · next hk =>
        cases hx
        refine ⟨?_, hr⟩
        rw [hentry he hel, hk]
        exact (Nat.div_add_mod' _ 32).symm
      · exact hrecords k x hx
    · rw [Table.get_put_ne _ _ hel]
      exact hentries e he
  case allocated =>
    rw [writeSlot_pool] at hk
    by_cases hkl : k = l
    · rw [hkl, hpool]
      rfl
    · rwa [Table.get_put_ne _ _ hkl] at hk

/-! ## A leaf taken for an index that has none -/

/-- The table with a free leaf named for an index and allocated. -/
def withLeaf (t : PluTable) (i : Nat) (l : LeafNo) (leaf : Leaf) : PluTable :=
  { directory := addEntry i l t.directory, pool := t.pool.put l (some leaf) }

theorem Ok.leafAt_withLeaf {t : PluTable} (h : t.Ok) {i : Nat} (hi : t.leafAt i = none) (l : LeafNo) (leaf : Leaf)
    (j : Nat) : (t.withLeaf i l leaf).leafAt j = if j = i then some l else t.leafAt j := by
  obtain ⟨hsorted, -⟩ := h
  have hnew : ((t.withLeaf i l leaf).directory.map (·.1)).Pairwise (· < ·) :=
    addEntry_sorted hsorted (leafAt_eq_none.mp hi)
  refine Option.ext fun k => ?_
  rw [PluTable.leafAt_eq_some hnew]
  change _ ∈ addEntry i l t.directory ↔ _
  rw [mem_addEntry, Prod.mk.injEq]
  split
  · next hj =>
    subst hj
    have hnone : (j, k) ∉ t.directory := fun hm => leafAt_eq_none.mp hi _ hm rfl
    simp [hnone, eq_comm]
  · next hj => rw [PluTable.leafAt_eq_some hsorted]; simp [hj]

/-- A free leaf is named by no entry. -/
theorem Ok.not_named_of_free {t : PluTable} (h : t.Ok) {l : LeafNo} (hl : t.pool.get l = none) :
    l ∉ t.directory.map (·.2) := by
  obtain ⟨-, -, hentries, -⟩ := h
  intro hm
  obtain ⟨e, he, rfl⟩ := List.mem_map.mp hm
  obtain ⟨-, leaf, hpool, -⟩ := hentries e he
  rw [Option.mem_def, hl] at hpool
  cases hpool

theorem Ok.leafOf_withLeaf {t : PluTable} (h : t.Ok) {i : Nat} {l : LeafNo} (hi : t.leafAt i = none)
    (hl : t.pool.get l = none) (leaf : Leaf) (j : Nat) :
    (t.withLeaf i l leaf).leafOf j = if j = i then some leaf else t.leafOf j := by
  rw [leafOf, h.leafAt_withLeaf hi]
  split
  · exact Table.get_put_same _ _ _
  · cases hk : t.leafAt j with
    | none => simp [leafOf, hk]
    | some k =>
      have hkl : k ≠ l := by
        rintro rfl
        exact h.not_named_of_free hl (List.mem_map_of_mem (h.leafAt_eq_some.mp hk))
      simp only [Option.bind_some, leafOf, hk]
      exact Table.get_put_ne _ _ hkl

/-- A valid record alone in a free leaf, named for its index, keeps the table's law. -/
theorem Ok.withLeaf {t : PluTable} (h : t.Ok) {l : LeafNo} {r : PluRecord}
    (hi : t.leafAt (dirIndex r.fields.number) = none) (hl : t.pool.get l = none) (hr : r.fields.valid = true) :
    (t.withLeaf (dirIndex r.fields.number) l
      ((Table.fill 32 none : Leaf).put (slotOf r.fields.number) (some r))).Ok := by
  have hfree := h.not_named_of_free hl
  obtain ⟨hsorted, hnodup, hentries, hnamed⟩ := h
  refine ⟨addEntry_sorted hsorted (leafAt_eq_none.mp hi), ?nodup, fun e he => ?entry, fun k hk => ?allocated⟩
  case nodup =>
    have hperm (d : List (Nat × LeafNo)) (i : Nat) : (addEntry i l d).Perm ((i, l) :: d) := by
      induction d with
      | nil => exact .refl _
      | cons e d ih =>
        unfold addEntry
        split
        · exact .refl _
        · exact (ih.cons e).trans (.swap _ _ _)
    exact ((hperm _ _).map (·.2)).nodup_iff.mpr (List.nodup_cons.mpr ⟨hfree, hnodup⟩)
  case entry =>
    unfold PluTable.EntryOk
    rcases mem_addEntry.mp he with rfl | he
    · refine ⟨dirIndex_le_of_valid hr, _, Table.get_put_same _ _ _, ⟨slotOf r.fields.number, by simp⟩, fun k x hx => ?_⟩
      rw [Option.mem_def, Table.get_put] at hx
      split at hx
      · next hk =>
        cases hx
        rw [hk]
        exact ⟨(Nat.div_add_mod' _ 32).symm, hr⟩
      · simp at hx
    · have hel : e.2 ≠ l := fun e' => hfree (e' ▸ List.mem_map_of_mem he)
      have hpool : (t.pool.put l (some ((Table.fill 32 none : Leaf).put (slotOf r.fields.number) (some r)))).get e.2
          = t.pool.get e.2 := Table.get_put_ne _ _ hel
      change _ ∧ ∃ leaf ∈ (t.pool.put l _).get e.2, _
      rw [hpool]
      exact hentries e he
  case allocated =>
    refine List.mem_map.mpr ?_
    by_cases hkl : k = l
    · exact ⟨_, mem_addEntry.mpr (.inl rfl), hkl.symm⟩
    · have hpool : (t.pool.put l (some ((Table.fill 32 none : Leaf).put (slotOf r.fields.number) (some r)))).get k
          = t.pool.get k := Table.get_put_ne _ _ hkl
      change ((t.pool.put l _).get k).isSome = true at hk
      rw [hpool] at hk
      obtain ⟨e, he, rfl⟩ := List.mem_map.mp (hnamed k hk)
      exact ⟨e, mem_addEntry.mpr (.inr he), rfl⟩

/-! ## Placing (R26) -/

theorem place_of_leafAt {t : PluTable} {r : PluRecord} {l : LeafNo} {leaf : Leaf}
    (hl : t.leafAt (dirIndex r.fields.number) = some l) (hpool : t.pool.get l = some leaf) :
    t.place r = some (t.writeSlot l leaf r.fields.number r) := by
  simp only [place, hl, hpool, Option.getD_some]

theorem place_of_free {t : PluTable} {r : PluRecord} {l : LeafNo} (hi : t.leafAt (dirIndex r.fields.number) = none)
    (hl : t.freeLeaf = some l) :
    t.place r = some (t.withLeaf (dirIndex r.fields.number) l
      ((Table.fill 32 none : Leaf).put (slotOf r.fields.number) (some r))) := by
  simp only [place, hi, hl]
  rfl

theorem place_eq_none {t : PluTable} {r : PluRecord} :
    t.place r = none ↔ t.leafAt (dirIndex r.fields.number) = none ∧ t.freeLeaf = none := by
  unfold place
  dsimp only
  split
  · next hl => simp [hl]
  · next hl => split <;> simp_all

/-- All that a placement does of the table's law and its lookups. -/
theorem Ok.place_spec {t u : PluTable} (h : t.Ok) {r : PluRecord} (hr : r.fields.valid = true)
    (hu : t.place r = some u) : u.Ok ∧ ∀ q, u.find q = if q = r.fields.number then some r else t.find q := by
  cases hl : t.leafAt (dirIndex r.fields.number) with
  | some l =>
    obtain ⟨leaf, hpool⟩ := h.pool_of_leafAt hl
    rw [place_of_leafAt hl hpool] at hu
    cases hu
    refine ⟨h.writeSlot hl hpool hr, find_of_leafOf (h.leafOf_writeSlot hl leaf r) (Table.get_put_same _ _ _) ?_⟩
    intro k hk
    rw [Table.get_put_ne _ _ hk, leafOf, hl, Option.bind_some, hpool, Option.bind_some]
  | none =>
    cases hfree : t.freeLeaf with
    | none => rw [place_eq_none.mpr ⟨hl, hfree⟩] at hu; cases hu
    | some l =>
      rw [place_of_free hl hfree] at hu
      cases hu
      have hempty := freeLeaf_eq_some hfree
      refine ⟨h.withLeaf hl hempty hr, find_of_leafOf (h.leafOf_withLeaf hl hempty _) (Table.get_put_same _ _ _) ?_⟩
      intro k hk
      rw [Table.get_put_ne _ _ hk, Table.get_fill, leafOf, hl]
      rfl

theorem Ok.place {t u : PluTable} (h : t.Ok) {r : PluRecord} (hr : r.fields.valid = true) (hu : t.place r = some u) :
    u.Ok := (h.place_spec hr hu).1

theorem Ok.find_place {t u : PluTable} (h : t.Ok) {r : PluRecord} (hr : r.fields.valid = true)
    (hu : t.place r = some u) (q : Nat) : u.find q = if q = r.fields.number then some r else t.find q :=
  (h.place_spec hr hu).2 q

/-! ## Changing -/

theorem update_of_find_none {t : PluTable} {p : Nat} (h : t.find p = none) (f : PluRecord → PluRecord) :
    t.update p f = t := by
  unfold find at h
  unfold update
  split
  · rfl
  · next hl =>
    split
    · rfl
    · next hpool =>
      rw [hl] at h
      simp only [hpool] at h
      rw [h]

theorem update_of_find {t : PluTable} {p : Nat} {l : LeafNo} {leaf : Leaf} {r : PluRecord}
    (hl : t.leafAt (dirIndex p) = some l) (hpool : t.pool.get l = some leaf) (hr : leaf.get (slotOf p) = some r)
    (f : PluRecord → PluRecord) : t.update p f = t.writeSlot l leaf p (f r) := by
  simp only [update, hl, hpool, hr]

theorem Ok.find_update {t : PluTable} (h : t.Ok) (p : Nat) (f : PluRecord → PluRecord) (q : Nat) :
    (t.update p f).find q = if q = p then (t.find p).map f else t.find q := by
  cases hp : t.find p with
  | none =>
    rw [update_of_find_none hp]
    split
    · next hq => rw [hq, hp]; rfl
    · rfl
  | some r =>
    obtain ⟨l, leaf, hl, hpool, hslot⟩ := PluTable.find_eq_some.mp hp
    rw [update_of_find hl hpool hslot]
    refine find_of_leafOf (h.leafOf_writeSlot hl leaf (f r)) (Table.get_put_same _ _ _) (fun k hk => ?_) q
    rw [Table.get_put_ne _ _ hk, leafOf, hl, Option.bind_some, hpool, Option.bind_some]

/-- The records found in the table have valid fields. -/
theorem Ok.valid_of_find {t : PluTable} (h : t.Ok) {p : Nat} {r : PluRecord} (hp : t.find p = some r) :
    r.fields.number = p ∧ r.fields.valid = true := by
  refine ⟨(h.find_eq_some.mp hp).2, ?_⟩
  obtain ⟨l, leaf, hl, hpool, hslot⟩ := PluTable.find_eq_some.mp hp
  have hmem := h.leafAt_eq_some.mp hl
  obtain ⟨-, -, hentries, -⟩ := h
  obtain ⟨-, leaf', hpool', -, hrecords⟩ := hentries _ hmem
  obtain rfl : leaf = leaf' := Option.some_injective _ (hpool.symm.trans hpool')
  exact (hrecords _ r hslot).2

/-- A change of a record that leaves its number and its fields valid keeps the table's law. -/
theorem Ok.update {t : PluTable} (h : t.Ok) {p : Nat} {f : PluRecord → PluRecord}
    (hf : ∀ r, t.find p = some r → (f r).fields.number = p ∧ (f r).fields.valid = true) : (t.update p f).Ok := by
  cases hp : t.find p with
  | none => rwa [update_of_find_none hp]
  | some r =>
    obtain ⟨hnumber, hvalid⟩ := hf r hp
    obtain ⟨l, leaf, hl, hpool, hslot⟩ := PluTable.find_eq_some.mp hp
    rw [update_of_find hl hpool hslot]
    have hwritten := h.writeSlot (r := f r) (hnumber.symm ▸ hl) hpool hvalid
    rwa [hnumber] at hwritten

/-! ## Every record -/

/-- A property of every record that a leaf of the pool holds. -/
def All (p : PluRecord → Prop) (t : PluTable) : Prop :=
  ∀ l : LeafNo, ∀ leaf ∈ t.pool.get l, ∀ k : Fin 32, ∀ r ∈ leaf.get k, p r

namespace All

variable {p : PluRecord → Prop} {t : PluTable} (h : t.All p)
include h

theorem mono {q : PluRecord → Prop} (hpq : ∀ r, p r → q r) : t.All q :=
  fun l leaf hleaf k r hr => hpq r (h l leaf hleaf k r hr)

theorem of_pool_put {l : LeafNo} {leaf : Leaf} {d : List (Nat × LeafNo)} (hleaf : ∀ k, ∀ r ∈ leaf.get k, p r) :
    (⟨d, t.pool.put l (some leaf)⟩ : PluTable).All p := by
  intro m leaf' hm k r hr
  rw [Option.mem_def, Table.get_put] at hm
  split at hm
  · cases hm
    exact hleaf k r hr
  · exact h m leaf' hm k r hr

/-- A leaf of the table with one slot written. -/
theorem slot {l : LeafNo} {leaf : Leaf} (hpool : t.pool.get l = some leaf) {j : Fin 32} {x : Option PluRecord}
    (hx : ∀ r ∈ x, p r) : ∀ k, ∀ r ∈ (leaf.put j x).get k, p r := by
  intro k r hr
  rw [Option.mem_def, Table.get_put] at hr
  split at hr
  · exact hx r hr
  · exact h l leaf hpool k r hr

theorem place {u : PluTable} {x : PluRecord} (hx : p x) (hu : t.place x = some u) : u.All p := by
  have hempty (j : Fin 32) : ∀ k, ∀ r ∈ ((Table.fill 32 none : Leaf).put j (some x)).get k, p r := by
    intro k r hr
    rw [Option.mem_def, Table.get_put] at hr
    split at hr
    · cases hr; exact hx
    · simp at hr
  unfold PluTable.place at hu
  dsimp only at hu
  split at hu
  · next l _ =>
    cases hu
    cases hpool : t.pool.get l with
    | none => exact h.of_pool_put (hempty _)
    | some leaf => exact h.of_pool_put (h.slot hpool (by rintro _ ⟨⟩; exact hx))
  · split at hu
    · cases hu
    · cases hu
      exact h.of_pool_put (hempty _)

theorem update {n : Nat} {f : PluRecord → PluRecord} (hf : ∀ r, p r → p (f r)) : (t.update n f).All p := by
  unfold PluTable.update
  split
  · exact h
  · next l _ =>
    split
    · exact h
    · next leaf hpool =>
      split
      · exact h
      · next r hr => exact h.of_pool_put (h.slot hpool (by rintro _ ⟨⟩; exact hf r (h l leaf hpool _ r hr)))

theorem remove (n : Nat) : (t.remove n).All p := by
  unfold PluTable.remove
  split
  · exact h
  · next l _ =>
    split
    · exact h
    · next leaf hpool =>
      dsimp only
      split
      · intro m leaf' hm
        rw [Option.mem_def, Table.get_put] at hm
        split at hm
        · cases hm
        · exact h m leaf' hm
      · exact h.of_pool_put (h.slot hpool (by simp))

theorem foldl_remove (rs : List PluRecord) : (rs.foldl (fun t r => t.remove r.fields.number) t).All p := by
  induction rs generalizing t with
  | nil => exact h
  | cons r rs ih => exact ih (h.remove _)

omit h in
theorem of_mapRecords {f : PluRecord → PluRecord} (hf : ∀ l, ∀ leaf ∈ t.pool.get l, ∀ k, ∀ r ∈ leaf.get k, p (f r)) :
    (t.mapRecords f).All p := by
  intro l leaf hleaf k r hr
  rw [Option.mem_def, mapRecords_pool] at hleaf
  obtain ⟨old, hold, rfl⟩ := Option.map_eq_some_iff.mp hleaf
  rw [Option.mem_def, Table.get_each] at hr
  obtain ⟨r, hslot, rfl⟩ := Option.map_eq_some_iff.mp hr
  exact hf l old hold k r hslot

end All

end Sys2Proof.Machine.PluTable

open Sys2Proof Sys2Proof.Machine

/-- Settles O15: each change writes or empties one slot of one leaf, which decides the lookups of its own number
alone. -/
theorem pluTableReadsBack : Obligations.PluTableReadsBack := by
  intro t h
  refine ⟨fun r hr => ⟨fun u hu p _ => h.find_place hr hu p, ?_⟩, fun p q f _ _ => h.find_update p f q,
    fun p q _ _ => h.find_remove p q, fun p r _ => h.find_eq_some⟩
  rw [PluTable.place_eq_none, PluTable.freeLeaf_eq_none]
  rfl
end

section
/-! The items of the open orders: every operation but an accepted sale leaves no item that was not there, up to its
state. -/

namespace Sys2Proof.Machine

/-- Every item of the one state's open orders is an item of the other's, up to its state. -/
def ItemsFrom (s t : State) : Prop :=
  ∀ c, ∀ o ∈ t.order c, ∀ i ∈ o.items, ∃ d, ∃ u ∈ s.order d, ∃ j ∈ u.items, i = { j with state := i.state }

/-- A change of an order that brings in no item, but for its state. -/
def Order.NoNewItem (f : Order → Order) : Prop := ∀ o, ∀ i ∈ (f o).items, ∃ j ∈ o.items, i = { j with state := i.state }

theorem Order.NoNewItem.of_items {f : Order → Order} (h : ∀ o, (f o).items = o.items) : NoNewItem f :=
  fun o i hi => ⟨i, h o ▸ hi, rfl⟩

theorem Order.noNewItem_setItem (k : Nat) (st : ItemState) : NoNewItem (·.setItem k st) := by
  intro o i hi
  obtain ⟨j, hj, rfl⟩ := List.mem_map.mp hi
  refine ⟨j, hj, ?_⟩
  split <;> rfl

theorem Order.noNewItem_removeItem (k : Nat) : NoNewItem (·.removeItem k) :=
  fun _ i hi => ⟨i, (List.mem_filter.mp hi).1, rfl⟩

theorem Order.noNewItem_setState (st : OrderState) : NoNewItem (·.setState st) := .of_items fun _ => rfl

namespace ItemsFrom

theorem refl (s : State) : ItemsFrom s s := fun c o ho i hi => ⟨c, o, ho, i, hi, rfl⟩

theorem trans {s t u : State} (h : ItemsFrom s t) (k : ItemsFrom t u) : ItemsFrom s u := by
  intro c o ho i hi
  obtain ⟨c, o, ho, j, hj, hij⟩ := k c o ho i hi
  obtain ⟨c, o, ho, m, hm, hjm⟩ := h c o ho j hj
  exact ⟨c, o, ho, m, hm, by rw [hij, hjm]⟩

theorem of_changesOnly {bs : List Part} {s t : State} (hc : ChangesOnly bs s t) (hb : Part.orders ∉ bs) :
    ItemsFrom s t := by
  have horders : t.orders.orders = s.orders.orders := congrArg Prod.fst (hc .orders hb)
  intro c o ho i hi
  rw [State.order, horders] at ho
  exact ⟨c, o, ho, i, hi, rfl⟩

/-- A further operation that leaves the orders alone. -/
theorem andThen {bs : List Part} {s t u : State} (h : ItemsFrom s t) (hc : ChangesOnly bs t u)
    (hb : Part.orders ∉ bs) : ItemsFrom s u := h.trans (of_changesOnly hc hb)

theorem ite {s t u : State} {c : Prop} [Decidable c] (h : ItemsFrom s t) (k : ItemsFrom s u) :
    ItemsFrom s (if c then t else u) := by
  split
  · exact h
  · exact k

theorem endOrder (s : State) (c : ClerkNo) : ItemsFrom s (s.setOrder c none) := by
  intro d o ho i hi
  rw [State.setOrder_order] at ho
  split at ho
  · cases ho
  · exact ⟨d, o, ho, i, hi, rfl⟩

theorem onOrder (s : State) (c : ClerkNo) {f : Order → Order} (hf : Order.NoNewItem f) : ItemsFrom s (s.onOrder c f) := by
  intro d o ho i hi
  rw [State.onOrder, State.setOrder_order, Option.mem_def] at ho
  split at ho
  · obtain ⟨u, hu, rfl⟩ := Option.map_eq_some_iff.mp ho
    obtain ⟨j, hj, hij⟩ := hf u i hi
    exact ⟨c, u, hu, j, hj, hij⟩
  · exact ⟨d, o, ho, i, hi, rfl⟩

/-- No order is open any more. -/
theorem of_no_order {s t : State} (h : ∀ c, t.order c = none) : ItemsFrom s t := by
  intro c o ho
  rw [h c] at ho
  cases ho

section
variable (s : State)

theorem park (c : ClerkNo) : ItemsFrom s (s.park c) := onOrder s c (.of_items fun _ => rfl)

theorem parkIfHeld (c : ClerkNo) (n : StationNo) : ItemsFrom s (s.parkIfHeld c n) := by
  unfold State.parkIfHeld
  split
  · exact ite (park s c) (refl s)
  · exact refl s

theorem parkHeld (n : StationNo) : ItemsFrom s (s.parkHeld n) := by
  unfold State.parkHeld
  split
  · exact refl s
  · exact park s _

theorem signOff (c : ClerkNo) (n : StationNo) : ItemsFrom s (s.signOff c n) :=
  (parkIfHeld s c n).andThen (unbindRelease_changesOnly _ n) (by simp)

theorem signOn (c : ClerkNo) (n : StationNo) : ItemsFrom s (s.signOn c n) := by
  unfold State.signOn
  refine ite (refl s) ?_
  dsimp only
  split
  · exact (((parkIfHeld s c _).andThen (bind_changesOnly _ c none) (by simp)).andThen (unbindKeep_changesOnly _ n)
      (by simp)).andThen (bind_changesOnly _ c (some n)) (by simp)
  · exact (of_changesOnly (unbindKeep_changesOnly s n) (by simp)).andThen (bind_changesOnly _ c (some n)) (by simp)

theorem writeClerk (c : ClerkNo) (code : Nat) (enabled : Bool) : ItemsFrom s (s.writeClerk c code enabled) := by
  have hset : ItemsFrom s (s.setClerk c { s.clerk c with code := code, enabled := enabled }) :=
    of_changesOnly (changesOnly_clerks s _) (by simp)
  unfold State.writeClerk
  split
  · exact ite hset (((hset.trans (parkIfHeld _ c _)).andThen (bind_changesOnly _ c none) (by simp)).andThen
      (releaseServing_changesOnly _ c) (by simp))
  · exact hset

theorem claim (c : ClerkNo) (n : StationNo) : ItemsFrom s (s.claim c n) := by
  have hbound : ItemsFrom s (if (s.clerk c).bound = some n then s
      else ((s.bind c none).unbindKeep n).bind c (some n)) :=
    ite (refl s) (((of_changesOnly (bind_changesOnly s c none) (by simp)).andThen (unbindKeep_changesOnly _ n)
      (by simp)).andThen (bind_changesOnly _ c (some n)) (by simp))
  exact hbound.trans (onOrder _ c (.of_items fun _ => rfl))

theorem handFailure (r : LabelRecord) : ItemsFrom s (s.handFailure r) := by
  unfold State.handFailure
  split
  · exact onOrder s _ (Order.noNewItem_removeItem _)
  · exact onOrder s _ (Order.noNewItem_setState _)
  · exact refl s

theorem failLabel (n : StationNo) (r : LabelRecord) (cause : FailCause) : ItemsFrom s (s.failLabel n r cause) :=
  ((of_changesOnly (freeSlot_changesOnly s n) (by simp)).andThen (raise_changesOnly _ _ _) (by simp)).trans
    (handFailure _ r)

theorem closePrinted (c : ClerkNo) (n : StationNo) : ItemsFrom s (s.closePrinted c n) := by
  unfold State.closePrinted
  split
  · exact refl s
  · exact ((of_changesOnly (accumulate_changesOnly s c n _) (by simp)).trans (endOrder _ c)).andThen
      (reportClosing_changesOnly _) (by simp)

theorem printDone (n : StationNo) (k : Nat) : ItemsFrom s (s.printDone n k) := by
  unfold State.printDone
  split
  · next r _ =>
    have hfree : ItemsFrom s (s.freeSlot n) := of_changesOnly (freeSlot_changesOnly s n) (by simp)
    have hkept := (hfree.andThen (setPrinter_changesOnly _ n { (s.freeSlot n).printer n with last := some r })
      (by simp)).andThen (countLabel_changesOnly _ n) (by simp)
    unfold State.finishLabel
    dsimp only
    split
    · exact (hkept.trans (onOrder _ _ (Order.noNewItem_setItem _ _))).andThen (goodsConfirmed_changesOnly _ _ _)
        (by simp)
    · exact hkept.trans (closePrinted _ _ n)
    · exact hfree.andThen (countReprint_changesOnly _ n) (by simp)
  · exact refl s

theorem printFail (n : StationNo) (k : Nat) : ItemsFrom s (s.printFail n k) := by
  unfold State.printFail
  split
  · exact failLabel s n _ _
  · exact refl s

theorem deadlineExpired (n : StationNo) : ItemsFrom s (s.deadlineExpired n) := by
  unfold State.deadlineExpired
  split
  · exact ite (failLabel s n _ _) (refl s)
  · exact refl s

theorem loseLabels (n : StationNo) : ItemsFrom s (s.loseLabels n) := by
  unfold State.loseLabels
  refine andThen ?_ (setPrinter_changesOnly _ n _) (by simp)
  split
  · exact failLabel s n _ _
  · exact of_changesOnly (freeSlot_changesOnly s n) (by simp)

theorem detach (n : StationNo) : ItemsFrom s (s.detach n) :=
  (((((loseLabels s n).trans (parkHeld _ n)).andThen (unbindRelease_changesOnly _ n) (by simp)).andThen
    (clearContext_changesOnly _ n) (by simp)).andThen (setStation_changesOnly _ n _) (by simp)).andThen
      (onPort_changesOnly _ _ _) (by simp)

theorem closeOrderRequest (n : StationNo) (p : List Byte) : ItemsFrom s (closeOrderRequest n p s).1 := by
  unfold Machine.closeOrderRequest
  split
  · exact refl s
  · exact refl s
  · split
    · exact refl s
    · split
      · exact refl s
      · next c _ _ _ _ _ _ =>
        split
        · exact ((of_changesOnly (onTotals_changesOnly s _) (by simp)).trans (endOrder _ _)).andThen
            (reportClosing_changesOnly _) (by simp)
        · exact (of_changesOnly (compose_changesOnly s n _) (by simp)).trans
            (onOrder _ _ (Order.noNewItem_setState _))

theorem powerOn_order (c : ClerkNo) : s.powerOn.order c = none := by
  have hinit (t : State) : t.initVolatile.order c = none := Table.get_fill _ _
  have hsame {bs : List Part} {t u : State} (hc : ChangesOnly bs t u) (hb : Part.orders ∉ bs)
      (ht : t.order c = none) : u.order c = none := by
    have horders : u.orders.orders = t.orders.orders := congrArg Prod.fst (hc .orders hb)
    rw [State.order, horders]
    exact ht
  have hcounted (t : State) (ht : t.order c = none) : t.countLost.order c = none := by
    unfold State.countLost
    dsimp only
    split
    · exact ht
    · exact ht
  exact hsame (changesOnly_beat _ _) (by simp) (hsame (enterState_changesOnly _ _) (by simp)
    (hsame (dayCheck_changesOnly _) (by simp) (hcounted _ (hinit s.checkMarker))))

/-- Of the requests only an accepted sale brings in an item. -/
theorem request (i : Instr) (p : List Byte) (hi : ∀ n, i ≠ .label n ∧ i ≠ .addItem n) :
    ItemsFrom s (requestAct i p s).1 := by
  cases i with
  | enrol n =>
    change ItemsFrom s (enrolRequest n p s).1
    unfold enrolRequest
    split
    · exact refl s
    · exact ((ite (refl s) (detach s n)).andThen (setStation_changesOnly _ n _) (by simp)).andThen
        (clearContext_changesOnly _ n) (by simp)
  | clerkOn n =>
    change ItemsFrom s (clerkOnRequest n p s).1
    unfold clerkOnRequest
    split
    · exact refl s
    · exact refl s
    · split
      · exact refl s
      · exact refl s
      · exact signOn s _ n
  | clerkOff n =>
    change ItemsFrom s (clerkOffRequest n p s).1
    unfold clerkOffRequest
    split
    · exact refl s
    · exact refl s
    · split
      · exact refl s
      · exact signOff s _ n
  | label n => exact absurd rfl (hi n).1
  | addItem n => exact absurd rfl (hi n).2
  | voidItem n =>
    change ItemsFrom s (voidItemRequest n p s).1
    unfold voidItemRequest
    dsimp only
    split
    · exact refl s
    · exact refl s
    · split
      · exact refl s
      · split
        · exact refl s
        · exact onOrder s _ (Order.noNewItem_setItem _ _)
  | parkOrder n =>
    change ItemsFrom s (parkOrderRequest n p s).1
    unfold parkOrderRequest
    split
    · exact refl s
    · exact refl s
    · split
      · exact refl s
      · split
        · exact refl s
        · exact park s _
  | claimOrder n =>
    change ItemsFrom s (claimOrderRequest n p s).1
    unfold claimOrderRequest
    split
    · exact refl s
    · exact refl s
    · split
      · exact refl s
      · split
        · exact refl s
        · exact refl s
        · exact claim s _ n
  | closeOrder n => exact closeOrderRequest s n p
  | clerkWrite =>
    change ItemsFrom s (clerkWriteRequest p s).1
    unfold clerkWriteRequest
    split
    · exact refl s
    · split
      · exact refl s
      · exact writeClerk s _ _ _
  | _ => exact of_changesOnly (requestAct_changesOnly _ p s) (by simp [requestParts])

/-- Of the causes only an accepted sale brings in an item. -/
theorem cause (c : Cause) (hc : ∀ n p, c ≠ .request (.label n) p ∧ c ≠ .request (.addItem n) p) :
    ItemsFrom s (c.run s) := by
  cases c with
  | printDone n k => exact printDone s n k
  | printFail n k => exact printFail s n k
  | lost n => exact ite (refl s) ((detach s n).andThen (raise_changesOnly _ _ _) (by simp))
  | deadlineExpired n => exact deadlineExpired s n
  | request i p => exact request s i p fun n => ⟨fun e => (hc n p).1 (e ▸ rfl), fun e => (hc n p).2 (e ▸ rfl)⟩
  | resetRelease =>
    change ItemsFrom s s.resetReleased
    unfold State.resetReleased
    split
    · exact of_no_order (powerOn_order _)
    · exact refl s
  | _ => exact of_changesOnly (Cause.run_changesOnly _ s) (by simp [Cause.parts])

end

end ItemsFrom

/-! ## A property of every item -/

/-- A property of every item of every open order. -/
def State.AllItems (p : Item → Prop) (s : State) : Prop := ∀ c, ∀ o ∈ s.order c, ∀ i ∈ o.items, p i

/-- A property that does not speak of an item's state is kept by every change that brings in no item. -/
theorem State.AllItems.of_itemsFrom {p : Item → Prop} (hp : ∀ (i : Item) st, p i → p { i with state := st })
    {s t : State} (h : s.AllItems p) (hf : ItemsFrom s t) : t.AllItems p := by
  intro c o ho i hi
  obtain ⟨d, u, hu, j, hj, hij⟩ := hf c o ho i hi
  rw [hij]
  exact hp j _ (h d u hu j hj)

theorem openOrder_order (s : State) (c d : ClerkNo) (n : StationNo) :
    (s.openOrder c n).order d
      = if d = c then some (newOrder s.nextOrderNumber n s.clock ((s.serving c).map (·.number))) else s.order d :=
  State.setOrder_order _ c _ d

/-- The order a sale joins: the clerk's own, or a new one. -/
theorem withOrder_order (s : State) (c d : ClerkNo) (n : StationNo) :
    (s.withOrder c n).order d
      = if d = c then some ((s.order c).getD (newOrder s.nextOrderNumber n s.clock ((s.serving c).map (·.number))))
        else s.order d := by
  unfold State.withOrder
  split
  · next h =>
    rw [openOrder_order, Option.isNone_iff_eq_none.mp h]
    rfl
  · next h =>
    obtain ⟨o, ho⟩ := Option.ne_none_iff_exists'.mp (by simpa using h)
    split
    · next e => rw [e, ho]; rfl
    · rfl

/-- A sale brings in at most its own item. -/
theorem State.AllItems.acceptSale {p : Item → Prop} {s : State} (h : s.AllItems p) (n : StationNo) (c : ClerkNo)
    (labelled : Bool) (r : Priced) (hnew : ∀ o k, p (saleItem s n o r k)) : (acceptSale n c labelled r s).1.AllItems p := by
  unfold Machine.acceptSale
  split
  · exact h
  · next o ho =>
    have hordered (k : Option Nat) : (s.onOrder c (·.allocate (saleItem s n o r k))).AllItems p := by
      intro d u hu i hi
      rw [State.onOrder, State.setOrder_order, ho] at hu
      split at hu
      · cases hu
        rcases List.mem_append.mp hi with hi | hi
        · exact h c o ho i hi
        · rw [List.mem_singleton.mp hi]
          exact hnew o k
      · exact h d u hu i hi
    have hcarry {bs : List Part} {t u : State} (ht : t.AllItems p) (hc : ChangesOnly bs t u) (hb : Part.orders ∉ bs) :
        u.AllItems p := by
      have horders : u.orders.orders = t.orders.orders := congrArg Prod.fst (hc .orders hb)
      intro d x hx
      rw [State.order, horders] at hx
      exact ht d x hx
    split
    · exact hcarry (hcarry (hordered _) (compose_changesOnly _ n _) (by simp)) (useTare_changesOnly _ n _) (by simp)
    · exact hcarry (hcarry (hordered _) (goodsConfirmed_changesOnly _ c _) (by simp)) (useTare_changesOnly _ n _)
        (by simp)

theorem State.AllItems.withOrder {p : Item → Prop} {s : State} (h : s.AllItems p) (c : ClerkNo) (n : StationNo) :
    (s.withOrder c n).AllItems p := by
  intro d o ho i hi
  rw [withOrder_order, Option.mem_def] at ho
  split at ho
  · cases ho
    cases hc : s.order c with
    | none => rw [hc] at hi; cases hi
    | some o => rw [hc] at hi; exact h c o hc i hi
  · exact h d o ho i hi

end Sys2Proof.Machine
end

section
/-! The laws of the PLU table, the batch and the generation (02, 03): what each operation does to them, and O57. -/

namespace Sys2Proof.Machine

/-! ## Fields decoded are valid -/

theorem pluFieldsAt_valid {p : List Byte} {o : Nat} {f : PluFields} (h : pluFieldsAt p o = some f) : f.valid = true := by
  unfold pluFieldsAt at h
  split at h
  · dsimp only at h
    split at h
    · next hv => cases h; exact hv
    · cases h
  · cases h

theorem descriptionAt_ok {p : List Byte} {o : Nat} {d : List Byte} (h : descriptionAt p o = some d) :
    descriptionOk d = true := by
  unfold descriptionAt at h
  split at h
  · cases h
  · dsimp only at h
    split at h
    · next hd => cases h; exact hd
    · cases h

theorem decodeBatchEntry_valid {p : List Byte} {e : BatchEntry} (h : decodeBatchEntry p = some e) : e.valid = true := by
  unfold decodeBatchEntry at h
  split at h
  · dsimp only at h
    split at h
    · next hfields =>
      simp only [Bool.and_eq_true, decide_eq_true_eq] at hfields
      obtain ⟨⟨⟨⟨hplu, hlow⟩, hhigh⟩, hmarkdown⟩, -⟩ := hfields
      split at h
      · split at h
        · next hd =>
          cases h
          simp [BatchEntry.valid, hplu, hlow, hhigh, hmarkdown, descriptionAt_ok hd]
        · cases h
      · cases h
        simp [BatchEntry.valid, hplu, hlow, hhigh, hmarkdown]
    · cases h
  · split at h
    · obtain ⟨f, hf, rfl⟩ := Option.map_eq_some_iff.mp h
      exact pluFieldsAt_valid hf
    · cases h
  · split at h
    · next hplu =>
      cases h
      exact (Bool.and_eq_true _ _ ▸ hplu).1
    · cases h
  · cases h

/-- A valid CHANGE leaves a valid record valid. -/
theorem changed_valid {r : PluRecord} {plu price markdown gen : Nat} {d : Option (List Byte)}
    (hr : r.fields.valid = true) (he : (BatchEntry.change plu price markdown d).valid = true) :
    (r.changed price markdown d gen).fields.valid = true := by
  simp only [BatchEntry.valid, Bool.and_eq_true, decide_eq_true_eq] at he
  obtain ⟨⟨⟨⟨-, hlow⟩, hhigh⟩, hmarkdown⟩, hd⟩ := he
  simp only [PluFields.valid, Bool.and_eq_true, decide_eq_true_eq] at hr ⊢
  obtain ⟨⟨⟨⟨⟨⟨⟨⟨h1, h2⟩, h3⟩, -⟩, -⟩, -⟩, h7⟩, h8⟩, h9⟩ := hr
  refine ⟨⟨⟨⟨⟨⟨⟨⟨h1, h2⟩, ?_⟩, hlow⟩, hhigh⟩, hmarkdown⟩, h7⟩, h8⟩, h9⟩
  cases d with
  | none => exact h3
  | some d => exact hd

/-! ## The table's law, operation by operation -/

theorem removalStep_pluOk {s : State} (h : s.plu.Ok) (r : PluRecord) (gen : Nat) : (s.removalStep r gen).plu.Ok := by
  unfold State.removalStep
  dsimp only
  split
  · exact h.remove _
  · exact h.update fun x hx => have hfields := h.valid_of_find hx; hfields

theorem applyEntry_pluOk {s t : State} {e : BatchEntry} {gen : Nat} (h : s.plu.Ok) (he : e.valid = true)
    (ht : s.applyEntry e gen = .ok t) : t.plu.Ok := by
  unfold State.applyEntry at ht
  split at ht
  · split at ht
    · cases ht
    · cases ht
      exact h.update fun x hx => ⟨(h.valid_of_find hx).1, changed_valid (h.valid_of_find hx).2 he⟩
  · split at ht
    · cases ht
    · split at ht
      · cases ht
      · next hplaced =>
        cases ht
        exact h.place (r := writtenRecord _ none gen) he hplaced
  · split at ht
    · cases ht
    · cases ht
      exact removalStep_pluOk h _ _

/-- Handing over one entry: it is skipped, or the generation has not ended and it is applied. -/
theorem activateEntry_cases (ended : Bool) (gen : Nat) (a : Activation) (e : BatchEntry) :
    (∃ reason, activateEntry ended gen a e = (a.1, a.2.skip e.plu reason))
      ∨ (ended = false ∧ ∃ t, a.1.applyEntry e gen = .ok t
          ∧ activateEntry ended gen a e = (t, { a.2 with applied := a.2.applied + 1 })) := by
  unfold activateEntry
  cases ended with
  | true => exact .inl ⟨_, rfl⟩
  | false =>
    cases hentry : a.1.applyEntry e gen with
    | error reason => exact .inl ⟨reason, by simp⟩
    | ok t => exact .inr ⟨rfl, t, rfl, by simp⟩

theorem applyBatch_pluOk {s : State} (h : s.plu.Ok) (he : ∀ e ∈ s.pricing.entries, e.valid = true) :
    s.applyBatch.1.plu.Ok := by
  have hfold (es : List BatchEntry) (hes : ∀ e ∈ es, e.valid = true) (a : Activation) (ha : a.1.plu.Ok) :
      (es.foldl (activateEntry s.generationEnded (s.generation + 1)) a).1.plu.Ok := by
    induction es generalizing a with
    | nil => exact ha
    | cons e es ih =>
      refine ih (fun x hx => hes x (List.mem_cons_of_mem _ hx)) _ ?_
      rcases activateEntry_cases s.generationEnded (s.generation + 1) a e with ⟨_, h'⟩ | ⟨-, t, ht, h'⟩
      · rw [h']; exact ha
      · rw [h']; exact applyEntry_pluOk ha (hes e (List.mem_cons_self ..)) ht
  exact hfold _ he _ h

/-- A change of the store that leaves the selling fields alone. -/
theorem accumulateItem_pluOk {s : State} (h : s.plu.Ok) (i : Item) : (s.accumulateItem i).plu.Ok := by
  unfold State.accumulateItem
  split
  · exact h
  · exact h.update fun x hx => have hfields := h.valid_of_find hx; hfields

theorem accumulate_pluOk {s : State} (h : s.plu.Ok) (c : ClerkNo) (n : StationNo) (o : Order) :
    (s.accumulate c n o).plu.Ok := by
  change ((o.inState .confirmed).foldl State.accumulateItem s).plu.Ok
  generalize o.inState .confirmed = items
  induction items generalizing s with
  | nil => exact h
  | cons i items ih => exact ih (accumulateItem_pluOk h i)

theorem wipeStep_pluOk {s : State} (h : s.plu.Ok) (r : PluRecord) : (s.wipeStep r).plu.Ok := by
  unfold State.wipeStep
  split
  · exact removalStep_pluOk h r _
  · exact h

theorem foldl_wipeStep_pluOk {s : State} (h : s.plu.Ok) (rs : List PluRecord) : (rs.foldl State.wipeStep s).plu.Ok := by
  induction rs generalizing s with
  | nil => exact h
  | cons r rs ih => exact ih (wipeStep_pluOk h r)

/-! ## The table's and the batch's laws together -/

/-- The PLU table's law and the staged batch's. -/
def State.TableOk (s : State) : Prop := s.plu.Ok ∧ s.BatchOk

namespace State.TableOk

theorem ite {s t : State} {c : Prop} [Decidable c] (h : s.TableOk) (k : t.TableOk) :
    (if c then s else t).TableOk := by
  split
  · exact h
  · exact k

theorem of_changesOnly {bs : List Part} {s t : State} (h : s.TableOk) (hc : ChangesOnly bs s t)
    (hb : Part.plu ∉ bs ∧ Part.pricing ∉ bs) : t.TableOk := by
  have hplu : t.plu = s.plu := hc .plu hb.1
  have hpricing : t.pricing = s.pricing := hc .pricing hb.2
  rw [State.TableOk, State.BatchOk, hplu, hpricing]
  exact h

/-- The batch as it was, and a table that keeps its law. -/
theorem withPlu {s t : State} (h : s.TableOk) (hpricing : t.pricing = s.pricing) (hplu : t.plu.Ok) : t.TableOk := by
  rw [State.TableOk, State.BatchOk, hpricing]
  exact ⟨hplu, h.2⟩

/-- A table that keeps its law, and no batch. -/
theorem of_emptied {s : State} (hplu : s.plu.Ok) (hentries : s.pricing.entries = []) (hbatch : s.pricing.batch = .empty)
    (hinstant : s.pricing.instant = none) : s.TableOk := by
  rw [State.TableOk, State.BatchOk, hentries, hbatch, hinstant]
  exact ⟨hplu, Nat.zero_le _, by simp, rfl, rfl⟩

variable {s : State} (h : s.TableOk)
include h

theorem emptyBatch : s.emptyBatch.TableOk := of_emptied h.1 rfl rfl rfl

theorem activate : s.activate.TableOk := by
  obtain ⟨hplu, -, hentries, -⟩ := h
  refine of_emptied ?_ rfl rfl rfl
  have happlied := applyBatch_pluOk hplu hentries
  have hstepped : (if s.applyBatch.2.applied = 0 then s.applyBatch.1 else s.applyBatch.1.stepGeneration).plu.Ok := by
    split
    · exact happlied
    · exact happlied
  have hraised (t : State) (r : BatchResult) (ht : t.plu.Ok) : (t.raiseBatch r).plu.Ok := by
    have hsame : (t.raiseBatch r).plu = t.plu := raiseBatch_changesOnly t r .plu (by simp)
    rwa [hsame]
  exact hraised _ _ hstepped

theorem activateIfDue : s.activateIfDue.TableOk := ite h.activate h

theorem printDone (n : StationNo) (k : Nat) : (s.printDone n k).TableOk := by
  unfold State.printDone
  split
  · next r _ =>
    have hfree := h.of_changesOnly (freeSlot_changesOnly s n) (by simp)
    have hkept := (hfree.of_changesOnly
      (setPrinter_changesOnly _ n { (s.freeSlot n).printer n with last := some r }) (by simp)).of_changesOnly
        (countLabel_changesOnly _ n) (by simp)
    have hclosed (t : State) (ht : t.TableOk) (c : ClerkNo) : (t.closePrinted c n).TableOk := by
      unfold State.closePrinted
      split
      · exact ht
      · next o _ =>
        have hpricing : (t.accumulate c n o).pricing = t.pricing := accumulate_changesOnly t c n o .pricing (by simp)
        exact ((ht.withPlu hpricing (accumulate_pluOk ht.1 c n o)).of_changesOnly (setOrder_changesOnly _ c none)
          (by simp)).of_changesOnly (reportClosing_changesOnly _) (by simp)
    unfold State.finishLabel
    dsimp only
    split
    · exact hkept.of_changesOnly (confirmItem_changesOnly _ _ _) (by simp)
    · exact hclosed _ hkept _
    · exact hfree.of_changesOnly (countReprint_changesOnly _ n) (by simp)
  · exact h

theorem stepGeneration : s.stepGeneration.TableOk := h

theorem pluWriteRequest (p : List Byte) : (pluWriteRequest p s).1.TableOk := by
  unfold Machine.pluWriteRequest
  split
  · exact h
  · split
    · exact h
    · next f hf =>
      split
      · exact h
      · next t ht =>
        split
        · exact h
        · exact h.withPlu (t := { s with plu := t }) rfl (h.1.place (pluFieldsAt_valid hf) ht)

theorem pluRemoveRequest (p : List Byte) : (pluRemoveRequest p s).1.TableOk := by
  unfold Machine.pluRemoveRequest
  dsimp only
  split
  · exact h
  · split
    · exact h
    · split
      · exact h
      · split
        · exact h
        · exact stepGeneration (h.withPlu rfl (removalStep_pluOk h.1 _ _))

theorem pluWipeRequest (p : List Byte) : (pluWipeRequest p s).1.TableOk := by
  have hpricing : (s.plu.records.foldl State.wipeStep s).pricing = s.pricing :=
    ChangesOnly.foldl wipeStep_changesOnly s.plu.records s .pricing (by simp)
  have hwiped := h.withPlu hpricing (foldl_wipeStep_pluOk h.1 s.plu.records)
  unfold Machine.pluWipeRequest
  dsimp only
  split
  · exact h
  · split
    · exact h
    · exact ite hwiped hwiped.stepGeneration

theorem batchAddRequest (p : List Byte) : (batchAddRequest p s).1.TableOk := by
  unfold Machine.batchAddRequest
  split
  · exact h
  · next harmed =>
    split
    · exact h
    · next e he =>
      split
      · exact h
      · next hroom =>
        obtain ⟨hplu, hlength, hentries, hbatch⟩ := h
        have hnone : s.pricing.instant = none := by
          split at hbatch
          · exact hbatch.2
          · exact hbatch.2
          · contradiction
        refine ⟨hplu, ?_, ?_, by simp [State.onPricing], hnone⟩
        · simp only [State.onPricing, List.length_append, List.length_singleton]
          omega
        · intro x hx
          rcases List.mem_append.mp hx with hx | hx
          · exact hentries x hx
          · exact List.mem_singleton.mp hx ▸ decodeBatchEntry_valid he

/-- A batch that passes the tests of a commit, armed. -/
theorem armed {delay : Nat} (htests : firstOf (commitTests s delay) = none) (t : DateTime) :
    (s.onPricing fun u => { u with batch := .armed, instant := some t }).TableOk := by
  have hempty : s.pricing.batch ≠ .empty := by
    simpa using firstOf_eq_none.mp htests (s.pricing.batch == .empty, .batchEmpty) (by simp [commitTests])
  have harmed : s.pricing.batch ≠ .armed := by
    simpa using firstOf_eq_none.mp htests (s.pricing.batch == .armed, .batchArmed) (by simp [commitTests])
  obtain ⟨hplu, hlength, hentries, hbatch⟩ := h
  refine ⟨hplu, hlength, hentries, ?_, by simp [State.onPricing]⟩
  split at hbatch
  · contradiction
  · exact hbatch.1
  · contradiction

theorem batchCommitRequest (p : List Byte) : (batchCommitRequest p s).1.TableOk := by
  unfold Machine.batchCommitRequest
  dsimp only
  split
  · exact h
  · next htests => exact ite (h.armed htests _).activate (h.armed htests _)

theorem powerOn : s.powerOn.TableOk := by
  have hmarker : s.checkMarker.plu.Ok := by
    unfold State.checkMarker
    split
    · exact h.1
    · exact ⟨.nil, .nil, by simp [State.format, emptyTable], by simp [State.format, emptyTable]⟩
  have hinit : s.checkMarker.initVolatile.TableOk :=
    of_emptied (hmarker.mapRecords fun _ => rfl) rfl rfl rfl
  have hcounted (t : State) (ht : t.TableOk) : t.countLost.TableOk := ite ht ht
  exact (((hcounted _ hinit).of_changesOnly (dayCheck_changesOnly _) (by simp)).of_changesOnly
    (enterState_changesOnly _ _) (by simp)).of_changesOnly (changesOnly_beat _ _) (by simp)

/-- Every request's act keeps the table's and the batch's laws. -/
theorem request (i : Instr) (p : List Byte) : (requestAct i p s).1.TableOk := by
  cases i with
  | pluWrite => exact h.pluWriteRequest p
  | pluRemove => exact h.pluRemoveRequest p
  | pluWipe => exact h.pluWipeRequest p
  | batchAdd => exact h.batchAddRequest p
  | batchCommit => exact h.batchCommitRequest p
  | batchClear => exact h.emptyBatch
  | timeSet =>
    change (timeSetRequest p s).1.TableOk
    unfold timeSetRequest
    split
    · exact h
    · split
      · exact h
      · next t _ _ =>
        have hclock := h.of_changesOnly (setClock_changesOnly s t) (by simp)
        exact ((ite (hclock.of_changesOnly (raise_changesOnly _ _ _) (by simp)) hclock).of_changesOnly
          (dayCheck_changesOnly _) (by simp)).activateIfDue
  | settingsWrite =>
    change (settingsWriteRequest p s).1.TableOk
    unfold settingsWriteRequest
    split
    · exact h
    · split
      · exact h
      · exact h
  | zClose =>
    change (zCloseRequest p s).1.TableOk
    unfold zCloseRequest
    split
    · exact h
    · exact h.withPlu (t := s.zClose) rfl h.1.zClosed
  | _ => exact h.of_changesOnly (requestAct_changesOnly _ p s) (by simp [requestParts])

/-- Every cause keeps the table's and the batch's laws. -/
theorem cause (c : Cause) : (c.run s).TableOk := by
  cases c with
  | printDone n k => exact h.printDone n k
  | tick =>
    have hclock := h.of_changesOnly (setClock_changesOnly s s.clock.tick) (by simp)
    exact ite hclock (hclock.of_changesOnly (dayCheck_changesOnly _) (by simp)).activateIfDue
  | activation => exact h.activateIfDue
  | request i payload => exact h.request i payload
  | resetRelease =>
    change s.resetReleased.TableOk
    unfold State.resetReleased
    split
    · exact powerOn (s := { s with resetLow := false }) h
    · exact h
  | _ => exact h.of_changesOnly (Cause.run_changesOnly _ s) (by simp [Cause.parts])

end State.TableOk

/-! ## The generation's law -/

/-- The records carry no generation above a bound. -/
def PluTable.Upto (g : Nat) (t : PluTable) : Prop := t.All fun r => r.changedGen ≤ g

theorem State.generationOk_iff {s : State} :
    s.GenerationOk ↔ (1 ≤ s.generation ∧ s.generation ≤ Config.lastGeneration) ∧ s.plu.Upto s.generation
      ∧ s.AllItems fun i => i.generation ≤ s.generation := and_assoc.symm

theorem removalStep_upto {s : State} {g : Nat} (h : s.plu.Upto g) (r : PluRecord) : (s.removalStep r g).plu.Upto g := by
  unfold State.removalStep
  dsimp only
  split
  · exact PluTable.All.remove h _
  · exact PluTable.All.update h fun _ _ => le_rfl

theorem applyEntry_upto {s t : State} {e : BatchEntry} {g : Nat} (h : s.plu.Upto g) (ht : s.applyEntry e g = .ok t) :
    t.plu.Upto g := by
  unfold State.applyEntry at ht
  split at ht
  · split at ht
    · cases ht
    · cases ht
      exact PluTable.All.update h fun _ _ => le_rfl
  · split at ht
    · cases ht
    · split at ht
      · cases ht
      · next hplaced =>
        cases ht
        exact PluTable.All.place h (x := writtenRecord _ none g) le_rfl hplaced
  · split at ht
    · cases ht
    · cases ht
      exact removalStep_upto h _

theorem PluTable.Upto.mono {g k : Nat} {t : PluTable} (h : t.Upto g) (hgk : g ≤ k) : t.Upto k :=
  PluTable.All.mono h fun _ hr => le_trans hr hgk

/-- How far an activation has come: without an applied entry the table is as bounded as it was, with one the
generation has not ended. -/
def Activation.Bounded (ended : Bool) (g : Nat) (a : Activation) : Prop :=
  (a.2.applied = 0 → a.1.plu.Upto g) ∧ a.1.plu.Upto (g + 1) ∧ (a.2.applied ≠ 0 → ended = false)

theorem Activation.Bounded.entry {ended : Bool} {g : Nat} {a : Activation} (h : a.Bounded ended g) (e : BatchEntry) :
    Bounded ended g (activateEntry ended (g + 1) a e) := by
  obtain ⟨hnone, hnext, hended⟩ := h
  rcases activateEntry_cases ended (g + 1) a e with ⟨_, h'⟩ | ⟨hhigh, t, ht, h'⟩
  · rw [h']
    exact ⟨hnone, hnext, hended⟩
  · rw [h']
    exact ⟨fun e => by simp at e, applyEntry_upto hnext ht, fun _ => hhigh⟩

theorem applyBatch_bounded {s : State} (h : s.plu.Upto s.generation) :
    s.applyBatch.Bounded s.generationEnded s.generation := by
  have hfold (es : List BatchEntry) (a : Activation) (ha : a.Bounded s.generationEnded s.generation) :
      Activation.Bounded s.generationEnded s.generation
        (es.foldl (activateEntry s.generationEnded (s.generation + 1)) a) := by
    induction es generalizing a with
    | nil => exact ha
    | cons e es ih => exact ih _ (ha.entry e)
  exact hfold _ _ ⟨fun _ => h, h.mono (Nat.le_succ _), fun h0 => absurd rfl h0⟩

theorem accumulate_upto {s : State} {g : Nat} (h : s.plu.Upto g) (c : ClerkNo) (n : StationNo) (o : Order) :
    (s.accumulate c n o).plu.Upto g := by
  change ((o.inState .confirmed).foldl State.accumulateItem s).plu.Upto g
  generalize o.inState .confirmed = items
  induction items generalizing s with
  | nil => exact h
  | cons i items ih =>
    refine ih ?_
    unfold State.accumulateItem
    split
    · exact h
    · exact PluTable.All.update h fun _ hr => hr

theorem generation_le_succ {s : State} (h : s.GenerationOk) (hended : s.generationEnded = false) :
    s.generation + 1 ≤ Config.lastGeneration := by
  obtain ⟨-, hlast, -⟩ := h
  have hne : s.generation ≠ Config.lastGeneration := by simpa [State.generationEnded] using hended
  omega

namespace State.GenerationOk

theorem ite {s t : State} {c : Prop} [Decidable c] (h : s.GenerationOk) (k : t.GenerationOk) :
    (if c then s else t).GenerationOk := by
  split
  · exact h
  · exact k

/-- The generation as it was, the records bounded by it, and no item that was not there. -/
theorem of_itemsFrom {s t : State} (h : s.GenerationOk) (hgeneration : t.generation = s.generation)
    (hplu : t.plu.Upto s.generation) (hitems : ItemsFrom s t) : t.GenerationOk := by
  rw [State.generationOk_iff] at *
  obtain ⟨hrange, -, hall⟩ := h
  rw [hgeneration]
  exact ⟨hrange, hplu, hall.of_itemsFrom (fun _ _ hi => hi) hitems⟩

theorem of_changesOnly {bs : List Part} {s t : State} (h : s.GenerationOk) (hc : ChangesOnly bs s t)
    (hb : Part.plu ∉ bs ∧ Part.pricing ∉ bs) (hitems : ItemsFrom s t) : t.GenerationOk := by
  have hplu : t.plu = s.plu := hc .plu hb.1
  have hpricing : t.pricing = s.pricing := hc .pricing hb.2
  refine h.of_itemsFrom (by rw [State.generation, hpricing]; rfl) (hplu ▸ ?_) hitems
  exact (State.generationOk_iff.mp h).2.1

/-- A generation stepped up, with records bounded by it. -/
theorem of_step {s t : State} (h : s.GenerationOk) (hended : s.generationEnded = false)
    (hgeneration : t.generation = s.generation + 1) (hplu : t.plu.Upto (s.generation + 1))
    (horders : t.orders = s.orders) : t.GenerationOk := by
  have hlast := generation_le_succ h hended
  rw [State.generationOk_iff] at *
  obtain ⟨-, -, hall⟩ := h
  rw [hgeneration]
  refine ⟨⟨by omega, hlast⟩, hplu, fun c o ho i hi => ?_⟩
  rw [State.order, horders] at ho
  exact Nat.le_succ_of_le (hall c o ho i hi)

variable {s : State} (h : s.GenerationOk)
include h

theorem upto : s.plu.Upto s.generation := (State.generationOk_iff.mp h).2.1

theorem activate : s.activate.GenerationOk := by
  obtain ⟨hnone, hnext, hended⟩ := applyBatch_bounded h.upto
  have horders : s.applyBatch.1.orders = s.orders := by
    have hclerks := applyBatch_changesOnly s .clerks (by simp)
    have horders := applyBatch_changesOnly s .orders (by simp)
    change s.applyBatch.1.orders.clerks = s.orders.clerks at hclerks
    change (s.applyBatch.1.orders.orders, s.applyBatch.1.orders.lastOrderNumber) = (s.orders.orders, _) at horders
    cases hx : s.applyBatch.1.orders
    cases hy : s.orders
    simp_all
  have hpricing : s.applyBatch.1.pricing = s.pricing := applyBatch_changesOnly s .pricing (by simp)
  have hstepped : (if s.applyBatch.2.applied = 0 then s.applyBatch.1 else s.applyBatch.1.stepGeneration).GenerationOk := by
    split
    · next h0 =>
      refine h.of_itemsFrom (by rw [State.generation, hpricing]; rfl) (hnone h0) ?_
      exact ItemsFrom.of_changesOnly (applyBatch_changesOnly s) (by simp)
    · next h0 =>
      refine h.of_step (hended h0) ?_ hnext horders
      change s.applyBatch.1.pricing.generation + 1 = _
      rw [hpricing]
      rfl
  have hresult (t : State) (r : BatchResult) (ht : t.GenerationOk) :
      State.GenerationOk (t.onPricing fun u => { u with result := some r }) := ht
  have hraised (t : State) (r : BatchResult) (ht : t.GenerationOk) : (t.raiseBatch r).GenerationOk :=
    ht.of_changesOnly (raiseBatch_changesOnly t r) (by simp) (.of_changesOnly (raiseBatch_changesOnly t r) (by simp))
  have hemptied (t : State) (ht : t.GenerationOk) : t.emptyBatch.GenerationOk := ht
  exact hemptied _ (hraised _ _ (hresult _ _ hstepped))

theorem activateIfDue : s.activateIfDue.GenerationOk := ite h.activate h

/-- An operation that leaves the table, the generation and the orders alone. -/
theorem same {bs : List Part} {t : State} (hc : ChangesOnly bs s t)
    (hb : Part.plu ∉ bs ∧ Part.pricing ∉ bs ∧ Part.orders ∉ bs) : t.GenerationOk :=
  h.of_changesOnly hc ⟨hb.1, hb.2.1⟩ (.of_changesOnly hc hb.2.2)

theorem closePrinted (c : ClerkNo) (n : StationNo) : (s.closePrinted c n).GenerationOk := by
  unfold State.closePrinted
  split
  · exact h
  · next o _ =>
    have hpricing : (s.accumulate c n o).pricing = s.pricing := accumulate_changesOnly s c n o .pricing (by simp)
    have haccumulated : (s.accumulate c n o).GenerationOk :=
      h.of_itemsFrom (by rw [State.generation, hpricing]; rfl) (accumulate_upto h.upto c n o)
        (.of_changesOnly (accumulate_changesOnly s c n o) (by simp))
    exact (haccumulated.of_changesOnly (setOrder_changesOnly _ c none) (by simp) (.endOrder _ c)).same
      (reportClosing_changesOnly _) (by simp)

theorem printDone (n : StationNo) (k : Nat) : (s.printDone n k).GenerationOk := by
  unfold State.printDone
  split
  · next r _ =>
    have hfree := h.same (freeSlot_changesOnly s n) (by simp)
    have hkept := (hfree.same (setPrinter_changesOnly _ n { (s.freeSlot n).printer n with last := some r })
      (by simp)).same (countLabel_changesOnly _ n) (by simp)
    unfold State.finishLabel
    dsimp only
    split
    · exact hkept.of_changesOnly (confirmItem_changesOnly _ _ _) (by simp)
        ((ItemsFrom.onOrder _ _ (Order.noNewItem_setItem _ _)).andThen (goodsConfirmed_changesOnly _ _ _) (by simp))
    · exact hkept.closePrinted _ n
    · exact hfree.same (countReprint_changesOnly _ n) (by simp)
  · exact h

theorem pluWriteRequest (p : List Byte) : (pluWriteRequest p s).1.GenerationOk := by
  unfold Machine.pluWriteRequest
  split
  · exact h
  · split
    · exact h
    · split
      · exact h
      · next hplaced =>
        split
        · exact h
        · next hended =>
          refine h.of_step (by simpa using hended) rfl ?_ rfl
          exact PluTable.All.place (h.upto.mono (Nat.le_succ _)) (x := writtenRecord _ _ _) le_rfl hplaced

theorem pluRemoveRequest (p : List Byte) : (pluRemoveRequest p s).1.GenerationOk := by
  unfold Machine.pluRemoveRequest
  dsimp only
  split
  · exact h
  · split
    · exact h
    · split
      · exact h
      · split
        · exact h
        · next hended =>
          exact h.of_step (by simpa using hended) rfl (removalStep_upto (h.upto.mono (Nat.le_succ _)) _) rfl

end State.GenerationOk

/-! ## The generation at a wipe -/

theorem wipeStep_eq_self {s : State} {r : PluRecord} (h : s.wipeChanges r = false) : s.wipeStep r = s := by
  simp [State.wipeStep, h]

/-- A wipe that would change no record changes nothing. -/
theorem foldl_wipeStep_eq_self {s : State} {rs : List PluRecord} (h : ∀ r ∈ rs, s.wipeChanges r = false) :
    rs.foldl State.wipeStep s = s := by
  induction rs with
  | nil => rfl
  | cons r rs ih =>
    rw [List.foldl_cons, wipeStep_eq_self (h r (List.mem_cons_self ..))]
    exact ih fun x hx => h x (List.mem_cons_of_mem _ hx)

theorem wipeStep_generation (s : State) (r : PluRecord) : (s.wipeStep r).generation = s.generation := by
  unfold State.wipeStep
  split <;> rfl

theorem foldl_wipeStep_upto {s : State} (h : s.plu.Upto (s.generation + 1)) (rs : List PluRecord) :
    (rs.foldl State.wipeStep s).plu.Upto (s.generation + 1) := by
  induction rs generalizing s with
  | nil => exact h
  | cons r rs ih =>
    have hstep : (s.wipeStep r).plu.Upto (s.generation + 1) := by
      unfold State.wipeStep
      split
      · exact removalStep_upto h r
      · exact h
    rw [← wipeStep_generation s r] at hstep ⊢
    exact ih hstep

theorem wipeChanges_eq_false {s : State} {rs : List PluRecord}
    (h : rs.countP s.removable + rs.countP (fun r => s.wipeChanges r && !s.removable r) = 0) :
    ∀ r ∈ rs, s.wipeChanges r = false := by
  intro r hr
  have hremoved : rs.countP s.removable = 0 := by omega
  have hretired : rs.countP (fun r => s.wipeChanges r && !s.removable r) = 0 := by omega
  have h1 := List.countP_eq_zero.mp hremoved r hr
  have h2 := List.countP_eq_zero.mp hretired r hr
  simp only [Bool.and_eq_true, not_and, Bool.not_eq_true', Bool.not_eq_false, Bool.not_eq_true] at h1 h2
  by_contra hc
  simp [h2 (by simpa using hc)] at h1

/-- Where the last generation lets a wipe pass, the wipe changes no record. -/
theorem wipeChanges_of_passed {s : State} {rs : List PluRecord}
    (h : (rs.any fun r => r.totals.allZero || r.state == .active) = false) : ∀ r ∈ rs, s.wipeChanges r = false := by
  intro r hr
  have hfalse := List.any_eq_false.mp h r hr
  simp only [Bool.or_eq_true, not_or, Bool.not_eq_true] at hfalse
  simp [State.wipeChanges, State.removable, hfalse.1, hfalse.2]

namespace State.GenerationOk

variable {s : State} (h : s.GenerationOk)
include h

theorem pluWipeRequest (p : List Byte) : (pluWipeRequest p s).1.GenerationOk := by
  unfold Machine.pluWipeRequest
  dsimp only
  split
  · exact h
  · split
    · exact h
    · next hpassed =>
      split
      · next h0 =>
        rw [foldl_wipeStep_eq_self (wipeChanges_eq_false h0)]
        exact h
      · next h0 =>
        have hended : s.generationEnded = false := by
          cases he : s.generationEnded with
          | false => rfl
          | true =>
            rw [he, Bool.true_and] at hpassed
            have hunchanged := wipeChanges_of_passed (s := s) (by simpa using hpassed)
            refine absurd ?_ h0
            rw [Nat.add_eq_zero_iff, List.countP_eq_zero, List.countP_eq_zero]
            constructor
            · intro r hr
              have := hunchanged r hr
              simp_all [State.wipeChanges]
            · intro r hr
              simp [hunchanged r hr]
        have hwipe := ChangesOnly.foldl wipeStep_changesOnly s.plu.records s
        refine h.of_step hended ?_ (foldl_wipeStep_upto (h.upto.mono (Nat.le_succ _)) _) ?_
        · change (s.plu.records.foldl State.wipeStep s).pricing.generation + 1 = _
          rw [show (s.plu.records.foldl State.wipeStep s).pricing = s.pricing from hwipe .pricing (by simp)]
          rfl
        · change (s.plu.records.foldl State.wipeStep s).orders = s.orders
          have hfold (rs : List PluRecord) (t : State) : (rs.foldl State.wipeStep t).orders = t.orders := by
            induction rs generalizing t with
            | nil => rfl
            | cons r rs ih =>
              rw [List.foldl_cons, ih]
              unfold State.wipeStep
              split <;> rfl
          exact hfold _ _

theorem saleRequest (labelled : Bool) (n : StationNo) (p : List Byte) : (saleRequest labelled n p s).1.GenerationOk := by
  have haccept (c : ClerkNo) (r : Priced) : (acceptSale n c labelled r (s.withOrder c n)).1.GenerationOk := by
    have hsale := acceptSale_changesOnly (s.withOrder c n) n c labelled r
    have hopened := withOrder_changesOnly s c n
    have hpricing : (acceptSale n c labelled r (s.withOrder c n)).1.pricing = s.pricing :=
      Eq.trans (hsale .pricing (by simp)) (hopened .pricing (by simp))
    have hplu : (acceptSale n c labelled r (s.withOrder c n)).1.plu = s.plu :=
      Eq.trans (hsale .plu (by simp)) (hopened .plu (by simp))
    have hgeneration : (s.withOrder c n).generation = s.generation :=
      congrArg (·.generation) (hopened .pricing (by simp))
    rw [State.generationOk_iff] at *
    obtain ⟨hrange, hrecords, hall⟩ := h
    rw [State.generation, hpricing, hplu]
    refine ⟨hrange, hrecords, (hall.withOrder c n).acceptSale n c labelled r fun o k => ?_⟩
    exact hgeneration.le
  unfold Machine.saleRequest
  split
  · exact h
  · exact h
  · split
    · exact h
    · split
      · exact h
      · split
        · exact h
        · exact haccept _ _

theorem zClose : s.zClose.GenerationOk := by
  refine h.of_itemsFrom rfl (PluTable.All.foldl_remove (PluTable.All.of_mapRecords fun l leaf hleaf k r hr => ?_) _)
    (.of_changesOnly (zClose_changesOnly s) (by simp))
  exact h.upto l leaf hleaf k r hr

theorem settingsWriteRequest (p : List Byte) : (settingsWriteRequest p s).1.GenerationOk := by
  unfold Machine.settingsWriteRequest
  split
  · exact h
  · split
    · exact h
    · exact h

omit h in
/-- The power-on handling restarts the generation, the records' generations with it, and leaves no order open. -/
theorem powerOn : s.powerOn.GenerationOk := by
  have hinit (t : State) : t.initVolatile.GenerationOk := by
    refine State.generationOk_iff.mpr ⟨⟨le_rfl, (by decide : 1 ≤ Config.lastGeneration)⟩, ?_, fun c o ho => ?_⟩
    · exact PluTable.All.of_mapRecords fun _ _ _ _ _ _ => le_rfl
    · have hnone : t.initVolatile.order c = none := Table.get_fill _ _
      rw [hnone] at ho
      cases ho
  have hcounted (t : State) (ht : t.GenerationOk) : t.countLost.GenerationOk := ite ht ht
  exact (((hcounted _ (hinit s.checkMarker)).same (dayCheck_changesOnly _) (by simp)).same
    (enterState_changesOnly _ _) (by simp)).same (changesOnly_beat _ _) (by simp)

/-- Every request's act keeps the generation's law. -/
theorem request (i : Instr) (p : List Byte) : (requestAct i p s).1.GenerationOk := by
  cases i with
  | label n => exact h.saleRequest true n p
  | addItem n => exact h.saleRequest false n p
  | pluWrite => exact h.pluWriteRequest p
  | pluRemove => exact h.pluRemoveRequest p
  | pluWipe => exact h.pluWipeRequest p
  | batchAdd =>
    change (batchAddRequest p s).1.GenerationOk
    unfold batchAddRequest
    split
    · exact h
    · split
      · exact h
      · split
        · exact h
        · exact h
  | batchCommit =>
    change (batchCommitRequest p s).1.GenerationOk
    unfold batchCommitRequest
    dsimp only
    split
    · exact h
    · have harmed (t : DateTime) :
          State.GenerationOk (s.onPricing fun u => { u with batch := .armed, instant := some t }) := h
      exact ite (harmed _).activate (harmed _)
  | batchClear => exact h
  | timeSet =>
    change (timeSetRequest p s).1.GenerationOk
    unfold timeSetRequest
    split
    · exact h
    · split
      · exact h
      · next t _ _ =>
        have hclock := h.same (setClock_changesOnly s t) (by simp)
        exact ((ite (hclock.same (raise_changesOnly _ _ _) (by simp)) hclock).same (dayCheck_changesOnly _)
          (by simp)).activateIfDue
  | settingsWrite => exact h.settingsWriteRequest p
  | zClose =>
    change (zCloseRequest p s).1.GenerationOk
    unfold zCloseRequest
    split
    · exact h
    · exact h.zClose
  | _ =>
    exact h.of_changesOnly (requestAct_changesOnly _ p s) (by simp [requestParts])
      (ItemsFrom.request s _ p (by simp))

/-- Every cause keeps the generation's law. -/
theorem cause (c : Cause) : (c.run s).GenerationOk := by
  cases c with
  | printDone n k => exact h.printDone n k
  | tick =>
    have hclock := h.same (setClock_changesOnly s s.clock.tick) (by simp)
    exact ite hclock (hclock.same (dayCheck_changesOnly _) (by simp)).activateIfDue
  | activation => exact h.activateIfDue
  | request i payload => exact h.request i payload
  | resetRelease =>
    change s.resetReleased.GenerationOk
    unfold State.resetReleased
    split
    · exact powerOn
    · exact h
  | _ =>
    exact h.of_changesOnly (Cause.run_changesOnly _ s) (by simp [Cause.parts]) (ItemsFrom.cause s _ (by simp))

end State.GenerationOk

end Sys2Proof.Machine

open Sys2Proof Sys2Proof.Machine

/-- Settles O57: each change of the table is a placement, a change or a removal of one record with valid fields, and the
generation steps exactly when such a change has taken the next one. -/
theorem tableBatchGenerationAreKept : Obligations.TableBatchGenerationAreKept := by
  intro s t hstep
  refine ⟨fun hplu hbatch => ?_, fun _ _ hgeneration => ?_⟩
  · exact step_keeps_of_causes (P := State.TableOk) (fun _ _ hc h => h.of_changesOnly hc (by simp))
      (fun c _ h => h.cause c) hstep ⟨hplu, hbatch⟩
  · exact step_keeps_of_causes (P := State.GenerationOk) (fun _ _ hc h => h.same hc (by simp))
      (fun c _ h => h.cause c) hstep hgeneration
end

section
/-! Order numbers, the open orders as a list, and the item pool (04); O26. -/

namespace Sys2Proof.Machine

/-! ## The next order number (R70) -/

/-- The candidate a number of steps after the last number issued. -/
def orderCandidate (last j : Nat) : Nat := (last + j - 1) % 9999 + 1

theorem orderCandidate_one {last : Nat} (h : last ≤ Config.lastOrderNumber) :
    (if last = Config.lastOrderNumber then 1 else last + 1) = orderCandidate last 1 := by
  have hl : Config.lastOrderNumber = 9999 := rfl
  unfold orderCandidate
  split <;> omega

theorem orderCandidate_succ (last j : Nat) :
    orderCandidate (orderCandidate last 1) (j + 1) = orderCandidate last (j + 2) := by
  unfold orderCandidate
  omega

theorem orderCandidate_bounds (last j : Nat) :
    1 ≤ orderCandidate last j ∧ orderCandidate last j ≤ Config.lastOrderNumber := by
  unfold orderCandidate
  have hmod := Nat.mod_lt (last + j - 1) (show 0 < 9999 by omega)
  exact ⟨Nat.succ_le_succ (Nat.zero_le _), hmod⟩

/-- The number found is the first candidate not held, as far as the fuel reaches. -/
theorem freeOrderNumber_spec (held : List Nat) (fuel last : Nat) (h : last ≤ Config.lastOrderNumber) :
    ∃ j, 1 ≤ j ∧ j ≤ fuel + 1 ∧ freeOrderNumber held fuel last = orderCandidate last j
      ∧ (j ≤ fuel → orderCandidate last j ∉ held) ∧ ∀ i, 1 ≤ i → i < j → orderCandidate last i ∈ held := by
  induction fuel generalizing last with
  | zero => exact ⟨1, le_rfl, le_rfl, orderCandidate_one h, by omega, by omega⟩
  | succ fuel ih =>
    unfold freeOrderNumber
    dsimp only
    rw [orderCandidate_one h]
    split
    · next hheld =>
      have hheld : orderCandidate last 1 ∈ held := by simpa using hheld
      obtain ⟨j, hj1, hjf, hfound, hfree, hpassed⟩ := ih _ (orderCandidate_bounds last 1).2
      obtain ⟨j, rfl⟩ : ∃ k, j = k + 1 := ⟨j - 1, by omega⟩
      rw [orderCandidate_succ] at hfound hfree
      refine ⟨j + 2, by omega, by omega, hfound, fun hj => hfree (by omega), fun i hi hij => ?_⟩
      obtain rfl | ⟨k, rfl⟩ : i = 1 ∨ ∃ k, i = k + 2 := by
        by_cases hi1 : i = 1
        · exact .inl hi1
        · exact .inr ⟨i - 2, by omega⟩
      · exact hheld
      · rw [← orderCandidate_succ]
        exact hpassed _ (by omega) (by omega)
    · next hheld => exact ⟨1, le_rfl, by omega, rfl, fun _ => by simpa using hheld, by omega⟩

/-- Fewer than a full turn of candidates are different numbers. -/
theorem orderCandidate_inj {last i j : Nat} (hi : 1 ≤ i) (hj : 1 ≤ j) (hi' : i ≤ 9999) (hj' : j ≤ 9999)
    (h : orderCandidate last i = orderCandidate last j) : i = j := by
  unfold orderCandidate at h
  omega

/-- With at most 31 numbers held, the number found is the first of 32 candidates that is not held. -/
theorem nextOrderNumber_spec {s : State} (hlast : s.orders.lastOrderNumber ≤ Config.lastOrderNumber)
    (hcount : s.openOrderCount ≤ 31) :
    ∃ j, 1 ≤ j ∧ j ≤ 32 ∧ s.nextOrderNumber = orderCandidate s.orders.lastOrderNumber j
      ∧ s.nextOrderNumber ∉ s.openOrders.map (·.number)
      ∧ ∀ i, 1 ≤ i → i < j → orderCandidate s.orders.lastOrderNumber i ∈ s.openOrders.map (·.number) := by
  obtain ⟨j, hj1, hj, hfound, hfree, hpassed⟩ :=
    freeOrderNumber_spec (s.openOrders.map (·.number)) 32 s.orders.lastOrderNumber hlast
  have hj32 : j ≤ 32 := by
    by_contra hj33
    have hsub : (List.range 32).map (fun i => orderCandidate s.orders.lastOrderNumber (i + 1))
        ⊆ s.openOrders.map (·.number) := by
      intro k hk
      obtain ⟨i, hi, rfl⟩ := List.mem_map.mp hk
      exact hpassed _ (by omega) (by have := List.mem_range.mp hi; omega)
    have hnodup : ((List.range 32).map fun i => orderCandidate s.orders.lastOrderNumber (i + 1)).Nodup := by
      refine List.Nodup.map_on (fun a ha b hb hab => ?_) List.nodup_range
      have ha := List.mem_range.mp ha
      have hb := List.mem_range.mp hb
      have := orderCandidate_inj (by omega) (by omega) (by omega) (by omega) hab
      omega
    have hlength := (hnodup.subperm hsub).length_le
    rw [List.length_map, List.length_map, List.length_range] at hlength
    exact absurd hcount (by unfold State.openOrderCount; omega)
  exact ⟨j, hj1, hj32, hfound, fun hm => hfree hj32 (hfound ▸ hm), hpassed⟩

/-! ## The open orders, one clerk's set apart -/

/-- The items an order holds, none without one. -/
def heldItems (x : Option Order) : Nat := (x.map (·.items.length)).getD 0

theorem openOrders_perm (s : State) (c : ClerkNo) :
    ∃ rest : List Order, rest.length ≤ 31 ∧ ∀ x, (s.setOrder c x).openOrders.Perm (x.toList ++ rest) := by
  obtain ⟨rest, hrest⟩ := Table.rows_perm s.orders.orders c
  refine ⟨rest.filterMap id, ?_, fun x => ?_⟩
  · have hlength := (hrest none).length_eq
    rw [Table.length_rows, List.length_cons] at hlength
    have := List.length_filterMap_le id rest
    omega
  · have hperm := (hrest x).filterMap id
    cases x <;> exact hperm

/-- What the open orders come to, with one clerk's order changed. -/
theorem openOrders_setOrder (s : State) (c : ClerkNo) (x : Option Order) :
    (s.setOrder c x).openOrderCount + (s.order c).toList.length = s.openOrderCount + x.toList.length
      ∧ (s.setOrder c x).poolUsed + heldItems (s.order c) = s.poolUsed + heldItems x := by
  obtain ⟨rest, -, hrest⟩ := openOrders_perm s c
  have hself := hrest (s.order c)
  rw [State.setOrder_order_self] at hself
  have hsum (y : Option Order) (l : List Order) (hl : l.Perm (y.toList ++ rest)) :
      l.length = y.toList.length + rest.length
        ∧ (l.map fun o => o.items.length).sum = heldItems y + (rest.map fun o => o.items.length).sum := by
    refine ⟨by rw [hl.length_eq, List.length_append], ?_⟩
    rw [(hl.map _).sum_eq, List.map_append, List.sum_append]
    cases y <;> rfl
  have hold := hsum _ _ hself
  have hnew := hsum _ _ (hrest x)
  constructor
  · have h1 := hold.1
    have h2 := hnew.1
    simp only [State.openOrderCount]
    omega
  · have h1 := hold.2
    have h2 := hnew.2
    simp only [State.poolUsed]
    omega

/-- A clerk without an order leaves at most 31 orders open. -/
theorem openOrderCount_le {s : State} {c : ClerkNo} (h : s.order c = none) : s.openOrderCount ≤ 31 := by
  obtain ⟨rest, hlength, hrest⟩ := openOrders_perm s c
  have hself := hrest (s.order c)
  rw [State.setOrder_order_self, h] at hself
  rw [State.openOrderCount, hself.length_eq]
  exact hlength

theorem openOrderCount_eq_zero {s : State} : s.openOrderCount = 0 ↔ ∀ c, s.order c = none := by
  rw [State.openOrderCount, List.length_eq_zero_iff, List.eq_nil_iff_forall_not_mem]
  constructor
  · intro h c
    cases ho : s.order c with
    | none => rfl
    | some o => exact absurd (s.mem_openOrders.mpr ⟨c, ho⟩) (h o)
  · intro h o ho
    obtain ⟨c, hc⟩ := s.mem_openOrders.mp ho
    rw [h c] at hc
    cases hc

end Sys2Proof.Machine

open Sys2Proof Sys2Proof.Machine

/-- Settles O26: the search passes over held candidates in turn, and among 32 different ones at most 31 are held. -/
theorem orderNumberIsNextFree : Obligations.OrderNumberIsNextFree := by
  intro s h hcount
  obtain ⟨-, -, -, -, -, -, -, hlast⟩ := h
  obtain ⟨j, hj1, hj, hfound, hfree, hpassed⟩ := nextOrderNumber_spec hlast hcount
  refine ⟨j, hj1, hj, hfound, fun o ho he => hfree (List.mem_map.mpr ⟨o, ho, he⟩), fun i hi hij => ?_⟩
  obtain ⟨o, ho, he⟩ := List.mem_map.mp (hpassed i hi hij)
  exact ⟨o, ho, he⟩
end

section
/-! The order manager's laws (04, 07, 08): what each operation does to the orders, the bindings and the open-order
count. -/

namespace Sys2Proof.Machine

/-! ## The laws in three groups -/

/-- The laws of the orders themselves: each within its bounds, numbers different, the pool not overdrawn. -/
def State.OrderListOk (s : State) : Prop :=
  (∀ c : ClerkNo, ∀ o ∈ s.order c, o.Ok)
    ∧ (∀ c d : ClerkNo, ∀ o ∈ s.order c, ∀ u ∈ s.order d, o.number = u.number → c = d)
    ∧ s.poolUsed ≤ Config.poolSlots ∧ s.orders.lastOrderNumber ≤ Config.lastOrderNumber

/-- The laws of the bindings: a held order's clerk is bound at the holder, a station has at most one bound clerk, and
only at an ENROLLED station. -/
def State.BindingsOk (s : State) : Prop :=
  (∀ c : ClerkNo, ∀ o ∈ s.order c, ∀ n ∈ o.holder, (s.clerk c).bound = some n)
    ∧ (∀ c d : ClerkNo, ∀ n ∈ (s.clerk c).bound, (s.clerk d).bound = some n → c = d)
    ∧ ∀ c : ClerkNo, ∀ n ∈ (s.clerk c).bound, s.link n = .enrolled

/-- The laws of the open-order count: it counts the open orders, and there are none outside trading. -/
def State.CountOk (s : State) : Prop :=
  s.totals.openOrders = s.openOrderCount ∧ (s.trading = false → s.openOrderCount = 0)

theorem State.ordersOk_iff {s : State} : s.OrdersOk ↔ s.OrderListOk ∧ s.BindingsOk ∧ s.CountOk := by
  constructor
  · rintro ⟨h1, h2, h3, h4, h5, h6, h7, h8⟩
    exact ⟨⟨fun c o ho => (h1 c o ho).1, h3, h4, h8⟩, ⟨fun c o ho => (h1 c o ho).2, h2, h7⟩, h5, h6⟩
  · rintro ⟨⟨h1, h3, h4, h8⟩, ⟨h1', h2, h7⟩, h5, h6⟩
    exact ⟨fun c o ho => ⟨h1 c o ho, h1' c o ho⟩, h2, h3, h4, h5, h6, h7, h8⟩

/-! ## The orders -/

/-- A change of an order that keeps its number, its bounds and the slots it uses at most, and at most lets go of it. -/
structure Order.Tame (o u : Order) : Prop where
  number : u.number = o.number
  ok : o.Ok → u.Ok
  items : u.items.length ≤ o.items.length
  holder : u.holder = none ∨ u.holder = o.holder

theorem stepRevision_lt (r : Nat) : stepRevision r < 65536 := Nat.mod_lt _ (by omega)

theorem Order.tame_release (o : Order) : o.Tame { o with holder := none, revision := stepRevision o.revision } where
  number := rfl
  ok := fun ⟨h1, h2, _, h4, h5, h6, h7, h8⟩ => ⟨h1, h2, stepRevision_lt _, h4, h5, h6, h7, h8⟩
  items := le_rfl
  holder := .inl rfl

theorem Order.tame_setState (o : Order) (st : OrderState) : o.Tame (o.setState st) where
  number := rfl
  ok := fun ⟨h1, h2, _, h4, h5, h6, h7, h8⟩ => ⟨h1, h2, stepRevision_lt _, h4, h5, h6, h7, h8⟩
  items := le_rfl
  holder := .inr rfl

theorem Order.setItem_numbers (o : Order) (k : Nat) (st : ItemState) :
    (o.setItem k st).items.map (·.number) = o.items.map (·.number) := by
  unfold Order.setItem
  rw [List.map_map]
  refine List.map_congr_left fun i _ => ?_
  simp only [Function.comp_apply]
  split <;> rfl

theorem Order.tame_setItem (o : Order) (k : Nat) (st : ItemState) : o.Tame (o.setItem k st) where
  number := rfl
  ok := by
    rintro ⟨h1, h2, -, h4, h5, h6, h7, h8⟩
    refine ⟨h1, h2, stepRevision_lt _, by simpa [Order.setItem] using h4, h5, h6, ?_, fun i hi => ?_⟩
    · rw [o.setItem_numbers]
      exact h7
    · obtain ⟨j, hj, rfl⟩ := List.mem_map.mp hi
      split
      · exact h8 j hj
      · exact h8 j hj
  items := by simp [Order.setItem]
  holder := .inr rfl

theorem Order.tame_removeItem (o : Order) (k : Nat) : o.Tame (o.removeItem k) where
  number := rfl
  ok := by
    rintro ⟨h1, h2, -, h4, h5, h6, h7, h8⟩
    exact ⟨h1, h2, stepRevision_lt _, (List.length_filter_le _ _).trans h4, h5, h6,
      h7.sublist (List.filter_sublist.map _), fun i hi => h8 i (List.mem_filter.mp hi).1⟩
  items := List.length_filter_le _ _
  holder := .inr rfl

/-- An item with the next number taken into an order with room. -/
theorem Order.Ok.allocate {o : Order} (h : o.Ok) {i : Item} (hnumber : i.number = o.nextItem)
    (hroom : o.items.length < Config.itemsPerOrder) (hnext : o.nextItem < Config.itemNumbersEnd) :
    (o.allocate i).Ok := by
  obtain ⟨h1, h2, -, -, h5, -, h7, h8⟩ := h
  refine ⟨h1, h2, stepRevision_lt _, ?_, by simp [Order.allocate], hnext, ?_, fun j hj => ?_⟩
  · simpa [Order.allocate] using hroom
  · simp only [Order.allocate, List.map_append, List.map_cons, List.map_nil, List.pairwise_append,
      List.pairwise_singleton, true_and, List.mem_map, List.mem_singleton, forall_eq, forall_exists_index, and_imp]
    refine ⟨h7, ?_⟩
    rintro _ j hj rfl
    rw [hnumber]
    exact (h8 j hj).2
  · simp only [Order.allocate] at hj ⊢
    rcases List.mem_append.mp hj with hj | hj
    · have := h8 j hj
      omega
    · rw [List.mem_singleton.mp hj, hnumber]
      omega

theorem newOrder_ok {k : Nat} (h1 : 1 ≤ k) (h2 : k ≤ Config.lastOrderNumber) (n : StationNo) (t : DateTime)
    (q : Option Nat) : (newOrder k n t q).Ok :=
  ⟨h1, h2, by simp [newOrder], Nat.zero_le _, le_rfl, by simp [newOrder, Config.itemNumbersEnd], .nil,
    fun i hi => by cases hi⟩

namespace State.OrderListOk

theorem of_changesOnly {bs : List Part} {s t : State} (h : s.OrderListOk) (hc : ChangesOnly bs s t)
    (hb : Part.orders ∉ bs) : t.OrderListOk := by
  have hpair : (t.orders.orders, t.orders.lastOrderNumber) = (s.orders.orders, s.orders.lastOrderNumber) := hc .orders hb
  obtain ⟨horders, hlast⟩ := Prod.mk.injEq _ _ _ _ ▸ hpair
  unfold State.OrderListOk State.poolUsed State.openOrders State.order
  rw [horders, hlast]
  exact h

variable {s : State} (h : s.OrderListOk)
include h

/-- One clerk's order replaced. -/
theorem setOrder {c : ClerkNo} {x : Option Order} (hok : ∀ o ∈ x, o.Ok)
    (hnumber : ∀ o ∈ x, ∀ d, d ≠ c → ∀ u ∈ s.order d, u.number ≠ o.number)
    (hpool : s.poolUsed + heldItems x ≤ Config.poolSlots + heldItems (s.order c)) : (s.setOrder c x).OrderListOk := by
  obtain ⟨h1, h2, -, h4⟩ := h
  refine ⟨fun d o ho => ?_, fun d e o ho u hu hou => ?_, ?_, h4⟩
  · rw [State.setOrder_order] at ho
    split at ho
    · exact hok o ho
    · exact h1 d o ho
  · rw [State.setOrder_order] at ho hu
    split at ho <;> split at hu
    · next hd he => rw [hd, he]
    · next _ he => exact absurd hou.symm (hnumber o ho e he u hu)
    · next hd _ => exact absurd hou (hnumber u hu d hd o ho)
    · exact h2 d e o ho u hu hou
  · have := (openOrders_setOrder s c x).2
    omega

theorem endOrder (c : ClerkNo) : (s.setOrder c none).OrderListOk := by
  refine h.setOrder (by simp) (by simp) ?_
  obtain ⟨-, -, h3, -⟩ := h
  simp only [heldItems, Option.map_none, Option.getD_none]
  omega

/-- No other clerk's order has an open order's number. -/
theorem number_ne {c : ClerkNo} {o : Order} (ho : s.order c = some o) (d : ClerkNo) (hd : d ≠ c) (u : Order)
    (hu : u ∈ s.order d) : u.number ≠ o.number := by
  obtain ⟨-, h2, -⟩ := h
  exact fun e => hd (h2 d c u hu o ho e)

theorem onOrder {c : ClerkNo} {f : Order → Order} (hf : ∀ o, s.order c = some o → o.Tame (f o)) :
    (s.onOrder c f).OrderListOk := by
  unfold State.onOrder
  cases ho : s.order c with
  | none => exact h.endOrder c
  | some o =>
    have htame := hf o ho
    refine h.setOrder ?_ ?_ ?_
    · rintro _ ⟨⟩
      obtain ⟨h1, -⟩ := h
      exact htame.ok (h1 c o ho)
    · rintro _ ⟨⟩ d hd u hu
      rw [htame.number]
      exact h.number_ne ho d hd u hu
    · obtain ⟨-, -, h3, -⟩ := h
      have := htame.items
      simp only [heldItems, ho, Option.map_some, Option.getD_some]
      omega

theorem allocate {c : ClerkNo} {o : Order} {i : Item} (ho : s.order c = some o) (hnumber : i.number = o.nextItem)
    (hroom : o.items.length < Config.itemsPerOrder) (hnext : o.nextItem < Config.itemNumbersEnd)
    (hpool : s.poolUsed < Config.poolSlots) : (s.onOrder c (·.allocate i)).OrderListOk := by
  rw [State.onOrder_of_some ho]
  refine h.setOrder ?_ ?_ ?_
  · rintro _ ⟨⟩
    obtain ⟨h1, -⟩ := h
    exact (h1 c o ho).allocate hnumber hroom hnext
  · rintro _ ⟨⟩ d hd u hu
    exact h.number_ne ho d hd u hu
  · simp only [heldItems, ho, Option.map_some, Option.getD_some, Order.allocate, List.length_append,
      List.length_singleton]
    omega

theorem openOrder {c : ClerkNo} (ho : s.order c = none) (n : StationNo) : (s.openOrder c n).OrderListOk := by
  obtain ⟨h1, h2, h3, h4⟩ := h
  obtain ⟨j, -, -, hfound, hfree, -⟩ := nextOrderNumber_spec h4 (openOrderCount_le ho)
  have hbounds := orderCandidate_bounds s.orders.lastOrderNumber j
  rw [← hfound] at hbounds
  have hnumbered : State.OrderListOk { s with orders := { s.orders with lastOrderNumber := s.nextOrderNumber } } :=
    ⟨h1, h2, h3, hbounds.2⟩
  refine of_changesOnly (s := State.setOrder _ c _) (hnumbered.setOrder ?_ ?_ ?_) (onTotals_changesOnly _ _) (by simp)
  · rintro _ ⟨⟩
    exact newOrder_ok hbounds.1 hbounds.2 n _ _
  · rintro _ ⟨⟩ d _ u hu hnumber
    exact hfree (List.mem_map.mpr ⟨u, s.mem_openOrders.mpr ⟨d, hu⟩, hnumber⟩)
  · change s.poolUsed + 0 ≤ _
    omega

end State.OrderListOk

/-! ## The bindings -/

/-- Where a station has at most one bound clerk: what unbinding it leaves of each clerk. -/
theorem State.unbindKeep_clerk (s : State)
    (hunique : ∀ c d : ClerkNo, ∀ m ∈ (s.clerk c).bound, (s.clerk d).bound = some m → c = d)
    (n : StationNo) (c : ClerkNo) :
    (s.unbindKeep n).clerk c
      = { s.clerk c with bound := if (s.clerk c).bound = some n then none else (s.clerk c).bound } := by
  unfold State.unbindKeep
  split
  · next hnone => rw [if_neg (s.boundClerk_eq_none.mp hnone c)]
  · next d hd =>
    rw [State.bind, State.setClerk_clerk]
    split
    · next e => rw [e, if_pos (s.boundClerk_bound hd)]
    · next hcd =>
      have hne : (s.clerk c).bound ≠ some n := fun hc => hcd (hunique c d n hc (s.boundClerk_bound hd))
      rw [if_neg hne]

namespace State.BindingsOk

theorem of_changesOnly {bs : List Part} {s t : State} (h : s.BindingsOk) (hc : ChangesOnly bs s t)
    (hb : Part.orders ∉ bs ∧ Part.clerks ∉ bs ∧ Part.roster ∉ bs) : t.BindingsOk := by
  have horders : t.orders.orders = s.orders.orders := congrArg Prod.fst (hc .orders hb.1)
  have hclerks : t.orders.clerks = s.orders.clerks := hc .clerks hb.2.1
  have hroster : t.counter.roster = s.counter.roster := hc .roster hb.2.2
  unfold State.BindingsOk State.order State.clerk State.link State.station
  rw [horders, hclerks, hroster]
  exact h

variable {s : State} (h : s.BindingsOk)
include h

theorem setOrder {c : ClerkNo} {x : Option Order} (hx : ∀ o ∈ x, ∀ n ∈ o.holder, (s.clerk c).bound = some n) :
    (s.setOrder c x).BindingsOk := by
  obtain ⟨h1, h2, h3⟩ := h
  refine ⟨fun d o ho n hn => ?_, h2, h3⟩
  rw [State.setOrder_order] at ho
  rw [State.setOrder_clerk]
  split at ho
  · next e => exact e ▸ hx o ho n hn
  · exact h1 d o ho n hn

theorem onOrder {c : ClerkNo} {f : Order → Order} (hf : ∀ o, s.order c = some o → o.Tame (f o)) :
    (s.onOrder c f).BindingsOk := by
  refine h.setOrder fun u hu n hn => ?_
  obtain ⟨o, ho, rfl⟩ := Option.map_eq_some_iff.mp hu
  rcases (hf o ho).holder with e | e
  · rw [e] at hn
    cases hn
  · obtain ⟨h1, -⟩ := h
    exact h1 c o ho n (e ▸ hn)

/-- A binding ended where the clerk's order is held nowhere. -/
theorem unbind {c : ClerkNo} (ho : ∀ o ∈ s.order c, o.holder = none) : (s.bind c none).BindingsOk := by
  have hbound (d : ClerkNo) (n : StationNo) (hd : ((s.bind c none).clerk d).bound = some n) :
      d ≠ c ∧ (s.clerk d).bound = some n := by
    rw [State.bind, State.setClerk_clerk] at hd
    split at hd
    · cases hd
    · exact ⟨‹_›, hd⟩
  obtain ⟨h1, h2, h3⟩ := h
  refine ⟨fun d o hd n hn => ?_, fun d e n hd he => h2 d e n (hbound d n hd).2 (hbound e n he).2,
    fun d n hd => h3 d n (hbound d n hd).2⟩
  have hkept := h1 d o hd n hn
  by_cases e : d = c
  · subst e
    rw [ho o hd] at hn
    cases hn
  · rwa [State.bind, State.setClerk_clerk, if_neg e]

/-- The bindings as they were, and the orders and the link states with them. -/
theorem of_bound {t : State} (hclerk : ∀ d, (t.clerk d).bound = (s.clerk d).bound) (horder : ∀ d, t.order d = s.order d)
    (hlink : ∀ m, t.link m = s.link m) : t.BindingsOk := by
  obtain ⟨h1, h2, h3⟩ := h
  refine ⟨fun d o hd m hm => ?_, fun d e m hd he => ?_, fun d m hd => ?_⟩
  · rw [hclerk]
    exact h1 d o (horder d ▸ hd) m hm
  · rw [hclerk] at hd he
    exact h2 d e m hd he
  · rw [hclerk] at hd
    rw [hlink]
    exact h3 d m hd

/-- A clerk bound at an ENROLLED station in place of any clerk bound there, where no other clerk's order is held there
and the clerk's own is held there or nowhere. -/
theorem rebound {t : State} {c : ClerkNo} {n : StationNo} (hn : s.link n = .enrolled)
    (hheld : ∀ d, d ≠ c → ∀ o ∈ s.order d, o.holder ≠ some n)
    (hclerk : ∀ d, (t.clerk d).bound
      = if d = c then some n else if (s.clerk d).bound = some n then none else (s.clerk d).bound)
    (horder : ∀ d, d ≠ c → t.order d = s.order d) (hown : ∀ o ∈ t.order c, ∀ m ∈ o.holder, m = n)
    (hlink : ∀ m, t.link m = s.link m) : t.BindingsOk := by
  obtain ⟨h1, h2, h3⟩ := h
  have hbound (d : ClerkNo) (m : StationNo) (hd : (t.clerk d).bound = some m) :
      (d = c ∧ m = n) ∨ (d ≠ c ∧ m ≠ n ∧ (s.clerk d).bound = some m) := by
    rw [hclerk] at hd
    split_ifs at hd with hdc hdn
    · exact .inl ⟨hdc, (Option.some_injective _ hd).symm⟩
    · exact .inr ⟨hdc, fun e => hdn (e ▸ hd), hd⟩
  refine ⟨fun d o hd m hm => ?_, fun d e m hd he => ?_, fun d m hd => ?_⟩
  · rw [hclerk]
    split_ifs with hdc hdn
    · subst hdc
      rw [hown o hd m hm]
    · rw [horder d hdc] at hd
      have hmn := h1 d o hd m hm
      rw [hdn] at hmn
      rw [Option.some_injective _ hmn] at hheld
      exact absurd hm (hheld d hdc o hd)
    · rw [horder d hdc] at hd
      exact h1 d o hd m hm
  · rcases hbound d m hd with ⟨hdc, hmn⟩ | ⟨-, hmn, hd⟩ <;> rcases hbound e m he with ⟨hec, hmn'⟩ | ⟨-, hmn', he⟩
    · rw [hdc, hec]
    · exact absurd hmn hmn'
    · exact absurd hmn' hmn
    · exact h2 d e m hd he
  · rw [hlink]
    rcases hbound d m hd with ⟨-, hmn⟩ | ⟨-, -, hd⟩
    · exact hmn ▸ hn
    · exact h3 d m hd

theorem setStation {n : StationNo} {x : RosterEntry}
    (hx : x.link = .enrolled ∨ ∀ d, (s.clerk d).bound ≠ some n) : (s.setStation n x).BindingsOk := by
  obtain ⟨h1, h2, h3⟩ := h
  refine ⟨h1, h2, fun c m hm => ?_⟩
  rw [State.setStation_link]
  split
  · next e =>
    rcases hx with hx | hx
    · exact hx
    · exact absurd (e ▸ hm) (hx c)
  · exact h3 c m hm

theorem unbindKeep {n : StationNo} (ho : ∀ c, s.boundClerk n = some c → ∀ o ∈ s.order c, o.holder = none) :
    (s.unbindKeep n).BindingsOk := by
  unfold State.unbindKeep
  split
  · exact h
  · next c hc => exact h.unbind (ho c hc)

/-- What unbinding a station's clerk leaves of each clerk. -/
theorem unbindKeep_clerk (n : StationNo) (c : ClerkNo) :
    (s.unbindKeep n).clerk c
      = { s.clerk c with bound := if (s.clerk c).bound = some n then none else (s.clerk c).bound } := by
  obtain ⟨-, hunique, -⟩ := h
  exact s.unbindKeep_clerk hunique n c

/-- After a station's clerk is unbound no clerk is bound there. -/
theorem unbindKeep_bound (n : StationNo) (c : ClerkNo) : ((s.unbindKeep n).clerk c).bound ≠ some n := by
  rw [h.unbindKeep_clerk]
  dsimp only
  split
  · simp
  · assumption

/-- No clerk is bound at a station that is not ENROLLED. -/
theorem unbound_of_link {n : StationNo} (hn : s.link n ≠ .enrolled) (c : ClerkNo) : (s.clerk c).bound ≠ some n := by
  obtain ⟨-, -, h3⟩ := h
  exact fun hc => hn (h3 c n hc)

/-- Once an order held by a station has been parked, the station holds none. -/
theorem parkHeld_held (n : StationNo) (c : ClerkNo) (o : Order) (ho : o ∈ (s.parkHeld n).order c) :
    o.holder ≠ some n := by
  unfold State.parkHeld at ho
  split at ho
  · next hnone => exact s.holding_eq_none.mp hnone c o ho
  · next d hd =>
    obtain ⟨u, hu, hheld⟩ := s.holding_held hd
    rw [State.park, State.onOrder, State.setOrder_order] at ho
    split at ho
    · rw [hu] at ho
      cases ho
      simp
    · next hcd =>
      obtain ⟨h1, h2, -⟩ := h
      exact fun hn => hcd (h2 c d n (h1 c o ho n hn) (h1 d u hu n hheld))

/-- A clerk's order is held where the clerk is bound, or nowhere. -/
theorem holder_none {c : ClerkNo} {n : StationNo} (hc : (s.clerk c).bound = some n ∨ (s.clerk c).bound = none)
    {o : Order} (ho : s.order c = some o) (hn : o.holder ≠ some n) : o.holder = none := by
  obtain ⟨h1, -⟩ := h
  cases hm : o.holder with
  | none => rfl
  | some m =>
    have hbound := h1 c o ho m hm
    rcases hc with hc | hc
    · exact absurd (hm.trans (hbound.symm.trans hc)) hn
    · rw [hc] at hbound
      cases hbound

end State.BindingsOk

theorem releaseServing_queue (s : State) (c : ClerkNo) : ∃ q, s.releaseServing c = { s with queue := q } := by
  unfold State.releaseServing
  split
  · exact ⟨s.queue, rfl⟩
  · dsimp only
    split
    · exact ⟨_, rfl⟩
    · exact ⟨_, rfl⟩

/-- Unbinding with the release of the serving number changes what unbinding alone does, and the queue. -/
theorem unbindRelease_queue (s : State) (n : StationNo) : ∃ q, s.unbindRelease n = { s.unbindKeep n with queue := q } := by
  unfold State.unbindRelease State.unbindKeep
  split
  · exact ⟨s.queue, rfl⟩
  · exact releaseServing_queue _ _

namespace State.BindingsOk

theorem unbindRelease {s : State} (h : s.BindingsOk) {n : StationNo}
    (ho : ∀ c, s.boundClerk n = some c → ∀ o ∈ s.order c, o.holder = none) : (s.unbindRelease n).BindingsOk := by
  obtain ⟨q, hq⟩ := unbindRelease_queue s n
  rw [hq]
  exact h.unbindKeep ho

theorem unbindRelease_bound {s : State} (h : s.BindingsOk) (n : StationNo) (c : ClerkNo) :
    ((s.unbindRelease n).clerk c).bound ≠ some n := by
  obtain ⟨q, hq⟩ := unbindRelease_queue s n
  rw [hq]
  exact h.unbindKeep_bound n c

end State.BindingsOk

/-! ## The count of open orders -/

namespace State.CountOk

theorem of_changesOnly {bs : List Part} {s t : State} (h : s.CountOk) (hc : ChangesOnly bs s t)
    (hb : Part.orders ∉ bs ∧ Part.openOrders ∉ bs ∧ Part.mode ∉ bs) : t.CountOk := by
  have horders : t.orders.orders = s.orders.orders := congrArg Prod.fst (hc .orders hb.1)
  have hcount : t.totals.openOrders = s.totals.openOrders := hc .openOrders hb.2.1
  have hmode : t.counter.state = s.counter.state := hc .mode hb.2.2
  unfold State.CountOk State.openOrderCount State.openOrders State.trading
  rw [horders, hcount, hmode]
  exact h

variable {s : State} (h : s.CountOk)
include h

theorem onOrder (c : ClerkNo) (f : Order → Order) : (s.onOrder c f).CountOk := by
  have hcount : (s.onOrder c f).openOrderCount = s.openOrderCount := by
    have hset := (openOrders_setOrder s c ((s.order c).map f)).1
    have hlength : ((s.order c).map f).toList.length = (s.order c).toList.length := by cases s.order c <;> rfl
    rw [hlength] at hset
    exact Nat.add_right_cancel hset
  unfold State.CountOk
  rw [hcount]
  exact h

/-- The counter is trading while an order is open. -/
theorem trading_of_order {c : ClerkNo} {o : Order} (ho : s.order c = some o) : s.trading = true := by
  by_contra ht
  have hnone := openOrderCount_eq_zero.mp (h.2 (by simpa using ht)) c
  rw [hnone] at ho
  cases ho

theorem openOrder {c : ClerkNo} (ho : s.order c = none) (ht : s.trading = true) (n : StationNo) :
    (s.openOrder c n).CountOk := by
  have hset : (s.openOrder c n).openOrderCount = s.openOrderCount + 1 := by
    have := (openOrders_setOrder s c (some (newOrder s.nextOrderNumber n s.clock ((s.serving c).map (·.number))))).1
    rw [ho] at this
    exact this
  have htrading : (s.openOrder c n).trading = true := ht
  refine ⟨?_, fun hidle => by rw [htrading] at hidle; cases hidle⟩
  rw [hset, ← h.1]
  rfl

/-- An order ended and counted off. -/
theorem ended {t : State} {c : ClerkNo} {o : Order} (ho : s.order c = some o)
    (hcount : t.totals.openOrders = s.totals.openOrders - 1) (horders : t.orders.orders = s.orders.orders)
    (hmode : t.counter.state = s.counter.state) : (t.setOrder c none).CountOk := by
  have hset : (t.setOrder c none).openOrderCount + 1 = s.openOrderCount := by
    have := (openOrders_setOrder t c none).1
    unfold State.openOrderCount State.openOrders State.order at *
    rw [horders, ho] at this
    exact this
  have htrading : (t.setOrder c none).trading = true := by
    have := h.trading_of_order ho
    unfold State.trading at *
    change (t.counter.state == .opened || t.counter.state == .draining) = true
    rwa [hmode]
  refine ⟨?_, fun hidle => by rw [htrading] at hidle; cases hidle⟩
  change t.totals.openOrders = _
  rw [hcount, h.1]
  omega

/-- The counter enters a state, outside trading with no order open. -/
theorem enterState {m : CounterState} (hidle : m = .loading ∨ m = .closed → s.openOrderCount = 0) :
    (s.enterState m).CountOk := by
  have hchange := enterState_changesOnly s m
  have horders : (s.enterState m).orders.orders = s.orders.orders := congrArg Prod.fst (hchange .orders (by simp))
  have hcount : (s.enterState m).totals.openOrders = s.totals.openOrders := hchange .openOrders (by simp)
  have hsame : (s.enterState m).openOrderCount = s.openOrderCount := by
    unfold State.openOrderCount State.openOrders
    rw [horders]
  unfold State.CountOk State.trading
  rw [hsame, hcount, State.enterState_state]
  refine ⟨h.1, fun hm => hidle ?_⟩
  cases m <;> simp_all

theorem reportClosing : s.reportClosing.CountOk := by
  unfold State.reportClosing
  split
  · next hdone => exact h.enterState fun _ => hdone.2
  · exact h

end State.CountOk

end Sys2Proof.Machine
end

section
/-! The queue of commands, events with nothing to do, and the lines (08 sections 8.1 and 8.3). -/

open Sys2Proof Sys2Proof.Machine

/-- Settles O1: the two branches of a step. -/
theorem frontCommandRuns : Obligations.FrontCommandRuns := by
  constructor
  · intro c cs s h
    rw [step, h]
  · intro s h
    rw [step, h]

namespace Sys2Proof.Machine

/-! ## Events with nothing to do -/

/-- A request that does not wait is not taken. -/
theorem answer_of_not_waits {s : State} {p : Port} {k : RequestKind} (act : List Byte → State → Answer)
    (h : ∀ tag payload rest, ¬Waits s p k tag payload rest) : answer p k act s = .next s := by
  unfold answer
  cases htake : s.takeRequest p k with
  | none => rfl
  | some x =>
    obtain ⟨rest, hwaits, -, -⟩ := takeRequest_eq_some.mp htake
    exact absurd hwaits (h _ _ _)

theorem unlessReset_low {s : State} (f : State → State) (h : s.resetLow = true) : unlessReset s f = .next s :=
  if_pos h

theorem not_waits_of_resetLow {s : State} {p : Port} {k : RequestKind} (h : s.resetLow = true) (tag : Byte)
    (payload : List Byte) (rest : List Request) : ¬Waits s p k tag payload rest := fun hwaits => by
  rw [hwaits.1] at h
  cases h

/-- While RESET is low only the lines, the clock and the battery have an effect. -/
theorem exec_of_resetLow {s : State} {i : Instr} (h : s.resetLow = true)
    (hi : i ∉ [.resetAssert, .resetRelease, .loadHoldRelease, .loadHoldAssert, .clockTick, .batteryFailure]) :
    exec i s = .next s := by
  cases hrequest : requestOf i with
  | some x => exact (exec_of_requestOf hrequest s).trans (answer_of_not_waits _ (not_waits_of_resetLow h))
  | none =>
    cases i with
    | resetAssert | resetRelease | loadHoldRelease | loadHoldAssert | clockTick | batteryFailure => simp at hi
    | frameArrival | gapLimitExpiry | frameSent | sample | printDone | printFail | linkReset | printDeadlineExpiry
    | silenceExpiry | beatExpiry | batchActivation | sequenceTimerExpiry | inactivityExpiry | characterReceived =>
      exact if_pos h
    | _ => cases hrequest

end Sys2Proof.Machine

/-- Settles O2: a request not waiting is not taken, and every other event first asks for RESET. -/
theorem nothingToDoChangesNothing : Obligations.NothingToDoChangesNothing := by
  refine ⟨fun s i p k hi hwaits => ?_, fun s i hlow hi => exec_of_resetLow hlow hi, fun s hhigh => ?_,
    fun s p hhigh hfree => ?_⟩
  · exact (exec_of_requestOf hi s).trans (answer_of_not_waits _ hwaits)
  · exact if_neg (by simp [hhigh])
  · refine (unlessReset_high (·.frameSent p) hhigh).trans ?_
    simp only [State.frameSent, hfree]

namespace Sys2Proof.Machine

/-! ## The lines -/

theorem Table.fill_each {n : Nat} {α : Type} {f : α → α} {x : α} (h : f x = x) : (Table.fill n x).each f = Table.fill n x :=
  Table.ext_get fun i => by simp [h]

@[simp] theorem State.enterReset_port (s : State) (p : Port) : s.enterReset.port p = emptyPort := by
  simp [State.enterReset, State.port]

@[simp] theorem State.enterReset_station (s : State) (n : StationNo) :
    s.enterReset.station n = { s.station n with silence := none } := by
  simp [State.enterReset, State.station]

@[simp] theorem State.enterReset_printer (s : State) (n : StationNo) :
    s.enterReset.printer n = { s.printer n with slot := (s.printer n).slot.map fun x => { x with deadline := none } } := by
  simp [State.enterReset, State.printer, LabelStation.stopped]

/-- LOAD_HOLD released outside RESET. -/
theorem exec_loadHoldRelease_high {s : State} (h : s.resetLow = false) :
    exec .loadHoldRelease s
      = .next (if s.counter.state = .loading then ({ s with loadHold := false } : State).enterState .closed
          else { s with loadHold := false }).startAll :=
  unlessReset_high (s := { s with loadHold := false }) _ h

end Sys2Proof.Machine

/-- Settles O3: what each line's event writes. -/
theorem resetAndLoadHoldLines : Obligations.ResetAndLoadHoldLines := by
  refine ⟨fun s => ⟨s.enterReset, rfl, rfl, s.enterReset_port, rfl, rfl,
    fun n => ⟨s.enterReset_station n, s.enterReset_printer n⟩, rfl, rfl, rfl⟩,
    fun s hhigh hloading => ?_, fun s hhigh hloading => ?_, fun s hlow => ?_, fun s => rfl, fun s hlow => ?_,
    fun s hhigh => ?_⟩
  · rw [exec_loadHoldRelease_high hhigh, if_pos hloading]
    rfl
  · rw [exec_loadHoldRelease_high hhigh, if_neg hloading]
  · exact unlessReset_low (s := { s with loadHold := false }) _ hlow
  · exact congrArg _ (if_pos hlow)
  · exact congrArg _ (if_neg (by simp [hhigh]))

namespace Sys2Proof.Machine

/-! ## Reset release -/

theorem clearedContexts_of_unset :
    (Vector.ofFn fun n => clearedContext ((Table.fill 12 unsetCal).get n).isSet)
      = Table.fill 12 (clearedContext false) :=
  Table.ext_get fun i => by simp [unsetCal]

theorem emptyTable_restartGenerations : emptyTable.restartGenerations = emptyTable := by
  unfold PluTable.restartGenerations PluTable.mapRecords emptyTable
  rw [Table.fill_each rfl]

theorem blankClerks_powerOn (u : OrderManager) :
    OrderManager.powerOn { u with clerks := Table.fill 32 blankClerk }
      = ⟨Table.fill 32 blankClerk, Table.fill 32 none, 0⟩ := by
  unfold OrderManager.powerOn
  rw [Table.fill_each rfl]

/-- The volatile state after a format is the machine's right after reset. -/
theorem initVolatile_format (s : State) (hlow : s.resetLow = false) :
    s.format.initVolatile
      = { State.reset with
          pending := s.pending, loadHold := s.loadHold, notices := noticesAtPowerOn
          counter := { State.reset.counter with state := s.counter.state, beat := s.counter.beat } } := by
  unfold State.initVolatile State.format State.reset
  simp only [State.mk.injEq, hlow, true_and]
  refine ⟨clearedContexts_of_unset, emptyTable_restartGenerations, rfl, blankClerks_powerOn _, Table.ext_get fun i => ?_, rfl,
    ?_⟩
  · simp
  · rfl

/-- Power-on of a store whose marker is wrong, up to the entry into a state. -/
theorem powerOn_of_wrong_marker {s : State} (hmarker : s.markerOk = false) :
    s.powerOn = { s.format.initVolatile.sampleLoadHold with
      counter := { s.format.initVolatile.sampleLoadHold.counter with beat := some Config.beatMs } } := by
  have hcheck : s.checkMarker = s.format := by rw [State.checkMarker, hmarker, if_neg Bool.false_ne_true]
  have hlost : s.format.initVolatile.countLost = s.format.initVolatile := rfl
  have hday : s.format.initVolatile.dayCheck = s.format.initVolatile := if_pos rfl
  unfold State.powerOn
  rw [hcheck, hlost, hday]

theorem exec_resetRelease_low {s : State} (h : s.resetLow = true) :
    exec .resetRelease s = .next ({ s with resetLow := false } : State).powerOn.startAll := if_pos h

theorem State.dayCheck_eq (s : State) :
    s.dayCheck =
      { s with
        counter := { s.counter with lastDate := s.counter.clock.date }
        lock :=
          if s.counter.clock.date = s.counter.lastDate then s.lock
          else { s.lock with failures := 0, session := s.lock.session.afterDay } } := by
  unfold State.dayCheck State.changeDay
  split
  · next h => rw [h]
  · rfl

theorem State.countLost_eq (s : State) :
    s.countLost =
      { s with
        totals :=
          { s.totals with
            openOrders := 0
            counter :=
              if s.totals.openOrders = 0 then s.totals.counter
              else { s.totals.counter with ordersLost := addCount s.totals.counter.ordersLost s.totals.openOrders } }
        notices :=
          if s.totals.openOrders = 0 then s.notices
          else s.notices.raise s.clock .ordersLost { variant := .count s.totals.openOrders } } := by
  unfold State.countLost
  dsimp only
  split
  · next h => rw [← h]
  · rfl

/-- The notice unit after its first notice, with every class enabled. -/
theorem noticesAtPowerOn_raise (t : DateTime) (m : CounterState) :
    noticesAtPowerOn.raise t .counterState { variant := .state m }
      = ⟨0x2000, allClasses, [⟨.counterState, t, none, none, none, none, .state m⟩]⟩ := by
  have hflag : flagOf allClasses .counterState = true := by decide
  have hset : setFlags 0#16 NoticeClass.counterState.mask = 0x2000#16 := by decide
  simp [NoticeUnit.raise, noticesAtPowerOn, hflag, hset, Config.noticeQueueRecords]

/-- The notice unit after both notices of a power-on with orders lost. -/
theorem noticesAtPowerOn_raise_lost (t : DateTime) (k : Nat) (m : CounterState) :
    (noticesAtPowerOn.raise t .ordersLost { variant := .count k }).raise t .counterState { variant := .state m }
      = ⟨0x2400, allClasses,
          [⟨.ordersLost, t, none, none, none, none, .count k⟩, ⟨.counterState, t, none, none, none, none, .state m⟩]⟩ := by
  have hlost : flagOf allClasses .ordersLost = true := by decide
  have hstate : flagOf allClasses .counterState = true := by decide
  have hset : setFlags (setFlags 0#16 NoticeClass.ordersLost.mask) NoticeClass.counterState.mask = 0x2400#16 := by decide
  simp [NoticeUnit.raise, noticesAtPowerOn, hlost, hstate, hset, Config.noticeQueueRecords]

/-- The volatile state of a hub that is powered on has no lane to start. -/
theorem startAll_of_empty {s : State} (h : s.ports = Table.fill 15 emptyPort) : s.startAll = s := by
  unfold State.startAll
  rw [h, Table.fill_each rfl, ← h]

end Sys2Proof.Machine

/-- Settles O4: each step of the power-on handling in turn. -/
theorem resetReleaseRestartsHub : Obligations.ResetReleaseRestartsHub := by
  refine ⟨fun s hlow hmarker => ?_, fun s hlow hmarker => ?_⟩
  · rw [exec_resetRelease_low hlow, startAll_of_empty (powerOn_ports _), powerOn_of_wrong_marker (s := { s with resetLow := false }) hmarker,
      initVolatile_format _ rfl, State.sampleLoadHold, State.enterState_eq]
    constructor
    · intro hhold
      simp only [State.raise, hhold, noticesAtPowerOn_raise, State.clock]
      rfl
    · intro hhold
      simp only [State.raise, hhold, noticesAtPowerOn_raise, State.clock]
      rfl
  · intro sameDay entered lost
    rw [exec_resetRelease_low hlow, startAll_of_empty (powerOn_ports _)]
    refine ⟨_, rfl, ?_⟩
    have hcheck : ({ s with resetLow := false } : State).checkMarker = { s with resetLow := false } := if_pos hmarker
    unfold State.powerOn State.sampleLoadHold
    rw [hcheck, State.dayCheck_eq, State.countLost_eq, State.enterState_eq]
    dsimp only
    refine ⟨rfl, rfl, rfl, hmarker, ?_, ?_, ?_, rfl, rfl, ?_, rfl, ?_, rfl, ?_, ?_⟩
    · intro p
      exact Table.get_fill _ _
    · rfl
    · intro n
      simp [State.raise, State.initVolatile, State.context, State.printer, State.calibration]
    · intro c
      simp [State.raise, State.initVolatile, State.clerk, State.order, OrderManager.powerOn]
    · have hclosed (q : QueueUnit) : q.powerOn.closed = q.powerOn := rfl
      simp only [State.raise, State.initVolatile, hclosed, ite_self]
      rfl
    · by_cases hday : s.counter.clock.date = s.counter.lastDate
      · simp only [State.raise, State.initVolatile, MetrologyLock.powerOn, sameDay, hday, if_true, true_and]
        rfl
      · have hidle : s.lock.powerOn.session.afterDay = .idle := by
          unfold MetrologyLock.powerOn
          dsimp only
          split <;> rfl
        simp only [State.raise, State.initVolatile, sameDay, hday, if_false, false_and, hidle]
        rfl
    · by_cases hlost : s.totals.openOrders = 0
      · simp only [State.raise, State.initVolatile, hlost, lost, if_true, noticesAtPowerOn_raise]
        rfl
      · simp only [State.raise, State.initVolatile, hlost, lost, if_false, State.clock, noticesAtPowerOn_raise_lost]
        rfl
end

section
/-! The receive hunter and the sorting of frames (10 sections 10.1 and 10.2). -/

open Sys2Proof Sys2Proof.Machine

namespace Sys2Proof.Machine

/-! ## The check (R174) -/

theorem crcBit_eq : crcBit = fun (r : BitVec 16) (bit : Bool) => if r.getLsbD 15 = bit then r <<< 1 else (r <<< 1) ^^^ 0x1021 := by
  funext r bit
  simp only [crcBit, bne_iff_ne, ne_eq, ite_not]

/-- One byte fed in, bit by bit. -/
theorem crcByte_eq (r : BitVec 16) (b : Byte) :
    crcByte r b =
      [b.getLsbD 7, b.getLsbD 6, b.getLsbD 5, b.getLsbD 4, b.getLsbD 3, b.getLsbD 2, b.getLsbD 1, b.getLsbD 0].foldl
        crcBit r := rfl

end Sys2Proof.Machine

/-- Settles O5: the register is folded over the bytes. -/
theorem checkIsAsComputed : Obligations.CheckIsAsComputed := by
  refine ⟨by decide +kernel, rfl, fun bs b => ?_, fun bs cs h ds => ?_⟩
  · rw [checkOf_append, List.foldl_cons, List.foldl_nil, crcByte_eq, crcBit_eq]
  · rw [checkOf_append, checkOf_append, h]

namespace Sys2Proof.Machine

/-! ## The search (R175) -/

/-- A whole frame behind its sync byte is accepted when its check is right and discarded when it is not. -/
theorem examine_frame {payload : List Byte} (h : payload.length ≤ 240) (kind tag : Byte) (check : BitVec 16)
    (more : List Byte) :
    examine (checkedBytes kind tag payload ++ be 2 check.toNat ++ more)
      = if check = checkOf (checkedBytes kind tag payload) then .accepted ⟨kind, tag, payload⟩ more else .discard := by
  have hlen : (BitVec.ofNat 8 payload.length).toNat = payload.length := by simp; omega
  have hmax : ¬Config.maxPayload < payload.length := by simpa [Config.maxPayload] using h
  have hbody : ¬(payload ++ be 2 check.toNat ++ more).length < payload.length + 2 := by
    simp only [List.length_append, length_be]
    omega
  have htake : (payload ++ be 2 check.toNat ++ more).take payload.length = payload := by simp
  have hdrop : (payload ++ be 2 check.toNat ++ more).drop (payload.length + 2) = more := by
    rw [List.drop_left' (by simp)]
  have hcheck : natAt (payload ++ be 2 check.toNat ++ more) payload.length 2 = check.toNat := by
    rw [List.append_assoc, natAt_append _ _ _ _ le_rfl, Nat.sub_self, natAt_be _ _ _ check.isLt]
  have hbytes : checkedBytes kind tag payload ++ be 2 check.toNat ++ more
      = kind :: tag :: BitVec.ofNat 8 payload.length :: (payload ++ be 2 check.toNat ++ more) := by simp [checkedBytes]
  rw [hbytes, examine, hlen, if_neg hmax, if_neg hbody, htake, hdrop, hcheck]
  simp only [BitVec.toNat_inj, eq_comm]

/-- A frame with a right check is found whole, and the search goes on behind it. -/
theorem hunt_frame_append {payload : List Byte} (h : payload.length ≤ 240) (kind tag : Byte) (more : List Byte) :
    hunt (frameBytes kind tag payload (checkOf (checkedBytes kind tag payload)) ++ more)
      = (⟨kind, tag, payload⟩ :: (hunt more).1, (hunt more).2) := by
  rw [frameBytes, List.cons_append, hunt_cons_sync, examine_frame h, if_pos rfl]

theorem hunt_frame {payload : List Byte} (h : payload.length ≤ 240) (kind tag : Byte) :
    hunt (frameBytes kind tag payload (checkOf (checkedBytes kind tag payload))) = ([⟨kind, tag, payload⟩], none) := by
  have := hunt_frame_append h kind tag []
  rwa [List.append_nil, hunt_nil] at this

/-- Bytes without a sync byte are dropped. -/
theorem hunt_of_no_sync {bs : List Byte} (h : ∀ b ∈ bs, b ≠ syncByte) : hunt bs = ([], none) := by
  induction bs with
  | nil => rfl
  | cons b bs ih =>
    rw [hunt_cons_other bs (h b (by simp))]
    exact ih fun c hc => h c (by simp [hc])

/-- A frame with a wrong check is dropped with its sync byte; the search goes on in its other bytes. -/
theorem hunt_wrong_frame {payload : List Byte} (h : payload.length ≤ 240) (kind tag : Byte) {check : BitVec 16}
    (hcheck : check ≠ checkOf (checkedBytes kind tag payload)) :
    hunt (frameBytes kind tag payload check) = hunt (checkedBytes kind tag payload ++ be 2 check.toNat) := by
  have := examine_frame h kind tag check []
  rw [List.append_nil, if_neg hcheck] at this
  rw [frameBytes, hunt_cons_sync, this]

/-- What a decided examination comes to with more bytes behind. -/
def Found.followedBy (more : List Byte) : Found → Found
  | .incomplete => .incomplete
  | .discard => .discard
  | .accepted f rest => .accepted f (rest ++ more)

/-- More bytes do not change an examination that has decided. -/
theorem examine_append {bs : List Byte} (ys : List Byte) (h : examine bs ≠ .incomplete) :
    examine (bs ++ ys) = (examine bs).followedBy ys := by
  match bs, h with
  | kind :: tag :: len :: body, h =>
    simp only [List.cons_append, examine] at h ⊢
    by_cases hmax : Config.maxPayload < len.toNat
    · rw [if_pos hmax, if_pos hmax]
      rfl
    · rw [if_neg hmax] at h ⊢
      rw [if_neg hmax]
      by_cases hbody : body.length < len.toNat + 2
      · exact absurd (if_pos hbody) h
      · have hmore : ¬(body ++ ys).length < len.toNat + 2 := by simp; omega
        rw [if_neg hbody, if_neg hmore, List.take_append_of_le_length (by omega),
          natAt_append_left _ _ _ _ (by omega), List.drop_append_of_le_length (by omega)]
        split
        · rfl
        · rfl

/-- The search does not depend on how the bytes are cut. -/
theorem hunt_append (xs ys : List Byte) :
    hunt (xs ++ ys)
      = ((hunt xs).1 ++ (hunt (undecided (hunt xs).2 ++ ys)).1, (hunt (undecided (hunt xs).2 ++ ys)).2) := by
  induction hn : xs.length using Nat.strong_induction_on generalizing xs with
  | _ k ih =>
    subst hn
    match xs, ih with
    | [], _ => rfl
    | b :: bs, ih =>
      have hrest := ih bs.length (by simp) bs rfl
      by_cases hb : b = syncByte
      · subst hb
        cases hfound : examine bs with
        | incomplete => simp [hunt_cons_sync bs, hfound, undecided]
        | discard =>
          have hmore := examine_append ys (by simp [hfound] : examine bs ≠ .incomplete)
          simp only [List.cons_append, hunt_cons_sync, hmore, hfound, Found.followedBy, hrest]
        | accepted f rest =>
          have hmore := examine_append ys (by simp [hfound] : examine bs ≠ .incomplete)
          have hshort := (examine_accepted hfound).1
          have htail := ih rest.length (by simp; omega) rest rfl
          simp only [List.cons_append, hunt_cons_sync, hmore, hfound, Found.followedBy, htail]
      · simp only [List.cons_append, hunt_cons_other _ hb, hrest]

end Sys2Proof.Machine

/-- Settles O8: a whole frame is examined once, and the search by induction on the bytes. -/
theorem searchFindsWholeFrames : Obligations.SearchFindsWholeFrames := by
  refine ⟨fun kind tag payload h => ⟨?_, hunt_frame h kind tag, hunt_frame_append h kind tag⟩, hunt_append⟩
  simp [frameBytes]

namespace Sys2Proof.Machine

/-! ## The hunter of a port -/

/-- The hunter's state and its gap timer, which runs while a frame is partial. -/
theorem State.setHunter_eq (s : State) (p : Port) (h : Option (List Byte)) :
    s.setHunter p h = s.onPort p fun x => { x with hunter := h, gap := if h = none then none else some 5 } := by
  cases h <;> rfl

theorem State.onPort_onPort (s : State) (p : Port) (f g : LinkPort → LinkPort) :
    (s.onPort p f).onPort p g = s.onPort p fun x => g (f x) := by
  simp [State.onPort, State.setPort, State.port]

theorem State.onPort_eq_self {s : State} {p : Port} {f : LinkPort → LinkPort} (h : f (s.port p) = s.port p) :
    s.onPort p f = s := by
  rw [State.onPort, h, State.setPort, State.port, Table.put_get]

/-- A hunter that is HUNTING stays as it is. -/
theorem State.setHunter_none {s : State} {p : Port} (hhunter : (s.port p).hunter = none) (hgap : (s.port p).gap = none) :
    s.setHunter p none = s := by
  rw [State.setHunter_eq]
  refine State.onPort_eq_self ?_
  rw [if_pos rfl, ← hhunter, ← hgap]

theorem exec_characterReceived {s : State} (hhigh : s.resetLow = false) (p : Port) (b : Byte) :
    exec (.characterReceived p b) s = .next (s.takeHunt p (hunt (undecided (s.port p).hunter ++ [b]))).startAll :=
  unlessReset_high (·.receive p [b]) hhigh

theorem exec_frameArrival {s : State} (hhigh : s.resetLow = false) (p : Port) (kind tag : Byte) (payload : List Byte)
    (check : BitVec 16) :
    exec (.frameArrival p kind tag payload check) s
      = .next (s.takeHunt p (hunt (undecided (s.port p).hunter ++ frameBytes kind tag payload check))).startAll :=
  unlessReset_high (·.receive p (frameBytes kind tag payload check)) hhigh

theorem exec_gapLimitExpiry {s : State} (hhigh : s.resetLow = false) (p : Port) :
    exec (.gapLimitExpiry p) s = .next (s.gapExpired p).startAll := unlessReset_high (·.gapExpired p) hhigh

/-- At the gap limit a partial frame is searched behind its sync byte. -/
theorem State.gapExpired_of_held {s : State} {p : Port} {held : List Byte} (hheld : (s.port p).hunter = some held)
    (hgap : (s.port p).gap ≠ none) : s.gapExpired p = s.takeHunt p (hunt held) := by
  rw [State.gapExpired, hheld]
  exact if_pos (Option.isSome_iff_ne_none.mpr hgap)

theorem State.gapExpired_of_idle {s : State} {p : Port} (h : (s.port p).gap = none ∨ (s.port p).hunter = none) :
    s.gapExpired p = s := by
  unfold State.gapExpired
  split
  · next held hheld =>
    rcases h with h | h
    · rw [h]
      rfl
    · rw [hheld] at h
      cases h
  · rfl

end Sys2Proof.Machine

/-- Settles O9: what the search finds in each kind of bytes. -/
theorem charactersAndGap : Obligations.CharactersAndGap := by
  intro s p hhigh found
  have hfound (r : List Request × Option (List Byte)) : Host.Outcome.next (s.takeHunt p r).startAll = found r := by
    rw [State.takeHunt, State.setHunter_eq]
  have hpartial (held : List Byte) (h : examine held = .incomplete) : hunt (syncByte :: held) = ([], some held) := by
    rw [hunt_cons_sync, h]
  have hchar (b : Byte) := (exec_characterReceived hhigh p b).trans (hfound _)
  refine ⟨hchar, fun kind tag payload check => (exec_frameArrival hhigh p kind tag payload check).trans (hfound _),
    fun held hheld hgap => ?_, fun hidle => ?_, fun b hhunter hgap hb => ?_, fun hhunter => ?_,
    fun held b hheld hincomplete => ?_, fun held b kind tag payload hheld hpayload hframe => ?_,
    fun held hheld hgap hno => ?_⟩
  · rw [exec_gapLimitExpiry hhigh, State.gapExpired_of_held hheld hgap]
    exact hfound _
  · rw [exec_gapLimitExpiry hhigh, State.gapExpired_of_idle hidle]
  · rw [exec_characterReceived hhigh, hhunter]
    have hdropped : hunt [b] = ([], none) := hunt_of_no_sync (by simpa [syncByte] using hb)
    rw [undecided, List.nil_append, hdropped]
    exact congrArg (fun t : State => Host.Outcome.next t.startAll) (State.setHunter_none hhunter hgap)
  · rw [hchar, hhunter]
    have hsync : hunt [0xA5] = ([], some []) := hpartial [] rfl
    rw [undecided, List.nil_append, hsync]
    rfl
  · rw [hchar, hheld]
    rw [undecided, List.cons_append, hpartial _ hincomplete]
    rfl
  · rw [exec_characterReceived hhigh, exec_frameArrival (by simpa using hhigh), hheld, undecided, List.cons_append, hframe]
    simp only [State.onPort_port_same, undecided, List.nil_append]
    rw [State.takeHunt, State.takeHunt, State.setHunter_eq, State.setHunter_eq, State.onPort_onPort]
    rfl
  · rw [exec_gapLimitExpiry hhigh, State.gapExpired_of_held hheld hgap, hunt_of_no_sync hno, hfound]
    rfl


end

section
/-! Frames at arrival and at the end of their sending (10 sections 10.1 and 10.2). -/

open Sys2Proof Sys2Proof.Machine

namespace Sys2Proof.Machine

/-! ## Sorting (R176) -/

theorem classify_request (k : RequestKind) : classify k.code = .request k := by cases k <;> rfl

theorem classify_report (k : ReportKind) : classify k.code = .report k := by cases k <;> rfl

theorem classify_of_unknown : ∀ b : Byte, kindInTable b = false → classify b = .unknown := by decide +kernel

theorem classify_of_hubKind : ∀ b : Byte, hubKind b = true → classify b = .hubOnly := by decide +kernel

@[simp] theorem goodFrame_port (s : State) (p p' : Port) : (s.goodFrame p).port p' = s.port p' := by
  have h : (s.goodFrame p).ports = s.ports := goodFrame_changesOnly s p .ports (by simp)
  rw [State.port, State.port, h]

/-- A good frame that comes whole at a hunter in HUNTING is accepted. -/
theorem exec_goodFrame {s : State} {p : Port} (h : Hunting s p) {payload : List Byte} (hlen : payload.length ≤ 240)
    (kind tag : Byte) :
    exec (.frameArrival p kind tag payload (checkOf (checkedBytes kind tag payload))) s
      = .next (State.acceptFrame p s ⟨kind, tag, payload⟩).startAll := by
  obtain ⟨hhigh, hhunter, hgap⟩ := h
  rw [exec_frameArrival hhigh, hhunter, undecided, List.nil_append, hunt_frame hlen, State.takeHunt,
    State.setHunter_none hhunter hgap]
  rfl

/-- A refused frame is answered while the reply lane has room. -/
theorem refuseFrame_goodFrame (s : State) (p : Port) (f : Request) (c : ResultCode) :
    (s.goodFrame p).refuseFrame p f c
      = if (s.port p).replyLane.length < 8 then
          (s.goodFrame p).onPort p fun x =>
            { x with replyLane := x.replyLane ++ [⟨replyKind f.kind, f.tag, [BitVec.ofNat 8 c.value]⟩] }
        else s.goodFrame p := by
  rw [refuseFrame_eq, goodFrame_port, replyFrame, be_one]
  rfl

theorem firstOf_arrivalTests (s : State) (p : Port) (k : RequestKind) (payload : List Byte) :
    firstOf (arrivalTests s p k payload)
      = if k.permitted p = false then some .notPermitted
        else if payload.length ∉ k.lengths then some .badRequest
        else if 4 ≤ (s.port p).fifo.length then some .full
        else none := by
  simp only [arrivalTests, firstOf_cons, firstOf_nil, Bool.not_eq_true', List.contains_eq_mem, decide_eq_false_iff_not,
    decide_eq_true_eq]
  rfl

/-- A request at arrival, refused by the first test it fails. -/
theorem arrive_eq (s : State) (p : Port) (k : RequestKind) (f : Request) :
    s.arrive p k f
      = if k.permitted p = false then s.refuseFrame p f .notPermitted
        else if f.payload.length ∉ k.lengths then s.refuseFrame p f .badRequest
        else if 4 ≤ (s.port p).fifo.length then s.refuseFrame p f .full
        else s.onPort p fun x => { x with fifo := x.fifo ++ [f] } := by
  rw [State.arrive, firstOf_arrivalTests]
  by_cases hpermitted : k.permitted p = false
  · rw [if_pos hpermitted, if_pos hpermitted]
  · rw [if_neg hpermitted, if_neg hpermitted]
    by_cases hlen : f.payload.length ∉ k.lengths
    · rw [if_pos hlen, if_pos hlen]
    · rw [if_neg hlen, if_neg hlen]
      split_ifs
      · rfl
      · rfl

end Sys2Proof.Machine

/-- Settles O6: the tests of a request at arrival. -/
theorem requestFrameIsSorted : Obligations.RequestFrameIsSorted := by
  intro s p k tag payload hhunting hlen s1 refused
  have hrefused (c : ResultCode) : s1.refuseFrame p ⟨k.code, tag, payload⟩ c = refused c := by
    rw [refuseFrame_goodFrame, replyKind_code]
  rw [exec_goodFrame hhunting hlen, State.acceptFrame, classify_request]
  change Host.Outcome.next (s1.arrive p k ⟨k.code, tag, payload⟩).startAll = _
  rw [arrive_eq, hrefused, hrefused, hrefused, goodFrame_port]

namespace Sys2Proof.Machine

/-- A report on a port or of a length that is not its own is discarded. -/
theorem arriveReport_of_wrong {s : State} {p : Port} {k : ReportKind} {f : Request}
    (h : f.payload.length ≠ k.length ∨ ∀ n, p ≠ .s n) : s.arriveReport p k f = s := by
  unfold State.arriveReport
  split
  · next n =>
    rcases h with h | h
    · exact if_neg h
    · exact absurd rfl (h n)
  · rfl

/-- A report's frame of the right length is handed on. -/
theorem exec_reportFrame {s : State} {n : StationNo} (h : Hunting s (.s n)) (k : ReportKind) {payload : List Byte}
    (hlen : payload.length = k.length) (tag : Byte) :
    exec (.frameArrival (.s n) k.code tag payload (checkOf (checkedBytes k.code tag payload))) s
      = .next ((s.goodFrame (.s n)).report n k payload).startAll := by
  have hshort : payload.length ≤ 240 := by
    rw [hlen]
    cases k <;> simp [ReportKind.length]
  rw [exec_goodFrame h hshort, State.acceptFrame, classify_report]
  exact congrArg (fun t : State => Host.Outcome.next t.startAll) (if_pos hlen)

theorem natAt_be_all {k x : Nat} (h : x < 256 ^ k) : natAt (be k x) 0 k = x := by
  have := natAt_be k x [] h
  rwa [List.append_nil] at this

theorem intAt_beInt_count {c : Int} (h : rawCountOk c = true) : intAt (beInt 3 c) 0 3 = c := by
  have := intAt_beInt 3 c []
  simp only [rawCountOk, Bool.and_eq_true, decide_eq_true_eq] at h
  rw [List.append_nil] at this
  exact this (by omega) (by omega) (by omega)

end Sys2Proof.Machine

/-- Settles O7: the classes of kinds, and the bytes of a frame whose check is wrong. -/
theorem otherFramesAreSorted : Obligations.OtherFramesAreSorted := by
  refine ⟨?_, fun s n tag hhunting => ?_,
    fun s p kind tag payload check hhunting hlen hcheck hno => ?_⟩
  · intro s p kind tag payload hhunting hlen s1 arrives
    have harrives : arrives = .next (State.acceptFrame p s ⟨kind, tag, payload⟩).startAll :=
      exec_goodFrame hhunting hlen kind tag
    refine ⟨fun hkind hroom => ?_, fun hkind hfull => ?_, fun hkind => ?_, fun k hk hwrong => ?_⟩
    · rw [harrives, State.acceptFrame, classify_of_unknown kind hkind]
      dsimp only
      rw [refuseFrame_goodFrame, if_pos hroom]
      rfl
    · rw [harrives, State.acceptFrame, classify_of_unknown kind hkind]
      dsimp only
      rw [refuseFrame_goodFrame, if_neg (by omega)]
    · rw [harrives, State.acceptFrame, classify_of_hubKind kind hkind]
    · rw [harrives, State.acceptFrame, hk, classify_report]
      dsimp only
      rw [arriveReport_of_wrong hwrong]
  · have hhigh := hhunting.1
    refine ⟨fun c hc => ?_, fun k hk => ⟨?_, ?_⟩, ?_⟩
    · refine (exec_reportFrame hhunting .sample (length_beInt 3 c) tag).trans ?_
      rw [State.report, intAt_beInt_count hc]
      exact (unlessReset_high (fun s => (s.goodFrame (.s n)).sample n c) hhigh).symm
    · refine (exec_reportFrame hhunting .printDone (length_be 3 k) tag).trans ?_
      rw [State.report, natAt_be_all hk]
      exact (unlessReset_high (fun s => (s.goodFrame (.s n)).printDone n k) hhigh).symm
    · refine (exec_reportFrame hhunting .printFail (length_be 3 k) tag).trans ?_
      rw [State.report, natAt_be_all hk]
      exact (unlessReset_high (fun s => (s.goodFrame (.s n)).printFail n k) hhigh).symm
    · refine (exec_reportFrame hhunting .linkReset rfl tag).trans ?_
      exact (unlessReset_high (fun s => (s.goodFrame (.s n)).loseIfPresent n) hhigh).symm
  · obtain ⟨hhigh, hhunter, hgap⟩ := hhunting
    rw [exec_frameArrival hhigh, hhunter, undecided, List.nil_append, hunt_wrong_frame hlen kind tag hcheck,
      hunt_of_no_sync hno, State.takeHunt, State.setHunter_none hhunter hgap]
    rfl

namespace Sys2Proof.Machine

/-! ## The transmitter (R178) -/

/-- A free transmitter begins the oldest frame of the first lane, from its turn on, that holds one. -/
theorem LinkPort.start_of_lane {x : LinkPort} (hfree : x.sending = none) {l : Lane} {f : TxFrame} {fs : List TxFrame}
    (hl : x.lane l = f :: fs)
    (hturn : x.turn = l ∨ (x.turn.next = l ∧ x.lane x.turn = [])
      ∨ (x.turn.next.next = l ∧ x.lane x.turn = [] ∧ x.lane x.turn.next = [])) :
    x.start = { x.setLane l fs with sending := some f, turn := l.next } := by
  have hfind : ([x.turn, x.turn.next, x.turn.next.next].find? fun l => !(x.lane l).isEmpty) = some l := by
    rcases hturn with h | ⟨h, hempty⟩ | ⟨h, hempty, hempty'⟩
    · simp [h, hl]
    · simp [h, hl, hempty]
    · simp [h, hl, hempty, hempty']
  rw [LinkPort.start, hfree]
  dsimp only
  rw [hfind]
  dsimp only
  rw [hl]
  rfl

theorem exec_frameSent {s : State} (hhigh : s.resetLow = false) (p : Port) :
    exec (.frameSent p) s = .next (s.frameSent p).startAll := unlessReset_high (·.frameSent p) hhigh

end Sys2Proof.Machine

/-- Settles O10: the end of a sending, and the rotation. -/
theorem frameSentRotatesLanes : Obligations.FrameSentRotatesLanes := by
  refine ⟨?_, fun s p f hhigh hp hsending => ?_, State.startAll_port, fun x => ⟨fun h => ?_,
    fun hreply hlabel hstate => ?_, fun f fs hfree => ⟨fun hl hturn => ?_, fun hl hturn => ?_, fun hl hturn => ?_⟩⟩⟩
  · intro s n f hhigh hsending s1
    rw [exec_frameSent hhigh, State.frameSent, hsending]
    change Host.Outcome.next (s1.setDeadline n f).startAll = _
    have hprinter : s1.printer n = s.printer n := rfl
    rw [State.setDeadline, hprinter]
    cases (s.printer n).slot with
    | none => rfl
    | some x =>
      simp only [TxFrame.lastPartOf, labelKind, Bool.and_eq_true, beq_iff_eq, Config.printMs, and_assoc]
  · rw [exec_frameSent hhigh, State.frameSent, hsending]
    cases p with
    | s n => exact absurd rfl (hp n)
    | b => rfl
    | v => rfl
    | q => rfl
  · obtain ⟨f, hf⟩ := Option.ne_none_iff_exists'.mp h
    exact LinkPort.start_sending hf
  · refine LinkPort.start_idle fun l => ?_
    cases l <;> assumption
  · refine LinkPort.start_of_lane (l := .reply) hfree hl ?_
    rcases hturn with h | ⟨h, h'⟩ | ⟨h, h', h''⟩
    · exact .inl h
    · exact .inr (.inl (by simp [h, Lane.next, LinkPort.lane, h']))
    · exact .inr (.inr (by simp [h, Lane.next, LinkPort.lane, h', h'']))
  · refine LinkPort.start_of_lane (l := .label) hfree hl ?_
    rcases hturn with h | ⟨h, h'⟩ | ⟨h, h', h''⟩
    · exact .inl h
    · exact .inr (.inl (by simp [h, Lane.next, LinkPort.lane, h']))
    · exact .inr (.inr (by simp [h, Lane.next, LinkPort.lane, h', h'']))
  · refine LinkPort.start_of_lane (l := .state) hfree hl ?_
    rcases hturn with h | ⟨h, h'⟩ | ⟨h, h', h''⟩
    · exact .inl h
    · exact .inr (.inl (by simp [h, Lane.next, LinkPort.lane, h']))
    · exact .inr (.inr (by simp [h, Lane.next, LinkPort.lane, h', h'']))

end

section
/-! The machine right after reset keeps every law (08 section 8.3). -/

open Sys2Proof Sys2Proof.Machine

namespace Sys2Proof.Machine

theorem reset_port (i : Fin 15) : State.reset.ports.get i = emptyPort := Table.get_fill _ _

theorem reset_order (c : ClerkNo) : State.reset.order c = none := Table.get_fill _ _

theorem reset_bound (c : ClerkNo) : (State.reset.clerk c).bound = none :=
  congrArg ClerkEntry.bound (Table.get_fill blankClerk c)

theorem reset_station (n : StationNo) : State.reset.station n = absentEntry := Table.get_fill _ _

theorem reset_printer (n : StationNo) : State.reset.printer n = ⟨none, 1, none⟩ := Table.get_fill _ _

theorem reset_context (n : StationNo) : State.reset.context n = clearedContext false := Table.get_fill _ _

theorem reset_calibration (n : StationNo) : State.reset.calibration n = unsetCal := Table.get_fill _ _

theorem reset_leaf (l : LeafNo) : State.reset.plu.pool.get l = none := Table.get_fill _ _

theorem emptyPort_ok : emptyPort.Ok :=
  ⟨Nat.zero_le _, Nat.zero_le _, ⟨List.nodup_nil, fun f hf => by cases hf⟩, rfl, fun held hheld => by cases hheld⟩

theorem reset_linksOk : State.reset.LinksOk :=
  ⟨fun i => (reset_port i).symm ▸ emptyPort_ok, by rw [State.port, reset_port]; exact Nat.zero_le _⟩

theorem reset_noticesOk : State.reset.NoticesOk := by unfold State.NoticesOk; decide

theorem reset_clockOk : State.reset.ClockOk := ⟨by decide, fun _ => rfl⟩

theorem reset_batchOk : State.reset.BatchOk := ⟨Nat.zero_le _, fun e he => (by cases he), rfl, rfl⟩

theorem reset_generationOk : State.reset.GenerationOk := by
  refine ⟨le_rfl, by decide, fun l leaf hleaf => ?_, fun c o ho => ?_⟩
  · rw [reset_leaf] at hleaf
    cases hleaf
  · rw [reset_order] at ho
    cases ho

theorem reset_pluOk : State.reset.plu.Ok := by
  refine ⟨.nil, .nil, fun e he => (by cases he), fun l hl => ?_⟩
  rw [reset_leaf] at hl
  cases hl

theorem reset_weighingOk : State.reset.WeighingOk := by
  intro n
  rw [reset_context, reset_calibration]
  refine ⟨⟨Nat.zero_le _, ?_, ?_, ?_, fun h => ?_, fun z hz => ?_⟩, rfl⟩
  · simp [clearedContext, unsetCal]
  · simp [clearedContext]
  · simp [clearedContext]
  · cases h
  · cases hz

theorem reset_openOrders : State.reset.openOrderCount = 0 := openOrderCount_eq_zero.mpr reset_order

theorem reset_ordersOk : State.reset.OrdersOk := by
  have hnone (c : ClerkNo) (o : Order) (ho : o ∈ State.reset.order c) : False := by
    rw [reset_order] at ho
    cases ho
  have hunbound (c : ClerkNo) (n : StationNo) (hn : n ∈ (State.reset.clerk c).bound) : False := by
    rw [reset_bound] at hn
    cases hn
  have hpool : State.reset.poolUsed = 0 := by
    have hempty : State.reset.openOrders = [] := List.length_eq_zero_iff.mp reset_openOrders
    rw [State.poolUsed, hempty]
    rfl
  exact ⟨fun c o ho => (hnone c o ho).elim, fun c _ n hn => (hunbound c n hn).elim,
    fun c _ o ho => (hnone c o ho).elim, hpool ▸ Nat.zero_le _, reset_openOrders.symm, fun _ => reset_openOrders,
    fun c n hn => (hunbound c n hn).elim, Nat.zero_le _⟩

theorem reset_labelsOk : State.reset.LabelsOk := by
  refine ⟨fun n x hx => ?_, fun c o ho => ?_⟩
  · rw [reset_printer] at hx
    cases hx
  · rw [reset_order] at ho
    cases ho

theorem reset_queueOk : State.reset.QueueOk := by unfold State.QueueOk; decide

theorem reset_ledgerOk : State.reset.LedgerOk := by unfold State.LedgerOk; decide

theorem reset_goodsLedgerOk : State.reset.GoodsLedgerOk := by unfold State.GoodsLedgerOk; decide

theorem reset_itemsNamed : State.reset.ItemsNamed := by
  intro c o ho
  rw [reset_order] at ho
  cases ho

theorem reset_link (n : StationNo) : State.reset.link n = .absent := congrArg RosterEntry.link (reset_station n)

theorem reset_sessionOk : State.reset.SessionOk := by
  refine ⟨Nat.zero_le _, Nat.zero_le _, rfl, by simp [State.reset, Config.lockoutFailures], fun n hn => ?_, fun n hn => ?_,
    trivial, fun _ => ⟨rfl, rfl⟩⟩
  · rw [reset_link] at hn
    cases hn
  · cases hn

theorem reset_rosterOk : State.reset.RosterOk := by
  intro n
  rw [reset_link, reset_station]
  simp [absentEntry]

end Sys2Proof.Machine

/-- Settles O52: each law of the state the reset leaves. -/
theorem resetKeepsEveryLaw : Obligations.ResetKeepsEveryLaw :=
  ⟨reset_linksOk, reset_noticesOk, reset_clockOk, reset_batchOk, reset_generationOk, reset_pluOk, reset_weighingOk,
    reset_ordersOk, reset_labelsOk, reset_queueOk, reset_ledgerOk, reset_goodsLedgerOk, reset_itemsNamed,
    reset_sessionOk, reset_rosterOk⟩

end

section
/-! The notice unit (10 section 10.5). -/

open Sys2Proof Sys2Proof.Machine

namespace Sys2Proof.Machine

theorem classNumber_bounds (c : NoticeClass) : 1 ≤ c.number ∧ c.number ≤ 14 := by cases c <;> decide

theorem NoticeClass.number_inj {c d : NoticeClass} (h : c.number = d.number) : c = d := by
  have hidx (e : NoticeClass) : e.ctorIdx = e.number - 1 := by cases e <;> rfl
  rw [← NoticeClass.ofNat_ctorIdx c, ← NoticeClass.ofNat_ctorIdx d, hidx, hidx, h]

/-- The flag of a class after the flag of another is set. -/
theorem flagOf_setFlags_mask (m : BitVec 16) (c d : NoticeClass) :
    (setFlags m c.mask).getLsbD (d.number - 1) = (m.getLsbD (d.number - 1) || decide (d = c)) := by
  obtain ⟨hd, hd'⟩ := classNumber_bounds d
  obtain ⟨hc, hc'⟩ := classNumber_bounds c
  have hsame : (c.number - 1 = d.number - 1) ↔ d = c :=
    ⟨fun h => NoticeClass.number_inj (by omega), fun h => by rw [h]⟩
  have hlt : c.number - 1 < 16 := by omega
  simp only [setFlags, NoticeClass.mask, BitVec.getLsbD_or, BitVec.getLsbD_twoPow, hlt, decide_true, Bool.true_and, hsame]

theorem maskBad_iff (m : BitVec 16) : maskBad m = true ↔ m.getLsbD 14 = true ∨ m.getLsbD 15 = true := by
  simp [maskBad]

end Sys2Proof.Machine

/-- Settles O50: a raise, the line, and the five requests. -/
theorem noticesAnswered : Obligations.NoticesAnswered := by
  refine ⟨fun s c f => ⟨rfl, rfl, fun d => flagOf_setFlags_mask _ c d, ?_⟩, fun s => ?_, ?_⟩
  · simp only [State.raise, NoticeUnit.raise, flagOf, Bool.and_eq_true, decide_eq_true_eq]
    rfl
  · simp [State.noticeLine]
  · intro s tag payload rest s1 u m bad
    refine ⟨fun hwaits => ?_, fun hwaits => ?_, fun hwaits => ?_, fun hwaits => ?_, fun hwaits => ?_⟩
    · refine (answer_of_waits noticeTakeRequest hwaits).trans ?_
      have hqueue : (s.freed .b rest).notices.queue = u.queue := rfl
      rw [noticeTakeRequest, hqueue]
      cases u.queue with
      | nil => rfl
      | cons r rs =>
        rfl
    · refine (answer_of_waits noticeEnableRequest hwaits).trans ?_
      simp only [noticeEnableRequest, maskBad_iff]
      rfl
    · refine (answer_of_waits noticeDisableRequest hwaits).trans ?_
      simp only [noticeDisableRequest, maskBad_iff]
      rfl
    · exact answer_of_waits flagsReadRequest hwaits
    · refine (answer_of_waits flagsClearRequest hwaits).trans ?_
      simp only [flagsClearRequest, maskBad_iff]
      rfl

end

section
/-! The service session (09). -/

open Sys2Proof Sys2Proof.Machine

namespace Sys2Proof.Machine

/-! ## The key sequence (R160 to R163) -/

theorem serviceOpenRequest_of_idle {s : State} {payload : List Byte} (h : s.lock.session = .idle) :
    serviceOpenRequest payload s =
      match decodeServiceOpen payload with
      | none => refuse s .badValue
      | some n =>
        ({ s with lock := { s.lock with session := .synced n [], sequence := some 30000 } },
          okReply (be 4 s.lock.audit ++ be 1 s.lock.failures)) := by
  rw [serviceOpenRequest, h]
  rfl

/-- Words 1 to 3 are stored unjudged. -/
theorem serviceKeyRequest_of_early {s : State} {n : StationNo} {words : List Word32} {payload : List Byte}
    (h : s.lock.session = .synced n words) (hlen : words.length < 3) :
    serviceKeyRequest payload s
      = ({ s with lock := { s.lock with session := .synced n (words ++ [BitVec.ofNat 32 (natAt payload 0 4)]) } },
          okReply (0 :: be 1 (words.length + 2))) := by
  rw [serviceKeyRequest, h]
  have hshort : (words ++ [BitVec.ofNat 32 (natAt payload 0 4)]).length < 4 := by
    rw [List.length_append, List.length_singleton]
    omega
  dsimp only
  rw [if_pos hshort, List.length_append, KeyReply.bytes_nextIndex, be_one 0]
  rfl

/-- The fourth word is judged with the others. -/
theorem serviceKeyRequest_of_fourth {s : State} {n : StationNo} {words : List Word32} {payload : List Byte}
    (h : s.lock.session = .synced n words) (hlen : 3 ≤ words.length) :
    serviceKeyRequest payload s = judgeKey s n (words ++ [BitVec.ofNat 32 (natAt payload 0 4)]) := by
  rw [serviceKeyRequest, h]
  exact if_neg (by simpa using hlen)

theorem judgeKey_of_wrong {s : State} {n : StationNo} {words : List Word32} (h : words ≠ s.lock.key) :
    judgeKey s n words = (s.failKey n, failReply (s.lock.failures + 1)) := if_neg h

theorem State.failKey_eq {s : State} (n : StationNo) {x : Session}
    (h : (if s.lock.failures + 1 = 3 then Session.lockedOut else .idle) = x) :
    s.failKey n =
      ({ s with
          lock :=
            { s.lock with
              session := x, failures := s.lock.failures + 1, sequence := none, inactivity := none } } : State).raise
        .serviceKeyFailed { station := some n, variant := .failures (s.lock.failures + 1) } := by
  subst h
  rfl

theorem failReply_of_lockout {k : Nat} (h : k = 3) : failReply k = ⟨.lockedOut, []⟩ := if_pos h

theorem failReply_of_other {k : Nat} (h : k ≠ 3) : failReply k = ⟨.badValue, be 1 k⟩ := if_neg h

theorem judgeKey_of_right {s : State} {n : StationNo} {words : List Word32} (h : words = s.lock.key) :
    judgeKey s n words
      = match firstOf (openTests s n) with
        | some e => (s.idleSession, refusal e)
        | none => (s.openSession n, okReply (KeyReply.opened n (s.calibration n)).bytes) := if_pos h

/-- A station is busy with a label in its slot or an order it holds. -/
theorem busy_iff (s : State) (n : StationNo) :
    (s.slotBusy n || (s.holding n).isSome) = true
      ↔ (s.printer n).slot ≠ none ∨ ∃ c o, s.order c = some o ∧ o.holder = some n := by
  have hholding : (s.holding n).isSome = true ↔ ∃ c o, s.order c = some o ∧ o.holder = some n := by
    rw [← Option.not_isNone, Bool.not_eq_true', ← Bool.not_eq_true, Option.isNone_iff_eq_none, s.holding_eq_none]
    simp [Option.mem_def]
  rw [Bool.or_eq_true, hholding, State.slotBusy, Option.isSome_iff_ne_none]

theorem firstOf_openTests (s : State) (n : StationNo) :
    firstOf (openTests s n)
      = if s.link n = .absent then some .noStation
        else if (s.slotBusy n || (s.holding n).isSome) = true then some .stationBusy
        else none := by
  simp only [openTests, firstOf_cons, firstOf_nil, beq_iff_eq]

/-- All that unbinding a station's clerk with the release of the serving number does. -/
theorem State.unbindRelease_eq (s : State) (n : StationNo) :
    s.unbindRelease n =
      match s.boundClerk n with
      | none => s
      | some c =>
        let x := s.setClerk c { s.clerk c with bound := none }
        match s.serving c with
        | none => x
        | some r =>
          let y := x.setServing c none
          if r.hadGoods then y
          else { y with queue := { y.queue with missed := ⟨r.number, r.issued, r.called⟩ :: s.queue.missed.take 7 } } := by
  unfold State.unbindRelease
  cases s.boundClerk n with
  | none => rfl
  | some c => exact State.releaseServing_eq _ c

/-- An unbinding leaves the weighing contexts as they were. -/
theorem State.unbindRelease_context (s : State) (n m : StationNo) : (s.unbindRelease n).context m = s.context m := by
  have h : (s.unbindRelease n).weighing = s.weighing := unbindRelease_changesOnly s n .weighing (by simp)
  rw [State.context, State.context, h]

end Sys2Proof.Machine

/-- Settles O47: each request by session state, and the fourth word by its two verdicts. -/
theorem serviceOpenAndKeyAnswered : Obligations.ServiceOpenAndKeyAnswered := by
  intro s tag payload rest s1
  have hlock : s1.lock = s.lock := rfl
  constructor
  · intro hwaits done
    have hdone {a : Answer} (h : serviceOpenRequest payload s1 = a) : done a := answer_eq_replied hwaits h
    cases hsession : s.lock.session with
    | lockedOut => exact hdone (by rw [serviceOpenRequest, hlock, hsession])
    | synced n ws => exact hdone (by rw [serviceOpenRequest, hlock, hsession])
    | opened n f key => exact hdone (by rw [serviceOpenRequest, hlock, hsession])
    | idle =>
      have hidle := serviceOpenRequest_of_idle (s := s1) (payload := payload) hsession
      refine ⟨fun hword => hdone ?_, fun hword => ?_⟩
      · have hdecode : decodeServiceOpen payload = none := if_neg hword
        rw [hidle, hdecode]
      · have hdecode : decodeServiceOpen payload = ofOrdinal 12 (natAt payload 0 1) := if_pos hword
        cases hn : ofOrdinal 12 (natAt payload 0 1) with
        | none => exact hdone (by rw [hidle, hdecode, hn])
        | some n =>
          refine hdone ?_
          rw [hidle, hdecode, hn]
          rfl
  · intro hwaits done word
    have hdone {a : Answer} (h : serviceKeyRequest payload s1 = a) : done a := answer_eq_replied hwaits h
    cases hsession : s.lock.session with
    | lockedOut => exact hdone (by rw [serviceKeyRequest, hlock, hsession])
    | idle => exact hdone (by rw [serviceKeyRequest, hlock, hsession])
    | opened n f key => exact hdone (by rw [serviceKeyRequest, hlock, hsession])
    | synced n words =>
      refine ⟨fun hlen => hdone (serviceKeyRequest_of_early hsession hlen), fun hlen hkey => ?_, fun hlen hkey => ?_⟩
      · intro k failed
        have hjudged : serviceKeyRequest payload s1 = (s1.failKey n, failReply k) :=
          (serviceKeyRequest_of_fourth (s := s1) hsession hlen).trans (judgeKey_of_wrong hkey)
        refine ⟨fun hk => hdone (hjudged.trans ?_), fun hk => hdone (hjudged.trans ?_)⟩
        · rw [failReply_of_lockout hk, State.failKey_eq (s := s1) n (if_pos hk)]
          rfl
        · rw [failReply_of_other hk, State.failKey_eq (s := s1) n (if_neg hk)]
          rfl
      · intro busy
        have hbusy : (s1.slotBusy n || (s1.holding n).isSome) = true ↔ busy := busy_iff s1 n
        have hjudged := (serviceKeyRequest_of_fourth (payload := payload) (s := s1) hsession hlen).trans
          (judgeKey_of_right hkey)
        have hlink : s1.link n = s.link n := rfl
        rw [firstOf_openTests, hlink] at hjudged
        refine ⟨fun habsent => hdone (hjudged.trans ?_), fun hpresent hb => hdone (hjudged.trans ?_),
          fun hpresent hb => ?_⟩
        · rw [if_pos habsent]
          rfl
        · rw [if_neg hpresent, if_pos (hbusy.mpr hb)]
          rfl
        · intro u v w
          have hopened : s1.openSession n = w.setContext n { s.context n with window := [] } := by
            have hw : v.unbindRelease n = w := v.unbindRelease_eq n
            change (v.unbindRelease n).emptyWindow n = _
            rw [State.emptyWindow, State.unbindRelease_context, hw]
            rfl
          refine hdone (hjudged.trans ?_)
          rw [if_neg hpresent, if_neg (mt hbusy.mp hb), ← hopened]
          dsimp only
          rw [KeyReply.bytes_opened, be_one 1]
          rfl

end

section
/-! Work in an open session (09 section 9.4). -/

open Sys2Proof Sys2Proof.Machine

namespace Sys2Proof.Machine

/-! ## Spread and mean of raw counts (R167) -/

theorem foldl_max_spec (xs : List Int) (x : Int) :
    xs.foldl max x ∈ x :: xs ∧ ∀ y ∈ x :: xs, y ≤ xs.foldl max x := by
  induction xs generalizing x with
  | nil => simp
  | cons z zs ih =>
    obtain ⟨hmem, hle⟩ := ih (max x z)
    rw [List.foldl_cons]
    have htop := hle (max x z) (by simp)
    refine ⟨?_, fun y hy => ?_⟩
    · rcases List.mem_cons.mp hmem with h | h
      · rw [h]
        rcases max_choice x z with h' | h'
        · simp [h']
        · simp [h']
      · simp [h]
    · rcases List.mem_cons.mp hy with rfl | hy
      · exact (le_max_left _ _).trans htop
      · rcases List.mem_cons.mp hy with rfl | hy
        · exact (le_max_right _ _).trans htop
        · exact hle y (by simp [hy])

theorem foldl_min_spec (xs : List Int) (x : Int) :
    xs.foldl min x ∈ x :: xs ∧ ∀ y ∈ x :: xs, xs.foldl min x ≤ y := by
  induction xs generalizing x with
  | nil => simp
  | cons z zs ih =>
    obtain ⟨hmem, hle⟩ := ih (min x z)
    rw [List.foldl_cons]
    have htop := hle (min x z) (by simp)
    refine ⟨?_, fun y hy => ?_⟩
    · rcases List.mem_cons.mp hmem with h | h
      · rw [h]
        rcases min_choice x z with h' | h'
        · simp [h']
        · simp [h']
      · simp [h]
    · rcases List.mem_cons.mp hy with rfl | hy
      · exact htop.trans (min_le_left _ _)
      · rcases List.mem_cons.mp hy with rfl | hy
        · exact htop.trans (min_le_right _ _)
        · exact hle y (by simp [hy])

/-- The spread is the greatest count less the least. -/
theorem spread_spec {counts : List Int} (h : counts ≠ []) :
    ∃ a ∈ counts, ∃ b ∈ counts, spread counts = a - b ∧ ∀ x ∈ counts, b ≤ x ∧ x ≤ a := by
  cases counts with
  | nil => exact absurd rfl h
  | cons x xs =>
    obtain ⟨hmax, hle⟩ := foldl_max_spec xs x
    obtain ⟨hmin, hge⟩ := foldl_min_spec xs x
    exact ⟨_, hmax, _, hmin, rfl, fun y hy => ⟨hge y hy, hle y hy⟩⟩

theorem rawMean_spec (counts : List Int) :
    (2 * (6 * rawMean counts - counts.sum)).natAbs ≤ 6
      ∧ ((2 * (6 * rawMean counts - counts.sum)).natAbs = 6 → counts.sum.natAbs < (6 * rawMean counts).natAbs) := by
  have h := roundHalfAway_spec counts.sum 6 (Nat.succ_pos 5)
  rwa [mul_comm _ ((6 : Nat) : Int)] at h

/-! ## The session's state and its requests (R159, R165) -/

theorem inOpen_of_opened {act : StationNo → CalFields → Option (List Word32) → State → Answer} {s : State}
    {n : StationNo} {f : CalFields} {key : Option (List Word32)} (h : s.lock.session = .opened n f key) :
    inOpen act s = act n f key s.restartInactivity := by rw [inOpen, h]

theorem inOpen_of_lockedOut (act : StationNo → CalFields → Option (List Word32) → State → Answer) {s : State}
    (h : s.lock.session = .lockedOut) : inOpen act s = refuse s .lockedOut := by rw [inOpen, h]

theorem inOpen_of_unopened (act : StationNo → CalFields → Option (List Word32) → State → Answer) {s : State}
    (h : s.lock.session = .idle ∨ ∃ n ws, s.lock.session = .synced n ws) : inOpen act s = refuse s .refusedState := by
  rcases h with h | ⟨n, ws, h⟩
  · rw [inOpen, h]
  · rw [inOpen, h]

/-- The requests that only OPEN takes. -/
theorem requestAct_of_open {k : RequestKind} {i : Instr}
    (h : (k, i) ∈
      [(RequestKind.calRead, Instr.calRead), (.calWrite, .calWrite), (.keyChange, .keyChange),
        (.captureZero, .captureZero), (.captureSpan, .captureSpan), (.serviceClose, .serviceClose)]) :
    requestOf i = some (.v, k) ∧ ∀ payload, ∃ act, ∀ s, requestAct i payload s = inOpen act s := by
  simp only [List.mem_cons, Prod.mk.injEq, List.not_mem_nil, or_false] at h
  rcases h with ⟨rfl, rfl⟩ | ⟨rfl, rfl⟩ | ⟨rfl, rfl⟩ | ⟨rfl, rfl⟩ | ⟨rfl, rfl⟩ | ⟨rfl, rfl⟩
  · exact ⟨rfl, fun payload => ⟨_, fun s => (rfl : calReadRequest payload s = inOpen _ s)⟩⟩
  · exact ⟨rfl, fun payload => ⟨_, fun s => (rfl : calWriteRequest payload s = inOpen _ s)⟩⟩
  · exact ⟨rfl, fun payload => ⟨_, fun s => (rfl : keyChangeRequest payload s = inOpen _ s)⟩⟩
  · exact ⟨rfl, fun payload => ⟨_, fun s => (rfl : captureZeroRequest payload s = inOpen _ s)⟩⟩
  · exact ⟨rfl, fun payload => ⟨_, fun s => (rfl : captureSpanRequest payload s = inOpen _ s)⟩⟩
  · exact ⟨rfl, fun payload => ⟨_, fun s => (rfl : serviceCloseRequest payload s = inOpen _ s)⟩⟩

theorem presentFlag_eq {α : Type} [DecidableEq α] (x : Option α) : presentFlag x = [if x = none then 0 else 1] := by
  cases x <;> simp [presentFlag, flagByte]

/-! ## The ranges (R166), and the tests of the captures (R167, R168) -/

theorem intervalOk_iff (e : Nat) : intervalOk e = true ↔ e ∈ [1, 2, 5, 10, 20] := by simp [intervalOk]

theorem zOk_iff (z : Int) : zOk z = true ↔ -8388608 ≤ z ∧ z ≤ 8388607 := by simp [zOk]

theorem spanOk_iff (x : Nat) : spanOk x = true ↔ 10000 ≤ x ∧ x ≤ 8000000 := by simp [spanOk]

theorem loadOk_iff (x : Nat) : loadOk x = true ↔ 1000 ≤ x ∧ x ≤ 60000 := by simp [loadOk]

theorem max1Ok_iff (x : Nat) : max1Ok x = true ↔ 1 ≤ x ∧ x ≤ 30000 := by simp [max1Ok]

theorem max2Ok_iff (x : Nat) : max2Ok x = true ↔ 1000 ≤ x ∧ x ≤ 30000 := by simp [max2Ok]

/-- A field that may be absent passes its check when it does so where it is present. -/
theorem getD_map_eq_true {α : Type} (x : Option α) (p : α → Bool) : (x.map p).getD true = true ↔ ∀ a ∈ x, p a = true := by
  cases x <;> simp

theorem CalChanges.valid_iff (c : CalChanges) :
    c.valid = true ↔
      (∀ z ∈ c.z, -8388608 ≤ z ∧ z ≤ 8388607) ∧ (∀ x ∈ c.s, 10000 ≤ x ∧ x ≤ 8000000)
        ∧ (∀ x ∈ c.l, 1000 ≤ x ∧ x ≤ 60000) ∧ (∀ x ∈ c.max1, 1 ≤ x ∧ x ≤ 30000)
        ∧ (∀ x ∈ c.max2, 1000 ≤ x ∧ x ≤ 30000) ∧ (∀ x ∈ c.e1, x ∈ [1, 2, 5, 10, 20])
        ∧ ∀ x ∈ c.e2, x ∈ [1, 2, 5, 10, 20] := by
  simp only [CalChanges.valid, Bool.and_eq_true, getD_map_eq_true, zOk_iff, spanOk_iff, loadOk_iff, max1Ok_iff,
    max2Ok_iff, intervalOk_iff, and_assoc]

theorem firstOf_captureTests (s : State) (n : StationNo) (f : CalFields) :
    firstOf (captureTests s n f)
      = if s.link n = .absent ∨ (s.rawCounts n).length < 6 then some .noSamples
        else if decide (10000 ≤ f.s ∧ f.s ≤ 8000000 ∧ 1000 ≤ f.l ∧ f.l ≤ 60000 ∧ f.e1 ∈ [1, 2, 5, 10, 20]) = false then
          some .badCal
        else if ((f.s * f.e1 / (2 * f.l) : Nat) : Int) < spread (s.rawCounts n) then some .notStable
        else none := by
  have hranges : (spanOk f.s && loadOk f.l && intervalOk f.e1)
      = decide (10000 ≤ f.s ∧ f.s ≤ 8000000 ∧ 1000 ≤ f.l ∧ f.l ≤ 60000 ∧ f.e1 ∈ [1, 2, 5, 10, 20]) := by
    rw [Bool.eq_iff_iff]
    simp only [Bool.and_eq_true, spanOk_iff, loadOk_iff, intervalOk_iff, decide_eq_true_eq, and_assoc]
  simp only [captureTests, firstOf_cons, firstOf_nil, hranges, Bool.or_eq_true, beq_iff_eq, decide_eq_true_eq,
    Bool.not_eq_true']
  rfl

/-- CAPTURE SPAN tests the load first and the rise last. -/
theorem firstOf_spanTests (s : State) (n : StationNo) (f : CalFields) (load : Nat) :
    firstOf (spanTests s n f load)
      = if load < 1000 ∨ 60000 < load then some .badValue
        else if s.link n = .absent ∨ (s.rawCounts n).length < 6 then some .noSamples
        else if decide (10000 ≤ f.s ∧ f.s ≤ 8000000 ∧ 1000 ≤ f.l ∧ f.l ≤ 60000 ∧ f.e1 ∈ [1, 2, 5, 10, 20]) = false then
          some .badCal
        else if ((f.s * f.e1 / (2 * f.l) : Nat) : Int) < spread (s.rawCounts n) then some .notStable
        else if rawMean (s.rawCounts n) - f.z < 10000 ∨ 8000000 < rawMean (s.rawCounts n) - f.z then some .outOfRange
        else none := by
  have hload : (!loadOk load) = true ↔ load < 1000 ∨ 60000 < load := by
    rw [Bool.not_eq_true', ← Bool.not_eq_true, loadOk_iff]
    omega
  rw [spanTests, List.append_assoc, firstOf_append, firstOf_append, firstOf_captureTests]
  simp only [firstOf_cons, firstOf_nil, hload, Bool.or_eq_true, decide_eq_true_eq]
  split_ifs
  all_goals rfl

end Sys2Proof.Machine

/-- Settles O48: refusals outside OPEN, and each request's tests in OPEN. -/
theorem sessionWorkAnswered : Obligations.SessionWorkAnswered := by
  refine ⟨fun counts hcounts => ⟨spread_spec hcounts, rawMean_spec counts⟩, fun s tag payload rest k i hi hwaits => ?_, ?_⟩
  · obtain ⟨hrequest, hact⟩ := requestAct_of_open hi
    obtain ⟨act, hact⟩ := hact payload
    rw [exec_of_requestOf hrequest]
    exact ⟨fun h => answer_eq_replied hwaits ((hact _).trans (inOpen_of_lockedOut (s := s.freed .v rest) _ h)),
      fun h => answer_eq_replied hwaits ((hact _).trans (inOpen_of_unopened (s := s.freed .v rest) _ h))⟩
  · intro s tag payload rest n f key hsession s1 staged counts ranges tolerance
    have hopen (act : StationNo → CalFields → Option (List Word32) → State → Answer) :
        inOpen act (s.freed .v rest) = act n f key s1 := inOpen_of_opened hsession
    refine ⟨fun hwaits => ?_, fun hwaits => ?_, fun hwaits => ?_, fun hwaits => ?_, fun hwaits => ?_⟩
    · refine answer_eq_replied (act := calReadRequest) hwaits ((hopen _).trans ?_)
      rw [presentFlag_eq]
      exact congrArg (fun k => (s1, okReply (_ ++ be 1 k ++ _))) (List.length_map _).symm
    · intro c f'
      refine answer_eq_replied (act := calWriteRequest) hwaits ((hopen _).trans ?_)
      dsimp only
      simp only [CalChanges.valid_iff]
      rfl
    · exact answer_eq_replied (act := keyChangeRequest) hwaits (hopen _)
    · have htests : firstOf (captureTests s1 n f) = if s.link n = .absent ∨ counts.length < 6 then some .noSamples
          else if ranges = false then some .badCal else if tolerance < spread counts then some .notStable else none :=
        firstOf_captureTests s1 n f
      refine answer_eq_replied (act := captureZeroRequest) hwaits ((hopen _).trans ?_)
      rw [htests]
      split_ifs
      all_goals rfl
    · intro load rise
      have htests : firstOf (spanTests s1 n f load) = if load < 1000 ∨ 60000 < load then some .badValue
          else if s.link n = .absent ∨ counts.length < 6 then some .noSamples
          else if ranges = false then some .badCal else if tolerance < spread counts then some .notStable
          else if rise < 10000 ∨ 8000000 < rise then some .outOfRange else none :=
        firstOf_spanTests s1 n f load
      refine answer_eq_replied (act := captureSpanRequest) hwaits ((hopen _).trans ?_)
      dsimp only
      rw [htests]
      split_ifs
      all_goals rfl

end

section
/-! The ends of a session (09 sections 9.4 and 9.5). -/

open Sys2Proof Sys2Proof.Machine

namespace Sys2Proof.Machine

/-! ## The checks of a calibration (R170) -/

theorem CalFields.checks_eq (f : CalFields) :
    f.checks =
      [decide (-8388608 ≤ f.z ∧ f.z ≤ 8388607), decide (10000 ≤ f.s ∧ f.s ≤ 8000000),
        decide (1000 ≤ f.l ∧ f.l ≤ 60000), decide (1 ≤ f.max1 ∧ f.max1 ≤ 30000),
        decide (1000 ≤ f.max2 ∧ f.max2 ≤ 30000), decide (f.e1 ∈ [1, 2, 5, 10, 20]),
        decide (f.e2 ∈ [1, 2, 5, 10, 20]), decide (f.max1 ≤ f.max2), decide (f.e1 ≤ f.e2),
        decide (f.max1 = f.max2 → f.e1 = f.e2), decide (f.max1 ≤ 6000 * f.e1), decide (f.max2 ≤ 6000 * f.e2)] := by
  have himplies : (f.max1 != f.max2 || f.e2 == f.e1) = decide (f.max1 = f.max2 → f.e1 = f.e2) := by
    rw [Bool.eq_iff_iff]
    simp only [Bool.or_eq_true, bne_iff_ne, beq_iff_eq, decide_eq_true_eq, eq_comm (a := f.e2)]
    exact imp_iff_not_or.symm
  have hinterval (e : Nat) : intervalOk e = decide (e ∈ [1, 2, 5, 10, 20]) := by
    rw [Bool.eq_iff_iff, intervalOk_iff, decide_eq_true_eq]
  rw [CalFields.checks, himplies, hinterval, hinterval]
  simp only [zOk, spanOk, loadOk, max1Ok, max2Ok, Bool.decide_and]

/-- The true entries before the first false one. -/
theorem length_takeWhile_of_first {bs : List Bool} {i : Nat} (hfalse : bs[i]? = some false)
    (htrue : ∀ j < i, bs[j]? = some true) : (bs.takeWhile id).length = i := by
  induction bs generalizing i with
  | nil => cases hfalse
  | cons b bs ih =>
    cases i with
    | zero =>
      obtain rfl : b = false := by simpa using hfalse
      rfl
    | succ i =>
      obtain rfl : b = true := by simpa using htrue 0 (Nat.succ_pos i)
      rw [List.takeWhile_cons_of_pos rfl, List.length_cons,
        ih (by simpa using hfalse) fun j hj => by simpa using htrue (j + 1) (by omega)]

theorem CalFields.valid_iff (f : CalFields) : f.valid = true ↔ ∀ b ∈ f.checks, b = true := by
  simp [CalFields.valid]

theorem calChanged_iff (r : CalRecord) (f : CalFields) : calChanged r f = true ↔ r.isSet = false ∨ r.fields ≠ f := by
  simp [calChanged]

/-! ## SERVICE CLOSE (R170) -/

/-- A staging that fails a check is refused with the check's place. -/
theorem serviceCloseRequest_of_failing {s : State} {n : StationNo} {f : CalFields} {key : Option (List Word32)}
    (hsession : s.lock.session = .opened n f key) (payload : List Byte) (h : f.valid = false) :
    serviceCloseRequest payload s = (s.restartInactivity, ⟨.badCal, be 1 f.firstFailing⟩) :=
  (inOpen_of_opened hsession).trans (if_pos h)

/-- A change at the last audit count is refused. -/
theorem serviceCloseRequest_of_last {s : State} {n : StationNo} {f : CalFields} {key : Option (List Word32)}
    (hsession : s.lock.session = .opened n f key) (payload : List Byte) (h : f.valid = true)
    (hchanged : calChanged (s.calibration n) f = true) (haudit : s.lock.audit = 4294967295) :
    serviceCloseRequest payload s = refuse s.restartInactivity .refusedState := by
  refine (inOpen_of_opened hsession).trans ?_
  have hlast : (calChanged (s.restartInactivity.calibration n) f && s.restartInactivity.lock.audit == Config.lastAudit) = true := by
    rw [Bool.and_eq_true, beq_iff_eq]
    exact ⟨hchanged, haudit⟩
  dsimp only
  rw [if_neg (by simp [h]), if_pos hlast]

/-- Any other close ends the session. -/
theorem serviceCloseRequest_of_done {s : State} {n : StationNo} {f : CalFields} {key : Option (List Word32)}
    (hsession : s.lock.session = .opened n f key) (payload : List Byte) (h : f.valid = true)
    (haudit : calChanged (s.calibration n) f = true → s.lock.audit ≠ 4294967295) :
    serviceCloseRequest payload s
      = (s.restartInactivity.closeSession n f key,
          okReply (flagByte (calChanged (s.calibration n) f) ++ presentFlag key
            ++ be 4 (s.restartInactivity.closeSession n f key).lock.audit)) := by
  refine (inOpen_of_opened hsession).trans ?_
  have hfree : ¬(calChanged (s.restartInactivity.calibration n) f && s.restartInactivity.lock.audit == Config.lastAudit) = true := by
    rw [Bool.and_eq_true, beq_iff_eq]
    exact fun hlast => haudit hlast.1 hlast.2
  dsimp only
  rw [if_neg (by simp [h]), if_neg hfree]
  rfl

theorem State.closeSession_of_changed {s : State} {n : StationNo} {f : CalFields} (key : Option (List Word32))
    (h : calChanged (s.calibration n) f = true) :
    s.closeSession n f key = (((s.commitCal n f).commitKey key).idleSession).leaveService n := if_pos h

theorem State.closeSession_of_unchanged {s : State} {n : StationNo} {f : CalFields} (key : Option (List Word32))
    (h : ¬calChanged (s.calibration n) f = true) : s.closeSession n f key = (s.commitKey key).endUnchanged n := if_neg h

theorem State.endUnchanged_lock (s : State) (n : StationNo) : (s.endUnchanged n).lock = s.idleSession.lock := by
  unfold State.endUnchanged
  dsimp only
  split
  · exact leaveService_lock _ _
  · rfl

/-- The session ended with nothing committed. -/
theorem State.endUnchanged_eq (s : State) (n : StationNo) :
    s.endUnchanged n =
      if s.link n = .service then
        (s.idleSession.setStation n { s.station n with link := .enrolled }).setContext n { s.context n with window := [] }
      else s.idleSession := by
  unfold State.endUnchanged
  have hlink : s.idleSession.link n = s.link n := rfl
  dsimp only
  rw [hlink]
  split
  · next h =>
    rw [State.leaveService, hlink, if_pos h]
    rfl
  · rfl

end Sys2Proof.Machine

/-- Settles O49: the three outcomes of SERVICE CLOSE, and the discarding ends. -/
theorem sessionEnds : Obligations.SessionEnds := by
  intro s tag payload rest s1 idle discarded
  refine ⟨fun n f key hsession hwaits => ?_, fun hwaits => ?_, fun hhigh => ⟨?_, ?_⟩⟩
  · intro s2 done checks changed keyed tail
    have hdone {a : Answer} (h : serviceCloseRequest payload s1 = a) : done a := answer_eq_replied hwaits h
    have hchecks : f.checks = checks := f.checks_eq
    have hchanged : calChanged (s1.calibration n) f = true ↔ changed := calChanged_iff _ f
    have hlast : (calChanged (s1.calibration n) f = true → s1.lock.audit ≠ 4294967295)
        ↔ (changed → s.lock.audit ≠ 4294967295) := imp_congr hchanged Iff.rfl
    refine ⟨fun i hfalse htrue => hdone ?_, fun hvalid => ?_⟩
    · have hfailing : f.valid = false := by
        rw [← Bool.not_eq_true, f.valid_iff, hchecks]
        exact fun h => Bool.false_ne_true (h false (List.mem_of_getElem? hfalse))
      rw [serviceCloseRequest_of_failing (s := s1) hsession payload hfailing, CalFields.firstFailing, hchecks,
        length_takeWhile_of_first hfalse htrue]
      rfl
    · have hok : f.valid = true := f.valid_iff.mpr (hchecks ▸ hvalid)
      refine ⟨fun hc haudit => hdone (serviceCloseRequest_of_last (s := s1) hsession payload hok (hchanged.mpr hc) haudit),
        fun hc haudit => ?_, fun hc => ?_⟩
      · intro u v
        refine hdone ((serviceCloseRequest_of_done (s := s1) hsession payload hok fun _ => haudit).trans ?_)
        have hv : ((s1.restartInactivity.commitCal n f).commitKey key).idleSession = v := rfl
        have hstation : v.station n = s.station n := rfl
        have hleft : v.leaveService n
            = if s.link n = .service then v.setStation n { s.station n with link := .enrolled } else v := rfl
        rw [State.closeSession_of_changed (s := s1.restartInactivity) key (hchanged.mpr hc), hchanged.mpr hc, presentFlag_eq,
          hv, leaveService_lock, hleft]
        rfl
      · refine hdone ((serviceCloseRequest_of_done (s := s1) hsession payload hok fun h => absurd (hchanged.mp h) hc).trans ?_)
        rw [State.closeSession_of_unchanged (s := s1.restartInactivity) key (mt hchanged.mp hc), presentFlag_eq,
          State.endUnchanged_lock, State.endUnchanged_eq, Bool.eq_false_iff.mpr (mt hchanged.mp hc)]
        rfl
  · refine answer_eq_replied (act := serviceAbandonRequest) hwaits ?_
    have hlock : (s.freed .v rest).lock = s.lock := rfl
    rw [serviceAbandonRequest, hlock]
    cases s.lock.session with
    | idle => rfl
    | lockedOut => rfl
    | synced n ws => rfl
    | opened n f key => exact congrArg (·, okReply []) (s1.endUnchanged_eq n)
  · refine (unlessReset_high (fun s => if s.lock.sequence.isSome then s.idleSession else s) hhigh).trans ?_
    cases s.lock.sequence with
    | none => rfl
    | some k => rfl
  · refine (unlessReset_high (·.inactivityExpired) hhigh).trans ?_
    rw [State.inactivityExpired]
    cases s.lock.session with
    | idle => rfl
    | lockedOut => rfl
    | synced n ws => rfl
    | opened n f key =>
      dsimp only
      rw [State.endUnchanged_eq]
      cases s.lock.inactivity with
      | none => rfl
      | some k => rfl

end

section
/-! The fields of requests read back (10 sections 10.3 and 10.4). -/

open Sys2Proof Sys2Proof.Machine

namespace Sys2Proof.Machine

/-! ## Reading past what stands before a field -/

/-- A field behind a number is read past the number's bytes. -/
theorem natAt_skip (k x : Nat) (rest : List Byte) {o : Nat} (len : Nat) (h : k ≤ o) :
    natAt (be k x ++ rest) o len = natAt rest (o - k) len := by
  rw [natAt_append _ _ _ _ (by simpa using h), length_be]

theorem flagByte_eq (b : Bool) : flagByte b = be 1 b.toNat := by cases b <;> rfl

/-- A flag field reads as the flag whose number it carries. -/
theorem flagAt_of_natAt {p : List Byte} {o : Nat} {b : Bool} (h : natAt p o 1 = b.toNat) : flagAt p o = some b := by
  rw [flagAt, h]
  cases b <;> rfl

theorem toNat_lt_byte (b : Bool) : b.toNat < 256 := by cases b <;> decide

theorem ordinal_lt_byte {n : Nat} (h : n < 256) (i : Fin n) : ordinal i < 256 := by
  have := i.isLt
  unfold ordinal
  omega

theorem clerk_lt_byte (c : ClerkNo) : ordinal c < 256 := ordinal_lt_byte (by omega) c
theorem station_lt_byte (n : StationNo) : ordinal n < 256 := ordinal_lt_byte (by omega) n
theorem dept_lt_byte (d : DeptNo) : ordinal d < 256 := ordinal_lt_byte (by omega) d
theorem mode_lt_byte (m : LabelMode) : m.code < 256 := by cases m <;> decide
theorem rounding_lt_byte (r : Rounding) : r.code < 256 := by cases r <;> decide
theorem productKind_lt_byte (k : ProductKind) : k.code < 256 := by cases k <;> decide
theorem codeKind_lt_byte (k : CodeKind) : k.code < 256 := by cases k <;> decide

/-! ## Fields of fixed places -/

theorem decodeEnrol_bytes {r : StationRecord} (hwidth : r.width = 40 ∨ r.width = 60) (hlow : 6 ≤ r.digits)
    (hhigh : r.digits ≤ 8) : decodeEnrol r.bytes = some r := by
  have hp := toNat_lt_byte r.printer
  have hw : r.width < 256 := by omega
  have hd : r.digits < 256 := by omega
  obtain ⟨h0, h1, h2⟩ : natAt r.bytes 0 1 = r.printer.toNat ∧ natAt r.bytes 1 1 = r.width
      ∧ natAt r.bytes 2 1 = r.digits := by
    simp only [StationRecord.bytes, flagByte_eq, List.append_assoc, natAt_skip, natAt_be, natAt_be_all, hp, hw, hd,
      Nat.reducePow, Nat.reduceLeDiff, Nat.reduceSub, le_refl, tsub_self, and_self]
  rw [decodeEnrol, flagAt_of_natAt h0]
  dsimp only
  rw [h1, h2, if_pos (by simp; omega)]

theorem decodeClerkOn_append (c : ClerkNo) {code : Nat} (h : code ≤ 9999) (rest : List Byte) :
    decodeClerkOn (encodeClerkOn c code ++ rest) = some (c, code) := by
  have hc := clerk_lt_byte c
  have hcode : code < 65536 := by omega
  have h0 : natAt (encodeClerkOn c code ++ rest) 0 1 = ordinal c := by
    simp only [encodeClerkOn, List.append_assoc, natAt_be, hc, Nat.reducePow]
  have h1 : natAt (encodeClerkOn c code ++ rest) 1 2 = code := by
    simp only [encodeClerkOn, List.append_assoc, natAt_skip, natAt_be, hcode, Nat.reducePow, le_refl, tsub_self]
  rw [decodeClerkOn, h0, ofOrdinal_ordinal]
  dsimp only
  rw [h1, if_pos h]

theorem decodeClerkWrite_encode (c : ClerkNo) {code : Nat} (e : Bool) (h : code ≤ 9999) :
    decodeClerkWrite (encodeClerkWrite c code e) = some (c, code, e) := by
  have he := toNat_lt_byte e
  have h3 : natAt (encodeClerkWrite c code e) 3 1 = e.toNat := by
    simp only [encodeClerkWrite, encodeClerkOn, flagByte_eq, List.append_assoc, natAt_skip, natAt_be_all, he,
      Nat.reducePow, Nat.reduceLeDiff, Nat.reduceSub, le_refl, tsub_self]
  rw [decodeClerkWrite, flagAt_of_natAt h3, encodeClerkWrite, decodeClerkOn_append c h]

theorem decodeProfile_encode (n : StationNo) (r : Profile) : decodeProfile (encodeProfile n r) = some (n, r) := by
  have hn := station_lt_byte n
  have hm := mode_lt_byte r.mode
  have ha := toNat_lt_byte r.autoClear
  obtain ⟨h0, h1, h2⟩ : natAt (encodeProfile n r) 0 1 = ordinal n ∧ natAt (encodeProfile n r) 1 1 = r.mode.code
      ∧ natAt (encodeProfile n r) 2 1 = r.autoClear.toNat := by
    simp only [encodeProfile, Profile.bytes, flagByte_eq, natAt_skip, natAt_be, natAt_be_all, hn, hm, ha, Nat.reducePow,
      Nat.reduceLeDiff, Nat.reduceSub, le_refl, tsub_self, and_self]
  rw [decodeProfile, flagAt_of_natAt h2, h0, h1, ofOrdinal_ordinal, labelMode_ofCode]

/-! ## Fields that may be absent -/

/-- A field that may be absent, written in its bytes. -/
theorem optional_some (k : Nat) (bs : List Byte) : optional k (some bs) = be 1 1 ++ bs := rfl

/-- A field that may be absent, not there: its bytes are 0. -/
theorem optional_none (k : Nat) : optional k none = be 1 0 ++ be k 0 := by
  have hzero (j : Nat) : List.replicate j (0 : Byte) = be j 0 := by
    induction j with
    | zero => rfl
    | succ j ih => rw [List.replicate_succ, ih, be, Nat.zero_div]; rfl
  rw [optional, hzero]

/-- A field's presence and bytes, whatever follows. -/
theorem natAt_optional (k : Nat) (x : Option Nat) (rest : List Byte) (h : ∀ a ∈ x, a < 256 ^ k) :
    natAt (optional k (x.map (be k)) ++ rest) 0 1 = (if x.isSome then 1 else 0)
      ∧ natAt (optional k (x.map (be k)) ++ rest) 1 k = x.getD 0 := by
  cases x with
  | none =>
    rw [Option.map_none, optional_none, List.append_assoc, natAt_be _ _ _ (by decide), natAt_skip _ _ _ _ le_rfl,
      natAt_be _ _ _ (by positivity)]
    exact ⟨rfl, rfl⟩
  | some a =>
    rw [Option.map_some, optional_some, List.append_assoc, natAt_be _ _ _ (by decide), natAt_skip _ _ _ _ le_rfl,
      natAt_be _ _ _ (h a rfl)]
    exact ⟨rfl, rfl⟩

/-- A field behind one that may be absent. -/
theorem natAt_skip_optional (k : Nat) (x : Option Nat) (rest : List Byte) {o : Nat} (len : Nat) (h : k + 1 ≤ o) :
    natAt (optional k (x.map (be k)) ++ rest) o len = natAt rest (o - (k + 1)) len := by
  have hlen : (optional k (x.map (be k))).length = k + 1 := length_optional fun bs hbs => by
    obtain ⟨a, -, rfl⟩ := Option.map_eq_some_iff.mp hbs
    exact length_be k a
  rw [natAt_append _ _ _ _ (by omega), hlen]

/-- What a reader makes of a field that may be absent. -/
theorem optional_of_natAt {p : List Byte} {o i k : Nat} {x : Option Nat}
    (h : natAt p o 1 = (if x.isSome then 1 else 0) ∧ natAt p i k = x.getD 0) :
    (if presentAt p o then some (natAt p i k) else none) = x := by
  obtain ⟨h0, h1⟩ := h
  rw [presentAt, h0, h1]
  cases x <;> rfl

theorem natAt_optional_last (k : Nat) (x : Option Nat) (h : ∀ a ∈ x, a < 256 ^ k) :
    natAt (optional k (x.map (be k))) 0 1 = (if x.isSome then 1 else 0)
      ∧ natAt (optional k (x.map (be k))) 1 k = x.getD 0 := by
  have := natAt_optional k x [] h
  rwa [List.append_nil] at this

theorem decodeSale_encodeQuote {p : Nat} {x : Option Nat} (hp : p < 16777216) (hx : ∀ k ∈ x, k < 256) :
    decodeSale (encodeQuote p x) = ⟨p, x, 0⟩ := by
  obtain ⟨h0, h1⟩ := natAt_optional_last 1 x hx
  have hplu : natAt (encodeQuote p x) 0 3 = p := natAt_be _ _ _ hp
  have hquantity : natAt (encodeQuote p x) 3 1 = (if x.isSome then 1 else 0) ∧ natAt (encodeQuote p x) 4 1 = x.getD 0 := by
    simp only [encodeQuote, natAt_skip, h0, h1, Nat.reduceLeDiff, Nat.reduceSub, le_refl, tsub_self, and_self]
  have hquoted : natAt (encodeQuote p x) 5 4 = 0 := by
    rw [encodeQuote, natAt_skip _ _ _ _ (by omega)]
    cases x <;> rfl
  rw [decodeSale, hplu, optional_of_natAt hquantity, hquoted]

theorem decodeSale_encodeSale {p : Nat} {x : Option Nat} {g : Nat} (hp : p < 16777216) (hx : ∀ k ∈ x, k < 256)
    (hg : g < 4294967296) : decodeSale (encodeSale ⟨p, x, g⟩) = ⟨p, x, g⟩ := by
  obtain ⟨h0, h1⟩ := natAt_optional 1 x (be 4 g) hx
  have hplu : natAt (encodeSale ⟨p, x, g⟩) 0 3 = p := by
    simp only [encodeSale, encodeQuote, List.append_assoc, natAt_be, hp, Nat.reducePow]
  have hquantity : natAt (encodeSale ⟨p, x, g⟩) 3 1 = (if x.isSome then 1 else 0)
      ∧ natAt (encodeSale ⟨p, x, g⟩) 4 1 = x.getD 0 := by
    simp only [encodeSale, encodeQuote, List.append_assoc, natAt_skip, h0, h1, Nat.reduceLeDiff, Nat.reduceSub, le_refl,
      tsub_self, and_self]
  have hquoted : natAt (encodeSale ⟨p, x, g⟩) 5 4 = g := by
    simp only [encodeSale, encodeQuote, List.append_assoc, natAt_skip, natAt_skip_optional, natAt_be_all, hg,
      Nat.reducePow, Nat.reduceLeDiff, Nat.reduceSub, Nat.reduceAdd, le_refl, tsub_self]
  rw [decodeSale, hplu, optional_of_natAt hquantity, hquoted]

theorem decodeClaim_encode (c : ClerkNo) (h : Option StationNo) {v : Nat} (hv : v < 65536) :
    decodeClaim (encodeClaim c h v) = some (c, h, v) := by
  have hc := clerk_lt_byte c
  have hholder : h.map (fun n => be 1 (ordinal n)) = (h.map ordinal).map (be 1) := by rw [Option.map_map]; rfl
  obtain ⟨h0, h1⟩ := natAt_optional 1 (h.map ordinal) (be 2 v) fun a ha => by
    obtain ⟨n, -, rfl⟩ := Option.map_eq_some_iff.mp ha
    exact station_lt_byte n
  have hclerk : natAt (encodeClaim c h v) 0 1 = ordinal c := by
    simp only [encodeClaim, List.append_assoc, natAt_be, hc, Nat.reducePow]
  obtain ⟨hpresent, hstation⟩ : natAt (encodeClaim c h v) 1 1 = (if (h.map ordinal).isSome then 1 else 0)
      ∧ natAt (encodeClaim c h v) 2 1 = (h.map ordinal).getD 0 := by
    simp only [encodeClaim, hholder, List.append_assoc, natAt_skip, h0, h1, Nat.reduceLeDiff, Nat.reduceSub, le_refl,
      tsub_self, and_self]
  have hrevision : natAt (encodeClaim c h v) 3 2 = v := by
    simp only [encodeClaim, hholder, List.append_assoc, natAt_skip, natAt_skip_optional, natAt_be_all, hv,
      Nat.reducePow, Nat.reduceLeDiff, Nat.reduceSub, Nat.reduceAdd, le_refl, tsub_self]
  rw [decodeClaim, hclerk, ofOrdinal_ordinal]
  dsimp only
  rw [presentAt, hpresent, hrevision, hstation]
  cases h with
  | none => rfl
  | some n =>
    rw [Option.map_some, Option.getD_some, ofOrdinal_ordinal]
    rfl

/-! ## Selling fields and batch entries (R27, R54) -/

theorem natAt_skip_description {d : List Byte} (hd : d.length ≤ 24) (rest : List Byte) {o : Nat} (len : Nat)
    (h : 25 ≤ o) : natAt (descriptionBytes d ++ rest) o len = natAt rest (o - 25) len := by
  rw [natAt_append _ _ _ _ (by rw [length_descriptionBytes hd]; exact h), length_descriptionBytes hd]

theorem descriptionOk_length {d : List Byte} (h : descriptionOk d = true) : d.length ≤ 24 := by
  simp only [descriptionOk, Bool.and_eq_true, decide_eq_true_eq] at h
  exact h.1.2

/-- A description field reads back, wherever it stands. -/
theorem descriptionAt_append {d : List Byte} (hd : descriptionOk d = true) (pre rest : List Byte) :
    descriptionAt (pre ++ (descriptionBytes d ++ rest)) pre.length = some d := by
  have hlen := descriptionOk_length hd
  have hcount : natAt (pre ++ (descriptionBytes d ++ rest)) pre.length 1 = d.length := by
    rw [natAt_append _ _ _ _ le_rfl, Nat.sub_self, descriptionBytes, List.append_assoc, List.append_assoc,
      natAt_be _ _ _ (by omega)]
  have hbytes : ((pre ++ (descriptionBytes d ++ rest)).drop (pre.length + 1)).take d.length = d := by
    rw [← List.drop_drop, List.drop_left, descriptionBytes, be_one]
    simp
  rw [descriptionAt, hcount, if_neg (by omega)]
  dsimp only
  rw [hbytes, if_pos hd]

theorem PluFields.valid_bounds {f : PluFields} (h : f.valid = true) :
    f.number ≤ 99999 ∧ descriptionOk f.description = true ∧ f.unitPrice ≤ 999999 ∧ f.markdown ≤ 90
      ∧ f.presetTare ≤ 30000 ∧ f.shelfDays ≤ 365 := by
  simp only [PluFields.valid, Bool.and_eq_true, decide_eq_true_eq] at h
  obtain ⟨⟨⟨⟨⟨⟨⟨⟨-, hnumber⟩, hdescription⟩, -⟩, hprice⟩, hmarkdown⟩, htare⟩, hdays⟩, -⟩ := h
  exact ⟨hnumber, hdescription, hprice, hmarkdown, htare, hdays⟩

/-- The selling fields read back behind some bytes. -/
theorem pluFieldsAt_append {f : PluFields} (h : f.valid = true) (pre : List Byte) :
    pluFieldsAt (pre ++ f.bytes) pre.length = some f := by
  obtain ⟨hnumber, hdescription, hprice, hmarkdown, htare, hdays⟩ := f.valid_bounds h
  have hn : f.number < 16777216 := by omega
  have hp : f.unitPrice < 16777216 := by omega
  have hm : f.markdown < 256 := by omega
  have ht : f.presetTare < 65536 := by omega
  have hd : f.shelfDays < 65536 := by omega
  have hlen := descriptionOk_length hdescription
  have hread (o len : Nat) : natAt (pre ++ f.bytes) (pre.length + o) len = natAt f.bytes o len := by
    rw [natAt_append _ _ _ _ (by omega), Nat.add_sub_cancel_left]
  obtain ⟨h0, h3, h29, h32, h33, h35, h37, h38⟩ : natAt f.bytes 0 3 = f.number ∧ natAt f.bytes 3 1 = f.kind.code
      ∧ natAt f.bytes 29 3 = f.unitPrice ∧ natAt f.bytes 32 1 = f.markdown ∧ natAt f.bytes 33 2 = f.presetTare
      ∧ natAt f.bytes 35 2 = f.shelfDays ∧ natAt f.bytes 37 1 = f.codeKind.code
      ∧ natAt f.bytes 38 1 = ordinal f.department := by
    simp only [PluFields.bytes, List.append_assoc, natAt_skip, natAt_be, natAt_be_all, natAt_skip_description hlen,
      productKind_lt_byte, codeKind_lt_byte, dept_lt_byte, hn, hp, hm, ht, hd, Nat.reducePow, Nat.reduceLeDiff,
      Nat.reduceSub, le_refl, tsub_self, and_self]
  have hstart : natAt (pre ++ f.bytes) pre.length 3 = f.number := by
    have := hread 0 3
    rwa [Nat.add_zero, h0] at this
  have hd4 : descriptionAt (pre ++ f.bytes) (pre.length + 4) = some f.description := by
    have := descriptionAt_append hdescription (pre ++ (be 3 f.number ++ be 1 f.kind.code))
      (be 3 f.unitPrice ++ be 1 f.markdown ++ be 2 f.presetTare ++ be 2 f.shelfDays ++ be 1 f.codeKind.code
        ++ be 1 (ordinal f.department))
    simpa only [PluFields.bytes, List.append_assoc, List.length_append, length_be] using this
  rw [pluFieldsAt, hread, hread, hread, hd4, h3, h37, h38, productKind_ofCode, codeKind_ofCode, ofOrdinal_ordinal]
  dsimp only
  rw [hread, hread, hread, hread, hstart, h29, h32, h33, h35, if_pos h]

theorem length_pluBytes {f : PluFields} (h : f.valid = true) : f.bytes.length = 39 := by
  obtain ⟨-, hdescription, -⟩ := f.valid_bounds h
  simp only [PluFields.bytes, List.length_append, length_be, length_descriptionBytes (descriptionOk_length hdescription)]

theorem pluOk_lt {n : Nat} (h : pluOk n = true) : n < 16777216 := by
  have hlast : Config.lastPlu = 99999 := rfl
  simp only [pluOk, Bool.and_eq_true, decide_eq_true_eq] at h
  omega

theorem decodeBatchEntry_encode {e : BatchEntry} (h : e.valid = true) : decodeBatchEntry (encodeBatchEntry e) = some e := by
  cases e with
  | new f =>
    have hform : natAt (encodeBatchEntry (.new f)) 0 1 = 1 := natAt_be 1 1 _ (by decide)
    have hlen : ((encodeBatchEntry (.new f)).length == 40) = true := by
      rw [encodeBatchEntry, List.length_append, length_be, length_pluBytes h]
      rfl
    have hfields : pluFieldsAt (encodeBatchEntry (.new f)) 1 = some f := pluFieldsAt_append h (be 1 1)
    rw [decodeBatchEntry, hform]
    dsimp only
    rw [if_pos hlen, hfields]
    rfl
  | retire plu =>
    have hplu := pluOk_lt h
    have hform : natAt (encodeBatchEntry (.retire plu)) 0 1 = 2 := natAt_be 1 2 _ (by decide)
    have hnumber : natAt (encodeBatchEntry (.retire plu)) 1 3 = plu := by
      rw [encodeBatchEntry, natAt_skip _ _ _ _ le_rfl, natAt_be_all hplu]
    have hpass : (pluOk plu && (encodeBatchEntry (.retire plu)).length == 4) = true := by
      rw [Bool.and_eq_true]
      exact ⟨h, rfl⟩
    rw [decodeBatchEntry, hform]
    dsimp only
    rw [hnumber, if_pos hpass]
    rfl
  | change plu price markdown d =>
    simp only [BatchEntry.valid, Bool.and_eq_true, decide_eq_true_eq, getD_map_eq_true] at h
    obtain ⟨⟨⟨⟨hplu, hprice⟩, hprice'⟩, hmarkdown⟩, hd⟩ := h
    have hp := pluOk_lt hplu
    have hp' : price < 16777216 := by omega
    have hm : markdown < 256 := by omega
    generalize hx : encodeBatchEntry (.change plu price markdown d) = x
    have hbytes : x = be 1 0 ++ (be 3 plu ++ (be 3 price ++ (be 1 markdown ++ optional 25 (d.map descriptionBytes)))) := by
      rw [← hx]
      simp only [encodeBatchEntry, List.append_assoc]
    obtain ⟨h0, h1, h4, h7⟩ : natAt x 0 1 = 0 ∧ natAt x 1 3 = plu ∧ natAt x 4 3 = price ∧ natAt x 7 1 = markdown := by
      simp only [hbytes, natAt_skip, natAt_be, hp, hp', hm, Nat.reducePow, Nat.reduceLeDiff, Nat.reduceSub, Nat.reduceLT,
        le_refl, tsub_self, and_self]
    have hlen : x.length = 34 := by
      rw [hbytes]
      simp only [List.length_append, length_be]
      rw [length_optional fun bs hbs => by
        obtain ⟨a, ha, rfl⟩ := Option.map_eq_some_iff.mp hbs
        exact length_descriptionBytes (descriptionOk_length (hd a ha))]
    have hpass : (pluOk plu && decide (1 ≤ price) && decide (price ≤ 999999) && decide (markdown ≤ 90) && x.length == 34)
        = true := by
      simp [hplu, hprice, hprice', hmarkdown, hlen]
    rw [decodeBatchEntry, h0]
    dsimp only
    rw [h1, h4, h7]
    refine (if_pos hpass).trans ?_
    cases d with
    | none =>
      have habsent : presentAt x 8 = false := by
        rw [presentAt, hbytes, Option.map_none, optional_none]
        simp only [natAt_skip, natAt_be, Nat.reducePow, Nat.reduceLeDiff, Nat.reduceSub, Nat.reduceLT, le_refl, tsub_self]
        rfl
      rw [if_neg (by simp [habsent])]
    | some d =>
      have hpresent : presentAt x 8 = true := by
        rw [presentAt, hbytes, Option.map_some, optional_some]
        simp only [natAt_skip, natAt_be, Nat.reducePow, Nat.reduceLeDiff, Nat.reduceSub, Nat.reduceLT, le_refl, tsub_self]
        rfl
      have hdescription : descriptionAt x 9 = some d := by
        have := descriptionAt_append (hd d rfl) (be 1 0 ++ (be 3 plu ++ (be 3 price ++ (be 1 markdown ++ be 1 1)))) []
        rw [hbytes, Option.map_some, optional_some]
        simpa only [List.append_assoc, List.append_nil, List.length_append, length_be] using this
      rw [if_pos hpresent, hdescription]

/-! ## Times, settings and totals (R149, R144, R131) -/

theorem DateTime.valid_bounds {t : DateTime} (h : t.valid = true) :
    2000 ≤ t.date.year ∧ t.date.year ≤ 2099 ∧ t.date.month ≤ 12 ∧ t.date.day ≤ 31 ∧ t.hour ≤ 23 ∧ t.minute ≤ 59
      ∧ t.second ≤ 59 := by
  simp only [DateTime.valid, Date.valid, Bool.and_eq_true, decide_eq_true_eq] at h
  obtain ⟨⟨⟨⟨⟨⟨⟨⟨hlow, hhigh⟩, hmonth⟩, hmonth'⟩, -⟩, hday⟩, hhour⟩, hminute⟩, hsecond⟩ := h
  exact ⟨hlow, hhigh, hmonth', hday.trans (daysInMonth_bounds hmonth hmonth').2, hhour, hminute, hsecond⟩

theorem decodeTime_bytes {t : DateTime} (h : t.valid = true) : decodeTime t.bytes = some t := by
  obtain ⟨hlow, hhigh, hmonth, hday, hhour, hminute, hsecond⟩ := t.valid_bounds h
  have hy : t.date.year - 2000 < 256 := by omega
  have hmo : t.date.month < 256 := by omega
  have hd : t.date.day < 256 := by omega
  have hh : t.hour < 256 := by omega
  have hmi : t.minute < 256 := by omega
  have hs : t.second < 256 := by omega
  obtain ⟨h0, h1, h2, h3, h4, h5⟩ : natAt t.bytes 0 1 = t.date.year - 2000 ∧ natAt t.bytes 1 1 = t.date.month
      ∧ natAt t.bytes 2 1 = t.date.day ∧ natAt t.bytes 3 1 = t.hour ∧ natAt t.bytes 4 1 = t.minute
      ∧ natAt t.bytes 5 1 = t.second := by
    simp only [DateTime.bytes, Date.bytes, List.append_assoc, natAt_skip, natAt_be, natAt_be_all, hy, hmo, hd, hh, hmi, hs,
      Nat.reducePow, Nat.reduceLeDiff, Nat.reduceSub, le_refl, tsub_self, and_self]
  have ht : (⟨⟨2000 + natAt t.bytes 0 1, natAt t.bytes 1 1, natAt t.bytes 2 1⟩, natAt t.bytes 3 1, natAt t.bytes 4 1,
      natAt t.bytes 5 1⟩ : DateTime) = t := by
    rw [h0, h1, h2, h3, h4, h5, Nat.add_sub_cancel' hlow]
  rw [decodeTime, ht]
  exact if_pos h

theorem PriceSettings.valid_bounds {p : PriceSettings} (h : p.valid = true) :
    p.step < 256 ∧ p.windowStart.hour < 256 ∧ p.windowStart.minute < 256 ∧ p.windowEnd.hour < 256
      ∧ p.windowEnd.minute < 256 ∧ p.itemPrefix < 256 ∧ p.orderPrefix < 256 := by
  simp only [PriceSettings.valid, Bool.and_eq_true, decide_eq_true_eq, List.contains_iff_mem, List.mem_cons,
    List.not_mem_nil, or_false] at h
  omega

theorem queueSettings_bounds {rollLength rollLow queueLong : Nat} (h : queueSettingsOk rollLength rollLow queueLong = true) :
    rollLength < 65536 ∧ rollLow < 65536 ∧ queueLong < 256 := by
  simp only [queueSettingsOk, Bool.and_eq_true, decide_eq_true_eq] at h
  omega

theorem decodeSettings_bytes {r : SettingsRequest} (h : r.prices.valid = true)
    (hqueue : queueSettingsOk r.rollLength r.rollLow r.queueLong = true) :
    decodeSettings (settingsBytes r.prices r.rollLength r.rollLow r.queueLong) = some r := by
  obtain ⟨hstep, hsh, hsm, heh, hem, hip, hop⟩ := r.prices.valid_bounds h
  obtain ⟨hrl, hlow, hlong⟩ := queueSettings_bounds hqueue
  generalize hx : settingsBytes r.prices r.rollLength r.rollLow r.queueLong = x
  obtain ⟨h0, h1, h2, h3, h4, h5, h6, h7, h8, h10, h12⟩ : natAt x 0 1 = r.prices.rounding.code
      ∧ natAt x 1 1 = r.prices.step ∧ natAt x 2 1 = r.prices.windowStart.hour ∧ natAt x 3 1 = r.prices.windowStart.minute
      ∧ natAt x 4 1 = r.prices.windowEnd.hour ∧ natAt x 5 1 = r.prices.windowEnd.minute
      ∧ natAt x 6 1 = r.prices.itemPrefix ∧ natAt x 7 1 = r.prices.orderPrefix ∧ natAt x 8 2 = r.rollLength
      ∧ natAt x 10 2 = r.rollLow ∧ natAt x 12 1 = r.queueLong := by
    simp only [← hx, settingsBytes, List.append_assoc, natAt_skip, natAt_be, natAt_be_all, rounding_lt_byte, hstep, hsh,
      hsm, heh, hem, hip, hop, hrl, hlow, hlong, Nat.reducePow, Nat.reduceLeDiff, Nat.reduceSub, le_refl, tsub_self,
      and_self]
  rw [decodeSettings, h0, rounding_ofCode]
  dsimp only
  rw [h1, h2, h3, h4, h5, h6, h7, h8, h10, h12]
  exact if_pos (by rw [Bool.and_eq_true]; exact ⟨h, hqueue⟩)

theorem natAt_pair {x y : Nat} (hx : x < 256) (hy : y < 256) :
    natAt (be 1 x ++ be 1 y) 0 1 = x ∧ natAt (be 1 x ++ be 1 y) 1 1 = y := by
  rw [natAt_be _ _ _ hx, natAt_skip _ _ _ _ le_rfl, natAt_be_all hy]
  exact ⟨rfl, rfl⟩

theorem decodeTotals_encode (k : TotalsCategory) : decodeTotals (encodeTotals k) = some k := by
  cases k with
  | counter => rfl
  | grand => rfl
  | clerk c =>
    obtain ⟨h0, h1⟩ := natAt_pair (x := 1) (by decide) (clerk_lt_byte c)
    rw [encodeTotals, decodeTotals, h0, h1, ofOrdinal_ordinal]
    rfl
  | station n =>
    obtain ⟨h0, h1⟩ := natAt_pair (x := 2) (by decide) (station_lt_byte n)
    rw [encodeTotals, decodeTotals, h0, h1, ofOrdinal_ordinal]
    rfl
  | department d =>
    obtain ⟨h0, h1⟩ := natAt_pair (x := 3) (by decide) (dept_lt_byte d)
    rw [encodeTotals, decodeTotals, h0, h1, ofOrdinal_ordinal]
    rfl

/-! ## The console's fields (R160, R166, R169) -/

theorem decodeServiceOpen_bytes (n : StationNo) : decodeServiceOpen (be 1 (n.val + 1) ++ [0xC3, 0x5A]) = some n := by
  have hword : natAt (be 1 (n.val + 1) ++ [0xC3, 0x5A]) 1 2 = Config.syncWord := by
    rw [natAt_skip _ _ _ _ le_rfl]
    rfl
  have hstation : natAt (be 1 (n.val + 1) ++ [0xC3, 0x5A]) 0 1 = ordinal n := natAt_be _ _ _ (station_lt_byte n)
  rw [decodeServiceOpen, if_pos hword, hstation, ofOrdinal_ordinal]

theorem decodeKey_encodeKey {ws : List Word32} (h : ws.length = 4) : decodeKey (encodeKey ws) = ws := by
  match ws, h with
  | [a, b, c, d], _ =>
    have ha := a.isLt
    have hb := b.isLt
    have hc := c.isLt
    have hd := d.isLt
    obtain ⟨h0, h4, h8, h12⟩ : natAt (encodeKey [a, b, c, d]) 0 4 = a.toNat ∧ natAt (encodeKey [a, b, c, d]) 4 4 = b.toNat
        ∧ natAt (encodeKey [a, b, c, d]) 8 4 = c.toNat ∧ natAt (encodeKey [a, b, c, d]) 12 4 = d.toNat := by
      simp only [encodeKey, List.flatMap_cons, List.flatMap_nil, natAt_skip, natAt_be, ha, hb, hc, hd, Nat.reducePow,
        Nat.reduceLeDiff, Nat.reduceSub, le_refl, tsub_self, and_self]
    rw [decodeKey, h0, h4, h8, h12]
    simp

theorem intAt_skip (k x : Nat) (rest : List Byte) {o : Nat} (len : Nat) (h : k ≤ o) :
    intAt (be k x ++ rest) o len = intAt rest (o - k) len := by
  rw [intAt, natAt_skip _ _ _ _ h, intAt]

/-- A signed field that may be absent is one of the numbers its bytes spell. -/
theorem optional_beInt (k : Nat) (x : Option Int) :
    x.map (beInt k) = (x.map fun v => (v % ((256 ^ k : Nat) : Int)).toNat).map (be k) := by
  rw [Option.map_map]
  rfl

/-- The calibration zero, which is signed, reads back. -/
theorem zeroField_reads {z : Option Int} (h : ∀ v ∈ z, -8388608 ≤ v ∧ v ≤ 8388607) (rest : List Byte) :
    (if presentAt (optional 3 (z.map (beInt 3)) ++ rest) 0 then
      some (intAt (optional 3 (z.map (beInt 3)) ++ rest) 1 3) else none) = z := by
  cases z with
  | none =>
    rw [Option.map_none, optional_none, List.append_assoc, presentAt, natAt_be _ _ _ (by decide)]
    rfl
  | some v =>
    obtain ⟨hlow, hhigh⟩ := h v rfl
    rw [Option.map_some, optional_some, List.append_assoc, presentAt, natAt_be _ _ _ (by decide),
      intAt_skip _ _ _ _ le_rfl, intAt_beInt _ _ _ (by decide) (by omega) (by omega)]
    rfl

theorem decodeCalWrite_encode {c : CalChanges} (h : c.valid = true) : decodeCalWrite (encodeCalWrite c) = c := by
  obtain ⟨hz, hs, hl, hm1, hm2, he1, he2⟩ := c.valid_iff.mp h
  have hinterval (e : Option Nat) (he : ∀ x ∈ e, x ∈ [1, 2, 5, 10, 20]) : ∀ a ∈ e, a < 256 ^ 1 := fun a ha => by
    have := he a ha
    simp only [List.mem_cons, List.not_mem_nil, or_false] at this
    omega
  have hs' := natAt_optional 3 c.s (optional 2 (c.l.map (be 2)) ++ (optional 2 (c.max1.map (be 2))
    ++ (optional 2 (c.max2.map (be 2)) ++ (optional 1 (c.e1.map (be 1)) ++ optional 1 (c.e2.map (be 1)))))) fun a ha => by
      have := hs a ha
      omega
  have hl' := natAt_optional 2 c.l (optional 2 (c.max1.map (be 2)) ++ (optional 2 (c.max2.map (be 2))
    ++ (optional 1 (c.e1.map (be 1)) ++ optional 1 (c.e2.map (be 1))))) fun a ha => by
      have := hl a ha
      omega
  have hm1' := natAt_optional 2 c.max1 (optional 2 (c.max2.map (be 2))
    ++ (optional 1 (c.e1.map (be 1)) ++ optional 1 (c.e2.map (be 1)))) fun a ha => by
      have := hm1 a ha
      omega
  have hm2' := natAt_optional 2 c.max2 (optional 1 (c.e1.map (be 1)) ++ optional 1 (c.e2.map (be 1))) fun a ha => by
      have := hm2 a ha
      omega
  have he1' := natAt_optional 1 c.e1 (optional 1 (c.e2.map (be 1))) (hinterval _ he1)
  have he2' := natAt_optional_last 1 c.e2 (hinterval _ he2)
  have hzero := zeroField_reads hz (optional 3 (c.s.map (be 3)) ++ (optional 2 (c.l.map (be 2))
    ++ (optional 2 (c.max1.map (be 2)) ++ (optional 2 (c.max2.map (be 2)) ++ (optional 1 (c.e1.map (be 1))
      ++ optional 1 (c.e2.map (be 1)))))))
  generalize hx : encodeCalWrite c = x
  have hbytes : x = optional 3 (c.z.map (beInt 3)) ++ (optional 3 (c.s.map (be 3)) ++ (optional 2 (c.l.map (be 2))
    ++ (optional 2 (c.max1.map (be 2)) ++ (optional 2 (c.max2.map (be 2)) ++ (optional 1 (c.e1.map (be 1))
      ++ optional 1 (c.e2.map (be 1))))))) := by
    rw [← hx]
    simp only [encodeCalWrite, List.append_assoc]
  rw [← hbytes] at hzero
  rw [decodeCalWrite, hzero, optional_of_natAt (x := c.s), optional_of_natAt (x := c.l), optional_of_natAt (x := c.max1),
    optional_of_natAt (x := c.max2), optional_of_natAt (x := c.e1), optional_of_natAt (x := c.e2)]
  all_goals
    simp only [hbytes, optional_beInt, natAt_skip_optional, hs', hl', hm1', hm2', he1', he2', Nat.reduceLeDiff,
      Nat.reduceSub, Nat.reduceAdd, le_refl, tsub_self, and_self]

end Sys2Proof.Machine

/-- Settles O51, kind by kind. -/
theorem requestFieldsReadBack : Obligations.RequestFieldsReadBack := by
  refine ⟨fun r => decodeEnrol_bytes, fun c code h => ?_, fun c code e => decodeClerkWrite_encode c e, decodeProfile_encode,
    fun p x g hp hx hg => ⟨decodeSale_encodeSale hp hx hg, decodeSale_encodeQuote hp hx⟩,
    fun c h v => decodeClaim_encode c h, fun f h => ⟨pluFieldsAt_append h [], length_pluBytes h⟩,
    fun e => decodeBatchEntry_encode, fun t => decodeTime_bytes, fun r => decodeSettings_bytes, decodeTotals_encode,
    decodeServiceOpen_bytes, fun c => decodeCalWrite_encode, fun ws => decodeKey_encodeKey,
    fun x hx => ⟨natAt_be_all hx, ?_⟩, fun x hx => ⟨natAt_be_all hx, ?_⟩, fun p mode hp hmode => ?_, fun c => ⟨?_, ?_⟩,
    fun w => ⟨?_, ?_⟩, fun m => ⟨?_, ?_⟩, ?_⟩
  · have := decodeClerkOn_append c h []
    rwa [List.append_nil] at this
  · simp only [length_be]
    decide
  · simp only [length_be]
    decide
  · refine ⟨natAt_be_all hp, by simp only [length_be]; decide, natAt_be _ _ _ hp, ?_, ?_⟩
    · rw [natAt_skip _ _ _ _ le_rfl, natAt_be_all hmode]
    · simp only [List.length_append, length_be]
      decide
  · have hc : natAt (be 1 (c.val + 1)) 0 1 = ordinal c := natAt_be_all (clerk_lt_byte c)
    rw [hc, ofOrdinal_ordinal]
  · simp only [length_be]
    decide
  · rw [natAt_be_all w.isLt]
    exact BitVec.eq_of_toNat_eq (Nat.mod_eq_of_lt w.isLt)
  · simp only [length_be]
    decide
  · rw [maskAt, natAt_be_all m.isLt]
    simp
  · simp only [length_be]
    decide
  · decide

end

section
/-! Requests that test in order, and the zero and tare requests (01 sections 1.6 and 1.7). -/

open Sys2Proof Sys2Proof.Machine

namespace Sys2Proof.Machine

/-! ## Tests in order -/

/-- A request refused by the first test that applies, with nothing changed, and answered when none does. -/
def tested (ts : List (Bool × ResultCode)) (s : State) (a : Answer) : Answer :=
  match firstOf ts with
  | some c => refuse s c
  | none => a

theorem tested_nil (s : State) (a : Answer) : tested [] s a = a := rfl

theorem tested_cons (b : Bool) (c : ResultCode) (ts : List (Bool × ResultCode)) (s : State) (a : Answer) :
    tested ((b, c) :: ts) s a = if b = true then refuse s c else tested ts s a := by
  cases b <;> rfl

theorem tested_append (ts us : List (Bool × ResultCode)) (s : State) (a : Answer) :
    tested (ts ++ us) s a = tested ts s (tested us s a) := by
  rw [tested, firstOf_append]
  unfold tested
  cases firstOf ts <;> rfl

/-- The tests of a station's link state come first. -/
theorem tested_linkTests (s t : State) (n : StationNo) (a : Answer) :
    tested (linkTests s n) t a
      = if s.link n = .absent then refuse t .noStation
        else if s.link n = .service then refuse t .inService
        else a := by
  simp only [linkTests, tested_cons, tested_nil, beq_iff_eq]

/-- The refusals by weighing state. -/
theorem tested_stateTests (st : WeighState) (s : State) (a : Answer) :
    tested (stateTests st) s a
      = if st = .noZero then refuse s .noZero
        else if st = .overload then refuse s .overload
        else if st = .underload then refuse s .underload
        else a := by
  simp only [stateTests, tested_cons, tested_nil, beq_iff_eq]

/-! ## ZERO and the station tare (R13 to R16) -/

theorem zeroRequest_eq (n : StationNo) (p : List Byte) (s : State) :
    zeroRequest n p s
      = tested (zeroTests s n) s
          (s.setContext n
            { s.context n with
              zero := some (((s.context n).newest.map (·.m)).getD 0), zeroLimit := false, window := [] }, okReply []) := rfl

theorem tareKeyRequest_eq (n : StationNo) (p : List Byte) (s : State) :
    tareKeyRequest n p s
      = tested (tareKeyTests s n) s
          (s.setContext n ((s.context n).withTare (keyTare (s.calibration n).fields (s.context n).gross) .key),
            okReply (be 2 (keyTare (s.calibration n).fields (s.context n).gross))) := rfl

theorem tareSetRequest_eq (n : StationNo) (p : List Byte) (s : State) :
    tareSetRequest n p s
      = tested (tareSetTests s n (natAt p 0 2)) s
          (s.setContext n ((s.context n).withTare (tareRounded (s.calibration n).fields (natAt p 0 2)) .numeric),
            okReply (be 2 (tareRounded (s.calibration n).fields (natAt p 0 2)))) := rfl

theorem tareClearRequest_eq (n : StationNo) (p : List Byte) (s : State) :
    tareClearRequest n p s
      = tested (linkTests s n) s
          (if (s.context n).tare.isSome then
              s.setContext n { s.context n with tare := none, tareUsed := false, window := [] }
            else s, okReply []) := rfl

/-- A positive gross value rounds as a natural number does. -/
theorem keyTare_of_pos (c : CalFields) {gross : Int} (h : 0 < gross) :
    keyTare c gross = ((2 * gross.toNat + c.e1 * 1000) / (2 * (c.e1 * 1000))) * c.e1 := by
  have hround : roundHalfAway gross (c.e1 * 1000)
      = ((2 * gross.toNat + c.e1 * 1000) / (2 * (c.e1 * 1000)) : Nat) := by
    have habs : gross.natAbs = gross.toNat := by omega
    rw [roundHalfAway, if_neg (by omega), habs]
  rw [keyTare, hround, Int.toNat_natCast]

end Sys2Proof.Machine

/-- Settles O14: each request's tests in order. -/
theorem zeroAndTareAnswered : Obligations.ZeroAndTareAnswered := by
  refine ⟨?_, ?_, ?_, ?_⟩
  · intro s n tag payload rest hwaits s1 x c m
    refine answer_eq_replied (act := zeroRequest n) hwaits ?_
    rw [zeroRequest_eq]
    simp only [zeroTests, tested_append, tested_linkTests, tested_cons, tested_nil, Bool.not_eq_true', beq_iff_eq,
      decide_eq_true_eq, Option.isSome_iff_ne_none]
    rfl
  · intro s n tag payload rest hwaits s1 x c gross g
    refine answer_eq_replied (act := tareKeyRequest n) hwaits ?_
    change tareKeyRequest n payload s1 = _
    rw [tareKeyRequest_eq]
    simp only [tareKeyTests, tested_append, tested_linkTests, tested_stateTests, tested_cons, tested_nil,
      Bool.not_eq_true', beq_iff_eq, decide_eq_true_eq]
    by_cases hgross : gross ≤ 0
    · simp only [if_pos (show (s1.context n).gross ≤ 0 from hgross), if_pos hgross]
      rfl
    · have hg : keyTare (s1.calibration n).fields (s1.context n).gross = g := keyTare_of_pos c (not_le.mp hgross)
      rw [hg]
      rfl
  · intro s n tag payload rest hwaits s1 x c value g
    refine answer_eq_replied (act := tareSetRequest n) hwaits ?_
    rw [tareSetRequest_eq]
    simp only [tareSetTests, tested_append, tested_linkTests, tested_cons, tested_nil, Bool.not_eq_true', beq_iff_eq,
      decide_eq_true_eq]
    rfl
  · intro s n tag payload rest hwaits s1
    refine answer_eq_replied (act := tareClearRequest n) hwaits ?_
    rw [tareClearRequest_eq, tested_linkTests]
    have hcontext : s1.context n = s.context n := rfl
    have hlink : s1.link n = s.link n := rfl
    rw [hcontext, hlink]
    cases (s.context n).tare with
    | none => rfl
    | some t => rfl

end

section
/-! Samples (01 sections 1.3 to 1.7 and 1.9). -/

open Sys2Proof Sys2Proof.Machine

namespace Sys2Proof.Machine

/-! ## A sample's arrival (R9, R21) -/

theorem exec_sample {s : State} (hhigh : s.resetLow = false) (n : StationNo) (count : Int) :
    exec (.sample n count) s = .next ((s.goodFrame (.s n)).sample n count).startAll :=
  unlessReset_high (fun s => (s.goodFrame (.s n)).sample n count) hhigh

theorem goodFrame_of_absent {s : State} {n : StationNo} (h : s.link n = .absent) : s.goodFrame (.s n) = s := if_pos h

theorem goodFrame_of_present {s : State} {n : StationNo} (h : s.link n ≠ .absent) :
    s.goodFrame (.s n) = s.setStation n { s.station n with silence := some 2000 } := if_neg h

theorem setSilence_link (s : State) (n : StationNo) (x : Option Nat) :
    (s.setStation n { s.station n with silence := x }).link n = s.link n := by simp [State.link]

theorem sample_of_absent {s : State} {n : StationNo} (count : Int) (h : s.link n = .absent) : s.sample n count = s := by
  rw [State.sample, h]

theorem sample_of_enrolled {s : State} {n : StationNo} (count : Int) (h : s.link n = .enrolled) :
    s.sample n count =
      let x := enrolledSample (s.calibration n) (s.profile n).autoClear count (s.context n)
      (s.setContext n x).onPort (.s n) (·.pushState ⟨0x70, 0, weightOf (s.calibration n) x⟩) := by
  rw [State.sample, h]
  rfl

theorem sample_of_service {s : State} {n : StationNo} (count : Int) (h : s.link n = .service) :
    s.sample n count =
      let x := { s.context n with window := pushEntry (s.context n).window (serviceEntry (s.staged n) count) }
      (s.setContext n x).onPort (.s n) (·.pushState ⟨0x70, 0, serviceWeight (s.staged n) x.window⟩) := by
  rw [State.sample, h]
  rfl

/-- The push of an uncalibrated station. -/
theorem weightOf_noCal {r : CalRecord} {x : WeighContext} (h : x.state = .noCal) :
    weightOf r x = List.replicate 15 0 := by
  rw [weightOf, h]
  rfl

theorem getLast?_pushEntry (w : List WindowEntry) (e : WindowEntry) : (pushEntry w e).getLast? = some e := by
  simp [pushEntry]

/-- The push of a station in SERVICE, from its newest entry's gross value. -/
theorem serviceWeight_pushEntry (c : CalFields) (w : List WindowEntry) (e : WindowEntry) :
    serviceWeight c (pushEntry w e)
      = weightPayload c 5 (windowStable c (pushEntry w e)) false ((e.gross.filter c.inRange).map fun g => (g, g)) none := by
  rw [serviceWeight, getLast?_pushEntry]
  rfl

/-- The bytes of a push with one value for gross and net, and no tare. -/
theorem weightPayload_service (c : CalFields) (stable : Bool) (gross : Option Int) :
    weightPayload c 5 stable false ((gross.filter c.inRange).map fun g => (g, g)) none
      = [5, BitVec.ofNat 8
            ((if stable then 1 else 0) + (match gross with
              | some g => if -((20 * c.e1 * 1000 : Nat) : Int) ≤ g ∧ g ≤ ((c.max2 + 9 * c.e2) * 1000 : Nat) then 4 else 0
              | none => 0))]
        ++ (match gross with
            | some g =>
              if -((20 * c.e1 * 1000 : Nat) : Int) ≤ g ∧ g ≤ ((c.max2 + 9 * c.e2) * 1000 : Nat) then
                beInt 4 (c.shown g) ++ be 1 (c.interval g) ++ beInt 4 (c.shown g) ++ be 1 (c.interval g)
              else List.replicate 10 0
            | none => List.replicate 10 0)
        ++ [0, 0, 0] := by
  cases gross with
  | none =>
    simp only [Option.filter_none, Option.map_none, weightPayload, be_one]
    cases stable <;> rfl
  | some g =>
    by_cases hg : c.inRange g = true
    · have hin := (c.inRange_iff g).mp hg
      simp only [Option.filter_some, hg, if_true, if_pos hin, Option.map_some, weightPayload, be_one]
      cases stable <;> rfl
    · have hin := mt (c.inRange_iff g).mpr hg
      simp only [Option.filter_some, hg, if_neg hin, Option.map_none, weightPayload, be_one]
      cases stable <;> rfl

theorem staged_of_opened {s : State} {n : StationNo} {f : CalFields} {key : Option (List Word32)}
    (h : s.lock.session = .opened n f key) : s.staged n = f := by
  rw [State.staged, h]
  exact if_pos rfl

end Sys2Proof.Machine

/-- Settles O12, by the station's link state. -/
theorem otherSamplesAreTaken : Obligations.OtherSamplesAreTaken := by
  refine ⟨fun s n count hhigh => ⟨fun hlink => ?_, fun hlink hunset => ?_⟩, fun s n count f key hhigh hlink hsession => ?_⟩
  · rw [exec_sample hhigh, goodFrame_of_absent hlink, sample_of_absent count hlink]
  · intro x w
    have hlink' := (setSilence_link s n (some 2000)).trans hlink
    rw [exec_sample hhigh, goodFrame_of_present (by simp [hlink]), sample_of_enrolled count hlink']
    have hx : enrolledSample (s.calibration n) (s.profile n).autoClear count x
        = { x with state := .noCal, window := w, newest := none } := if_neg (by simp [hunset])
    rw [State.setStation_calibration, State.setStation_profile, State.setStation_context, hx]
    dsimp only
    rw [weightOf_noCal rfl]
  · intro x gross w flags weights
    have hlink' := (setSilence_link s n (some 2000)).trans hlink
    rw [exec_sample hhigh, goodFrame_of_present (by simp [hlink]), sample_of_service count hlink']
    have hstaged : (s.setStation n { s.station n with silence := some 2000 }).staged n = f := staged_of_opened hsession
    rw [hstaged]
    dsimp only
    rw [serviceWeight_pushEntry, weightPayload_service]
    rfl

namespace Sys2Proof.Machine

/-! ## The sample pipeline (R9) -/

/-- A context with a sample taken: its state, its window entry and the newest reading. -/
def WeighContext.taken (c : CalFields) (count : Int) (x : WeighContext) : WeighContext :=
  let r := readingOf (c.mass count) x.zero x.tare
  { x with state := stateOf c x.zero r.gross, window := pushEntry x.window ⟨count, some r.gross⟩, newest := some r }

/-- A context with its newest sample taken again after an adjustment. -/
def WeighContext.again (c : CalFields) (count : Int) (z : WeighContext) : WeighContext :=
  let r := readingOf (c.mass count) z.zero z.tare
  { z with state := stateOf c z.zero r.gross, window := [⟨count, some r.gross⟩], newest := some r }

theorem weighSample_eq (c : CalFields) (autoClear : Bool) (count : Int) (x : WeighContext) :
    weighSample c autoClear count x =
      let z := adjust c autoClear (readingOf (c.mass count) x.zero x.tare) (x.taken c count)
      if z.zero = x.zero ∧ z.tare = x.tare then z else z.again c count := rfl

/-- An adjustment that leaves zero and tare leaves the sample as taken. -/
theorem weighSample_of_kept {c : CalFields} {autoClear : Bool} {count : Int} {x z : WeighContext}
    (hz : adjust c autoClear (readingOf (c.mass count) x.zero x.tare) (x.taken c count) = z)
    (hkept : z.zero = x.zero ∧ z.tare = x.tare) : weighSample c autoClear count x = z := by
  rw [weighSample_eq, hz]
  exact if_pos hkept

/-- After any other adjustment the sample is taken again. -/
theorem weighSample_of_adjusted {c : CalFields} {autoClear : Bool} {count : Int} {x z : WeighContext}
    (hz : adjust c autoClear (readingOf (c.mass count) x.zero x.tare) (x.taken c count) = z)
    (hchanged : ¬(z.zero = x.zero ∧ z.tare = x.tare)) : weighSample c autoClear count x = z.again c count := by
  rw [weighSample_eq, hz]
  exact if_neg hchanged

theorem adjust_of_noZero {c : CalFields} (autoClear : Bool) (r : Reading) {x : WeighContext} (h : x.state = .noZero) :
    adjust c autoClear r x =
      if (windowStable c x.window && decide (r.m.natAbs ≤ c.max2 * 100)) = true then
        { x with initialZero := some r.m, zero := some r.m, zeroLimit := false }
      else x := by
  rw [adjust, h]

theorem adjust_of_out {c : CalFields} (autoClear : Bool) (r : Reading) {x : WeighContext} (h : x.state ≠ .noZero)
    (h' : x.state ≠ .weighing) : adjust c autoClear r x = x := by
  unfold adjust
  dsimp only
  split
  · next e => exact absurd e h
  · next e => exact absurd e h'
  · rfl

/-- In WEIGHING nothing is adjusted unless the sample is stable and the platform empty. -/
theorem adjust_of_loaded {c : CalFields} (autoClear : Bool) {r : Reading} {x : WeighContext} (h : x.state = .weighing)
    (hloaded : windowStable c x.window = false ∨ c.e1 * 500 < r.gross.natAbs) : adjust c autoClear r x = x := by
  have hidle : (windowStable c x.window && decide (r.gross.natAbs ≤ c.e1 * 500)) = false := by
    rcases hloaded with h | h
    · rw [h, Bool.false_and]
    · rw [decide_eq_false (by omega), Bool.and_false]
  rw [adjust, h]
  dsimp only
  rw [if_neg, if_neg]
  · rw [Bool.and_right_comm, hidle, Bool.false_and]
    exact Bool.false_ne_true
  · rw [Bool.and_assoc, hidle, Bool.and_false]
    exact Bool.false_ne_true

/-- On an empty, stable platform: auto-clear of a used station tare, else tracking without a station tare. -/
theorem adjust_of_empty {c : CalFields} (autoClear : Bool) {r : Reading} {x : WeighContext} (h : x.state = .weighing)
    (hstable : windowStable c x.window = true) (hempty : r.gross.natAbs ≤ c.e1 * 500) :
    adjust c autoClear r x =
      if autoClear = true ∧ x.tare ≠ none ∧ x.tareUsed = true then { x with tare := none, tareUsed := false }
      else if x.tare = none then
        { x with
          zero := some (clampZero c (x.initialZero.getD 0) r.m)
          zeroLimit := decide (clampZero c (x.initialZero.getD 0) r.m ≠ r.m) }
      else x := by
  have hbne (a b : Int) : (a != b) = decide (a ≠ b) := by
    rw [Bool.eq_iff_iff, bne_iff_ne, decide_eq_true_eq]
  rw [adjust, h]
  simp only [hbne, hstable, decide_eq_true hempty, Bool.and_true, Bool.true_and, Bool.and_eq_true, Option.isSome_iff_ne_none,
    Option.isNone_iff_eq_none, and_assoc]

end Sys2Proof.Machine

/-- Settles O13: the adjustments by the sample's weighing state. -/
theorem sampleIsWeighed : Obligations.SampleIsWeighed := by
  intro s n count hhigh hlink hset c x m tare gross rangeState state w stable taken again z0 candidate y
  have hlink' := (setSilence_link s n (some 2000)).trans hlink
  have hy : weighSample c (s.profile n).autoClear count x = y := by
    have hreading : readingOf (c.mass count) x.zero x.tare = ⟨m, gross, gross - tare⟩ := rfl
    have hstate : stateOf c x.zero gross = state := by
      cases hzero : x.zero with
      | none => simp [stateOf, state, hzero]
      | some z =>
        simp [stateOf, state, hzero]
        rfl
    have htaken : x.taken c count = taken := by
      rw [WeighContext.taken, hreading]
      dsimp only
      rw [hstate]
      rfl
    have hagain (z : Int) (u : WeighContext) (hz : u.zero = some z) : u.again c count = again z (tareMg u.tare) u := by
      cases u
      cases hz
      rfl
    have hadjust {u : WeighContext} (h : adjust c (s.profile n).autoClear ⟨m, gross, gross - tare⟩ taken = u) :
        adjust c (s.profile n).autoClear (readingOf (c.mass count) x.zero x.tare) (x.taken c count) = u := htaken ▸ h
    by_cases hzero : x.zero = none
    · have hstate' : taken.state = .noZero := if_pos hzero
      have hnoZero := adjust_of_noZero (c := c) (s.profile n).autoClear ⟨m, gross, gross - tare⟩ hstate'
      simp only [Bool.and_eq_true, decide_eq_true_eq] at hnoZero
      by_cases hcapture : stable = true ∧ m.natAbs ≤ c.max2 * 100
      · have hy' : y = again m tare { taken with initialZero := some m, zero := some m, zeroLimit := false } :=
          (if_pos hzero).trans (if_pos hcapture)
        rw [weighSample_of_adjusted (hadjust (hnoZero.trans (if_pos hcapture))) (by simp [hzero]), hy', hagain m _ rfl]
        rfl
      · have hy' : y = taken := (if_pos hzero).trans (if_neg hcapture)
        rw [weighSample_of_kept (hadjust (hnoZero.trans (if_neg hcapture))) ⟨rfl, rfl⟩, hy']
    · have hy₁ : y = _ := if_neg hzero
      obtain ⟨z, hz⟩ := Option.ne_none_iff_exists'.mp hzero
      have htakenState : taken.state = state := rfl
      have hnotNoZero : taken.state ≠ .noZero := by
        rw [htakenState]
        simp only [state, if_neg hzero, rangeState]
        split_ifs <;> simp
      by_cases hout : state ≠ .weighing ∨ stable = false ∨ c.e1 * 500 < gross.natAbs
      · have hy' : y = taken := hy₁.trans (if_pos hout)
        have hkept : adjust c (s.profile n).autoClear ⟨m, gross, gross - tare⟩ taken = taken := by
          by_cases hweighing : state = .weighing
          · exact adjust_of_loaded _ hweighing (hout.resolve_left (not_not.mpr hweighing))
          · exact adjust_of_out _ _ hnotNoZero hweighing
        rw [weighSample_of_kept (hadjust hkept) ⟨rfl, rfl⟩, hy']
      · have hy₂ : y = _ := hy₁.trans (if_neg hout)
        simp only [not_or, not_not, Bool.not_eq_false, not_lt] at hout
        obtain ⟨hweighing, hstable, hempty⟩ := hout
        have hzgetD : x.zero.getD 0 = z := by rw [hz, Option.getD_some]
        have hcandidate : clampZero c (taken.initialZero.getD 0) m = candidate := by
          have hband : ((c.max2 * 20 : Nat) : Int) = c.max2 * 20 := by push_cast; rfl
          rw [clampZero, hband]
        have hempty' := adjust_of_empty (c := c) (s.profile n).autoClear (r := ⟨m, gross, gross - tare⟩) (x := taken)
          hweighing hstable hempty
        rw [hcandidate] at hempty'
        by_cases hclear : (s.profile n).autoClear = true ∧ x.tare ≠ none ∧ x.tareUsed = true
        · rw [weighSample_of_adjusted (hadjust (hempty'.trans (if_pos hclear))) fun h => hclear.2.1 h.2.symm,
            hy₂.trans (if_pos hclear), hzgetD]
          exact hagain z _ hz
        · have hy₃ : y = _ := hy₂.trans (if_neg hclear)
          have htracking := hempty'.trans (if_neg hclear)
          by_cases htare : x.tare = none
          · rw [if_pos htare] at htracking
            by_cases hsame : x.zero = some candidate
            · rw [weighSample_of_kept (hadjust htracking) ⟨hsame.symm, rfl⟩, hy₃.trans ((if_pos htare).trans (if_pos hsame)),
                ← hsame]
            · rw [weighSample_of_adjusted (hadjust htracking) fun h => hsame h.1.symm,
                hy₃.trans ((if_pos htare).trans (if_neg hsame)), hagain candidate _ rfl]
              have hzero' : tareMg taken.tare = 0 := by
                change tareMg x.tare = 0
                rw [htare]
                rfl
              dsimp only
              rw [hzero']
          · rw [weighSample_of_kept (hadjust (htracking.trans (if_neg htare))) ⟨rfl, rfl⟩, hy₃.trans (if_neg htare)]
  have henrolled : enrolledSample (s.calibration n) (s.profile n).autoClear count x = y := (if_pos hset).trans hy
  rw [exec_sample hhigh, goodFrame_of_present (by simp [hlink]), sample_of_enrolled count hlink']
  rw [State.setStation_calibration, State.setStation_profile, State.setStation_context, henrolled]

end

section
/-! The direct requests of the PLU table (02 sections 2.4 and 2.5). -/

open Sys2Proof Sys2Proof.Machine

namespace Sys2Proof.Machine

theorem trading_iff (s : State) : s.trading = true ↔ s.counter.state = .opened ∨ s.counter.state = .draining := by
  simp [State.trading]

theorem generationEnded_iff (s : State) : s.generationEnded = true ↔ s.pricing.generation = 4294967295 := by
  rw [State.generationEnded, beq_iff_eq]
  exact Iff.rfl

theorem pluOk_eq_false_iff (p : Nat) : pluOk p = false ↔ p = 0 ∨ 99999 < p := by
  have hlast : Config.lastPlu = 99999 := rfl
  rw [← Bool.not_eq_true, pluOk, Bool.and_eq_true, decide_eq_true_eq, decide_eq_true_eq]
  omega

theorem allZero_iff (t : PluTotals) : t.allZero = true ↔ t = ⟨0, 0, 0, 0⟩ := by
  have := t.not_allZero
  rw [← Bool.not_eq_false, ← Bool.not_eq_true', this, bne_iff_ne, not_not]

theorem removable_iff (s : State) (r : PluRecord) :
    s.removable r = true ↔ r.totals = ⟨0, 0, 0, 0⟩ ∧ s.pluReferenced r.fields.number = false := by
  rw [State.removable, Bool.and_eq_true, allZero_iff, Bool.not_eq_true']

/-! ## PLU WRITE and PLU REMOVE (R32 to R34) -/

theorem pluWriteRequest_eq (p : List Byte) (s : State) :
    pluWriteRequest p s =
      if s.counter.state = .opened ∨ s.counter.state = .draining then refuse s .refusedState
      else
        match pluFieldsAt p 0 with
        | none => refuse s .badValue
        | some f =>
          match s.plu.place (writtenRecord f (s.plu.find f.number) (s.pricing.generation + 1)) with
          | none => refuse s .tableFull
          | some t =>
            if s.pricing.generation = 4294967295 then refuse s .refusedState
            else
              (({ s with plu := t }).stepGeneration,
                okReply (be 1 (priorCode (s.plu.find f.number)) ++ be 4 (s.pricing.generation + 1) ++ tableCounts t)) := by
  simp only [pluWriteRequest, trading_iff, generationEnded_iff]
  rfl

theorem pluRemoveRequest_eq (p : List Byte) (s : State) :
    pluRemoveRequest p s =
      if s.counter.state = .opened ∨ s.counter.state = .draining then refuse s .refusedState
      else if natAt p 0 3 = 0 ∨ 99999 < natAt p 0 3 then refuse s .badValue
      else
        match s.plu.find (natAt p 0 3) with
        | none => refuse s .noPlu
        | some r =>
          if s.pricing.generation = 4294967295 then refuse s .refusedState
          else
            ((s.removalStep r (s.pricing.generation + 1)).stepGeneration,
              okReply (be 1 (if s.removable r then 0 else 1) ++ be 4 (s.pricing.generation + 1)
                ++ tableCounts (s.removalStep r (s.pricing.generation + 1)).plu)) := by
  simp only [pluRemoveRequest, trading_iff, generationEnded_iff, pluOk_eq_false_iff]
  rfl

end Sys2Proof.Machine

/-- Settles O16: the tests in order, and the removal step. -/
theorem pluWriteAndRemoveAnswered : Obligations.PluWriteAndRemoveAnswered := by
  refine ⟨?_, ?_⟩
  · intro s tag payload rest hwaits s1
    refine answer_eq_replied (act := pluWriteRequest) hwaits ?_
    change pluWriteRequest payload s1 = _
    rw [pluWriteRequest_eq]
    have hplu : s1.plu = s.plu := rfl
    have hpricing : s1.pricing = s.pricing := rfl
    have hcounter : s1.counter = s.counter := rfl
    rw [hplu, hpricing, hcounter]
    refine if_congr Iff.rfl rfl ?_
    cases pluFieldsAt payload 0 with
    | none => rfl
    | some f =>
      dsimp only
      have hrecord : writtenRecord f (s.plu.find f.number) (s.pricing.generation + 1)
          = ⟨f, .active, s.pricing.generation + 1, ((s.plu.find f.number).map (·.totals)).getD ⟨0, 0, 0, 0⟩⟩ := rfl
      rw [hrecord]
      cases s.plu.place _ with
      | none => rfl
      | some t =>
        refine if_congr Iff.rfl rfl ?_
        rw [tableCounts, ← List.append_assoc]
        cases s.plu.find f.number <;> rfl
  · intro s tag payload rest hwaits s1 p gen
    refine answer_eq_replied (act := pluRemoveRequest) hwaits ?_
    change pluRemoveRequest payload s1 = _
    rw [pluRemoveRequest_eq]
    have hplu : s1.plu = s.plu := rfl
    have hpricing : s1.pricing = s.pricing := rfl
    have hcounter : s1.counter = s.counter := rfl
    rw [hplu, hpricing, hcounter]
    refine if_congr Iff.rfl rfl (if_congr Iff.rfl rfl ?_)
    cases s.plu.find p with
    | none => rfl
    | some r =>
      dsimp only
      refine if_congr Iff.rfl rfl ?_
      rw [tableCounts, ← List.append_assoc]
      simp only [State.removalStep, removable_iff]
      rfl

namespace Sys2Proof.Machine

/-! ## PLU READ (R36) -/

theorem pluReadRequest_of_badMode {p : List Byte} (s : State) (h : 1 < natAt p 3 1) :
    pluReadRequest p s = refuse s .badValue := by
  have hflag : flagAt p 3 = none := by
    unfold flagAt
    split
    · omega
    · omega
    · rfl
  rw [pluReadRequest, hflag]

theorem pluReadRequest_of_mode {p : List Byte} (s : State) (h : ¬1 < natAt p 3 1) :
    pluReadRequest p s =
      if natAt p 0 3 = 0 ∨ 99999 < natAt p 0 3 then refuse s .badValue
      else
        match (if natAt p 3 1 = 0 then s.plu.find (natAt p 0 3)
          else s.plu.records.find? fun r => natAt p 0 3 ≤ r.fields.number) with
        | none => refuse s .noPlu
        | some r =>
          (s, okReply (r.fields.bytes ++ be 1 r.state.code ++ be 4 r.changedGen ++ r.totals.bytes
            ++ be 4 s.generation ++ tableCounts s.plu)) := by
  have hflag : flagAt p 3 = some (decide (natAt p 3 1 ≠ 0)) := by
    refine flagAt_of_natAt ?_
    by_cases h0 : natAt p 3 1 = 0
    · rw [h0]
      rfl
    · have h1 : natAt p 3 1 = 1 := by omega
      rw [h1]
      rfl
  have hsearch : s.plu.search (natAt p 0 3) (decide (natAt p 3 1 ≠ 0))
      = if natAt p 3 1 = 0 then s.plu.find (natAt p 0 3)
        else s.plu.records.find? fun r => natAt p 0 3 ≤ r.fields.number := by
    by_cases h0 : natAt p 3 1 = 0
    · simp [PluTable.search, h0]
    · simp [PluTable.search, h0]
  rw [pluReadRequest, hflag]
  simp only [pluOk_eq_false_iff, hsearch] <;> rfl

/-! ## PLU WIPE (R35) -/

/-- What the wipe does to the table for one record. -/
def PluTable.wipe (gen : Nat) (t : PluTable) (r : PluRecord) : PluTable :=
  if r.totals = ⟨0, 0, 0, 0⟩ then t.remove r.fields.number
  else if r.state = .active then t.update r.fields.number (·.retire gen)
  else t

/-- What the wipe makes of a record. -/
def PluRecord.wiped (gen : Nat) (r : PluRecord) : Option PluRecord :=
  if r.totals = ⟨0, 0, 0, 0⟩ then none
  else some { r with state := .retired, changedGen := if r.state = .active then gen else r.changedGen }

theorem pluReferenced_of_no_orders {s : State} (h : s.openOrderCount = 0) (p : Nat) : s.pluReferenced p = false := by
  have hempty : s.openOrders = [] := List.length_eq_zero_iff.mp h
  rw [State.pluReferenced, hempty]
  rfl

theorem removable_of_no_orders {s : State} (h : s.openOrderCount = 0) (r : PluRecord) :
    s.removable r = true ↔ r.totals = ⟨0, 0, 0, 0⟩ := by
  rw [removable_iff, pluReferenced_of_no_orders h, and_iff_left rfl]

theorem wipeStep_eq {s : State} (h : s.openOrderCount = 0) (r : PluRecord) :
    s.wipeStep r = { s with plu := s.plu.wipe (s.pricing.generation + 1) r } := by
  have hremovable := removable_of_no_orders h r
  have hchanges : s.wipeChanges r = true ↔ r.totals = ⟨0, 0, 0, 0⟩ ∨ r.state = .active := by
    rw [State.wipeChanges, Bool.or_eq_true, hremovable, beq_iff_eq]
  unfold State.wipeStep State.removalStep PluTable.wipe
  simp only [hremovable, hchanges]
  split_ifs
  · rfl
  · rfl
  · exact absurd ‹_ ∨ _› (by tauto)
  · exact absurd (Or.inl ‹_›) ‹¬(_ ∨ _)›
  · exact absurd (Or.inr ‹_›) ‹¬(_ ∨ _)›
  · rfl

theorem foldl_wipeStep_eq {s : State} (h : s.openOrderCount = 0) (rs : List PluRecord) :
    rs.foldl State.wipeStep s = { s with plu := rs.foldl (PluTable.wipe (s.pricing.generation + 1)) s.plu } := by
  induction rs generalizing s with
  | nil => rfl
  | cons r rs ih =>
    rw [List.foldl_cons, wipeStep_eq h, ih (by exact h)]
    rfl

theorem PluTable.Ok.wipe {t : PluTable} (h : t.Ok) (gen : Nat) (r : PluRecord) : (t.wipe gen r).Ok := by
  unfold PluTable.wipe
  split_ifs
  · exact h.remove _
  · refine h.update fun x hx => ?_
    have hfields := h.valid_of_find hx
    exact hfields
  · exact h

/-- The wipe of one record leaves every other number, and makes of its own what it makes of the record. -/
theorem PluTable.Ok.find_wipe {t : PluTable} (h : t.Ok) (gen : Nat) (r : PluRecord) (p : Nat) (x : PluRecord)
    (hr : r.fields.number = p → r = x) (hp : t.find p = some x ∨ t.find p = x.wiped gen) :
    (t.wipe gen r).find p = if r.fields.number = p then x.wiped gen else t.find p := by
  by_cases hn : r.fields.number = p
  · obtain rfl := hr hn
    rw [if_pos hn]
    unfold PluTable.wipe PluRecord.wiped at *
    split_ifs with hzero hactive
    · rw [h.find_remove, if_pos hn.symm]
    · rw [h.find_update, if_pos hn.symm, hn]
      rw [if_neg hzero, if_pos hactive] at hp
      rcases hp with hp | hp
      · rw [hp]
        rfl
      · rw [hp]
        rfl
    · rw [if_neg hzero, if_neg hactive] at hp
      have hretired : r.state = .retired := by
        cases hs : r.state with
        | active => exact absurd hs hactive
        | retired => rfl
      rcases hp with hp | hp
      · rw [hp, ← hretired]
      · exact hp
  · rw [if_neg hn]
    unfold PluTable.wipe
    split_ifs
    · rw [h.find_remove, if_neg (Ne.symm hn)]
    · rw [h.find_update, if_neg (Ne.symm hn)]
    · rfl

/-- A wipe over records that include a number's own makes of that number's record what a wipe makes of it. -/
theorem PluTable.Ok.find_foldl_wipe {t : PluTable} (h : t.Ok) (gen : Nat) (p : Nat) (x : PluRecord)
    (rs : List PluRecord) (hrs : ∀ r ∈ rs, r.fields.number = p → r = x)
    (hp : t.find p = x.wiped gen ∨ (t.find p = some x ∧ ∃ r ∈ rs, r.fields.number = p)) :
    (rs.foldl (PluTable.wipe gen) t).find p = x.wiped gen := by
  induction rs generalizing t with
  | nil =>
    rcases hp with hp | ⟨-, r, hr, -⟩
    · exact hp
    · cases hr
  | cons r rs ih =>
    have hstep := h.find_wipe gen r p x (hrs r (List.mem_cons_self ..)) (hp.elim .inr fun hp => .inl hp.1)
    refine ih (h.wipe gen r) (fun y hy => hrs y (List.mem_cons_of_mem _ hy)) ?_
    rw [hstep]
    split_ifs with hn
    · exact .inl rfl
    · refine hp.imp_right fun hp => ⟨hp.1, ?_⟩
      obtain ⟨y, hy, hyn⟩ := hp.2
      rcases List.mem_cons.mp hy with rfl | hy
      · exact absurd hyn hn
      · exact ⟨y, hy, hyn⟩

/-- A wipe over records of other numbers leaves a number as it was. -/
theorem PluTable.Ok.find_foldl_wipe_ne {t : PluTable} (h : t.Ok) (gen : Nat) (p : Nat) (rs : List PluRecord)
    (hrs : ∀ r ∈ rs, r.fields.number ≠ p) : (rs.foldl (PluTable.wipe gen) t).find p = t.find p := by
  induction rs generalizing t with
  | nil => rfl
  | cons r rs ih =>
    rw [List.foldl_cons, ih (h.wipe gen r) fun y hy => hrs y (List.mem_cons_of_mem _ hy)]
    have hn := hrs r (List.mem_cons_self ..)
    unfold PluTable.wipe
    split_ifs
    · rw [h.find_remove, if_neg hn.symm]
    · rw [h.find_update, if_neg hn.symm]
    · rfl

theorem PluTable.Ok.foldl_wipe {t : PluTable} (h : t.Ok) (gen : Nat) (rs : List PluRecord) :
    (rs.foldl (PluTable.wipe gen) t).Ok := by
  induction rs generalizing t with
  | nil => exact h
  | cons r rs ih => exact ih (h.wipe gen r)

/-- The whole wipe, number by number. -/
theorem PluTable.Ok.find_wiped {t : PluTable} (h : t.Ok) (gen : Nat) (p : Nat) :
    (t.records.foldl (PluTable.wipe gen) t).find p = (t.find p).bind (PluRecord.wiped gen) := by
  cases hp : t.find p with
  | none =>
    rw [h.find_foldl_wipe_ne gen p t.records fun r hr hn => ?_]
    · exact hp
    · have := h.find_eq_some.mpr ⟨hr, hn⟩
      rw [hp] at this
      cases this
  | some x =>
    have hmem := h.find_eq_some.mp hp
    refine h.find_foldl_wipe gen p x t.records (fun r hr hn => ?_) (.inr ⟨hp, x, hmem⟩)
    have := h.find_eq_some.mpr ⟨hr, hn⟩
    rw [hp] at this
    exact (Option.some_injective _ this).symm

/-- A wipe changes something exactly when it would remove or newly retire a record. -/
theorem wipe_any_iff (rs : List PluRecord) :
    (rs.any fun r => r.totals.allZero || r.state == .active) = true
      ↔ (rs.filter fun r => r.totals == ⟨0, 0, 0, 0⟩) ≠ []
        ∨ (rs.filter fun r => r.totals != ⟨0, 0, 0, 0⟩ && r.state == .active) ≠ [] := by
  simp only [List.any_eq_true, Bool.or_eq_true, allZero_iff, beq_iff_eq, ne_eq, List.filter_eq_nil_iff, not_forall,
    Bool.and_eq_true, bne_iff_ne, exists_prop, not_not]
  constructor
  · rintro ⟨r, hr, h⟩
    by_cases hzero : r.totals = ⟨0, 0, 0, 0⟩
    · exact .inl ⟨r, hr, hzero⟩
    · exact .inr ⟨r, hr, hzero, h.resolve_left hzero⟩
  · rintro (⟨r, hr, h⟩ | ⟨r, hr, -, h⟩)
    · exact ⟨r, hr, .inl h⟩
    · exact ⟨r, hr, .inr h⟩

theorem countP_removable {s : State} (h : s.openOrderCount = 0) (rs : List PluRecord) :
    rs.countP s.removable = (rs.filter fun r => r.totals == ⟨0, 0, 0, 0⟩).length := by
  rw [List.countP_eq_length_filter]
  refine congrArg List.length (List.filter_congr fun r _ => ?_)
  rw [Bool.eq_iff_iff, removable_of_no_orders h, beq_iff_eq]

theorem countP_retired {s : State} (h : s.openOrderCount = 0) (rs : List PluRecord) :
    (rs.countP fun r => s.wipeChanges r && !s.removable r)
      = (rs.filter fun r => r.totals != ⟨0, 0, 0, 0⟩ && r.state == .active).length := by
  rw [List.countP_eq_length_filter]
  refine congrArg List.length (List.filter_congr fun r _ => ?_)
  rw [Bool.eq_iff_iff, State.wipeChanges, Bool.and_eq_true, Bool.or_eq_true, Bool.not_eq_true', ← Bool.not_eq_true,
    removable_of_no_orders h, Bool.and_eq_true, bne_iff_ne, beq_iff_eq]
  tauto

end Sys2Proof.Machine

/-- Settles O17: the wipe number by number, and the read by its mode. -/
theorem pluWipeAndReadAnswered : Obligations.PluWipeAndReadAnswered := by
  refine ⟨?_, ?_⟩
  · intro s tag payload rest hwaits s1 done trading gen removed retired changes gen'
    have hdone {a : Answer} (h : pluWipeRequest payload s1 = a) : done a := answer_eq_replied hwaits h
    have htrading : s1.trading = true ↔ trading := trading_iff s1
    have hchanges : (s1.plu.records.any fun r => r.totals.allZero || r.state == .active) = true ↔ changes := wipe_any_iff s.plu.records
    have hended : s1.generationEnded = true ↔ s.pricing.generation = 4294967295 := generationEnded_iff s1
    refine ⟨fun ht => hdone ?_, fun ht hend hc => hdone ?_, fun ht hend hok hnone => ?_⟩
    · exact if_pos (htrading.mpr ht)
    · rw [pluWipeRequest, if_neg (mt htrading.mp ht)]
      refine if_pos ?_
      rw [Bool.and_eq_true, hchanges, hended]
      exact ⟨hend, hc⟩
    · refine ⟨_, hok.foldl_wipe gen s.plu.records, fun p _ => ?_, hdone ?_⟩
      · rw [hok.find_wiped]
        cases s.plu.find p <;> rfl
      · have hfree : ¬(s1.generationEnded && s1.plu.records.any fun r => r.totals.allZero || r.state == .active) = true := by
          rw [Bool.and_eq_true, hchanges, hended]
          exact fun hend' => hend hend'.1 hend'.2
        have hremoved : s1.plu.records.countP s1.removable = removed.length := countP_removable (s := s1) hnone _
        have hretired : (s1.plu.records.countP fun r => s1.wipeChanges r && !s1.removable r) = retired.length :=
          countP_retired (s := s1) hnone _
        have hnothing : removed.length + retired.length = 0 ↔ removed = [] ∧ retired = [] := by
          rw [Nat.add_eq_zero_iff, List.length_eq_zero_iff, List.length_eq_zero_iff]
        have hwiped := foldl_wipeStep_eq (s := s1) hnone s1.plu.records
        rw [pluWipeRequest, if_neg (mt htrading.mp ht)]
        refine (if_neg hfree).trans ?_
        rw [hremoved, hretired, hwiped]
        simp only [hnothing]
        by_cases hnone' : removed = [] ∧ retired = []
        · have hgen : gen' = s.pricing.generation := if_pos hnone'
          rw [if_pos hnone', hgen, tableCounts, ← List.append_assoc]
          rfl
        · have hgen : gen' = gen := if_neg hnone'
          rw [if_neg hnone', hgen, tableCounts, ← List.append_assoc]
          rfl
  · intro s tag payload rest hwaits s1 p mode
    refine answer_eq_replied (act := pluReadRequest) hwaits ?_
    change pluReadRequest payload s1 = _
    by_cases hmode : 1 < mode
    · rw [if_pos hmode]
      exact pluReadRequest_of_badMode s1 hmode
    · rw [if_neg hmode, pluReadRequest_of_mode s1 hmode]
      refine if_congr Iff.rfl rfl ?_
      change (match (if mode = 0 then s.plu.find p else s.plu.records.find? fun r => p ≤ r.fields.number) with
        | none => _
        | some r => _) = _
      cases (if mode = 0 then s.plu.find p else s.plu.records.find? fun r => p ≤ r.fields.number) with
      | none => rfl
      | some r =>
        dsimp only
        rw [tableCounts, ← List.append_assoc]
        cases r.state <;> rfl

end

section
/-! Pricing a sale, and the batch (03). -/

open Sys2Proof Sys2Proof.Machine

namespace Sys2Proof.Machine

/-! ## Readings tested in order -/

/-- A reading that is an error by the first test that applies. -/
def testedReading {α : Type} (ts : List (Bool × ResultCode)) (a : Except ResultCode α) : Except ResultCode α :=
  match firstOf ts with
  | some c => .error c
  | none => a

theorem testedReading_nil {α : Type} (a : Except ResultCode α) : testedReading [] a = a := rfl

theorem testedReading_cons {α : Type} (b : Bool) (c : ResultCode) (ts : List (Bool × ResultCode))
    (a : Except ResultCode α) :
    testedReading ((b, c) :: ts) a = if b = true then .error c else testedReading ts a := by
  cases b <;> rfl

theorem testedReading_append {α : Type} (ts us : List (Bool × ResultCode)) (a : Except ResultCode α) :
    testedReading (ts ++ us) a = testedReading ts (testedReading us a) := by
  rw [testedReading, firstOf_append]
  unfold testedReading
  cases firstOf ts <;> rfl

theorem testedReading_stateTests {α : Type} (st : WeighState) (a : Except ResultCode α) :
    testedReading (stateTests st) a
      = if st = .noZero then .error .noZero
        else if st = .overload then .error .overload
        else if st = .underload then .error .underload
        else a := by
  simp only [stateTests, testedReading_cons, testedReading_nil, beq_iff_eq]

/-! ## The lookup, the window, the pricing read (R18, R30, R43) -/

theorem lookupForSale_eq (t : PluTable) (p : Nat) :
    lookupForSale t p =
      if p = 0 ∨ 99999 < p then .error .badValue
      else
        match t.find p with
        | none => .error .noPlu
        | some r => if r.state = .retired then .error .pluRetired else .ok r := by
  simp only [lookupForSale, pluOk_eq_false_iff] <;> rfl

theorem windowActive_iff (p : PriceSettings) (t : DateTime) :
    windowActive p t = true ↔
      p.windowStart.hour * 3600 + p.windowStart.minute * 60 ≤ t.hour * 3600 + t.minute * 60 + t.second
        ∧ t.hour * 3600 + t.minute * 60 + t.second < p.windowEnd.hour * 3600 + p.windowEnd.minute * 60 := by
  rw [windowActive, Bool.and_eq_true, decide_eq_true_eq, decide_eq_true_eq]
  exact Iff.rfl

/-- A window whose two times are equal holds no time. -/
theorem windowActive_of_equal {p : PriceSettings} (t : DateTime) (h : p.windowStart = p.windowEnd) :
    windowActive p t = false := by
  rw [← Bool.not_eq_true, windowActive_iff, h]
  omega

theorem pricingRead_eq_tested (s : State) (n : StationNo) (preset : Nat) :
    pricingRead s n preset =
      testedReading (weightTests s n preset)
        (.ok ⟨(pricedNet (s.calibration n).fields (s.context n)
              (tareInForce (s.calibration n).fields (s.context n).tare preset).1).toNat,
            (tareInForce (s.calibration n).fields (s.context n).tare preset).1,
            (tareInForce (s.calibration n).fields (s.context n).tare preset).2⟩) := rfl

theorem pricingRead_eq (s : State) (n : StationNo) (preset : Nat) :
    pricingRead s n preset =
      if (s.calibration n).isSet = false then .error .noCal
      else if (s.context n).state = .noZero then .error .noZero
      else if (s.context n).state = .overload then .error .overload
      else if (s.context n).state = .underload then .error .underload
      else if windowStable (s.calibration n).fields (s.context n).window = false then .error .notStable
      else if (tareInForce (s.calibration n).fields (s.context n).tare preset).2 = .plu
          ∧ (s.calibration n).fields.max1 < (tareInForce (s.calibration n).fields (s.context n).tare preset).1 then
        .error .tareLimit
      else if pricedNet (s.calibration n).fields (s.context n)
            (tareInForce (s.calibration n).fields (s.context n).tare preset).1 ≤ 0
          ∨ pricedNet (s.calibration n).fields (s.context n)
            (tareInForce (s.calibration n).fields (s.context n).tare preset).1 < 20 * (s.calibration n).fields.e1 then
        .error .belowMin
      else
        .ok ⟨(pricedNet (s.calibration n).fields (s.context n)
              (tareInForce (s.calibration n).fields (s.context n).tare preset).1).toNat,
            (tareInForce (s.calibration n).fields (s.context n).tare preset).1,
            (tareInForce (s.calibration n).fields (s.context n).tare preset).2⟩ := by
  rw [pricingRead_eq_tested]
  simp only [weightTests, testedReading_append, testedReading_stateTests, testedReading_cons, testedReading_nil,
    Bool.not_eq_true', Bool.and_eq_true, Bool.or_eq_true, beq_iff_eq, decide_eq_true_eq, or_comm, State.stable,
    Nat.cast_mul, Nat.cast_ofNat]

/-! ## A sale priced (R48, R50) -/

theorem quantityOk_eq_false_iff (q : Option Nat) : quantityOk q = false ↔ q.getD 0 = 0 ∨ 99 < q.getD 0 := by
  cases q with
  | none => simp [quantityOk]
  | some k =>
    simp only [quantityOk, Option.getD_some, Bool.and_eq_false_iff, decide_eq_false_iff_not]
    omega

theorem freshQuote_eq_false_iff (changed quoted current : Nat) :
    freshQuote changed quoted current = false ↔ quoted < changed ∨ current < quoted := by
  simp only [freshQuote, Bool.and_eq_false_iff, decide_eq_false_iff_not, not_le]

/-- The price of an amount, tested against the limits of a price (R45, R47). -/
def State.priced (s : State) (r : PluRecord) (w : PricedWeight) : Except ResultCode Priced :=
  let pct := markdownApplied s.markdownActive r.fields
  let up := unitPriceInForce r.fields pct
  let price := itemPrice s.pricing.settings r.fields.kind w.net up
  testedReading (priceTests price) (.ok ⟨r, w.net, w.tare, w.source, up, pct, price⟩)

theorem State.priced_eq (s : State) (r : PluRecord) (w : PricedWeight) :
    s.priced r w =
      (let pct := if s.markdownActive then r.fields.markdown else 0
       let up := if 0 < pct then r.fields.unitPrice * (100 - pct) / 100 else r.fields.unitPrice
       let price := itemPrice s.pricing.settings r.fields.kind w.net up
       if price = 0 then .error .priceZero
       else if 999999 < price then .error .priceOverflow
       else .ok ⟨r, w.net, w.tare, w.source, up, pct, price⟩) := by
  have hlimit : Config.itemPriceLimit = 999999 := rfl
  have hup : ∀ pct, unitPriceInForce r.fields pct
      = if 0 < pct then r.fields.unitPrice * (100 - pct) / 100 else r.fields.unitPrice := by
    intro pct
    rcases Nat.eq_zero_or_pos pct with hpct | hpct
    · simp [unitPriceInForce, hpct]
    · simp [unitPriceInForce, hpct, hpct.ne']
  simp only [State.priced, priceTests, testedReading_cons, testedReading_nil, beq_iff_eq, decide_eq_true_eq, hup,
    markdownApplied, hlimit]

theorem State.priceSale_eq (s : State) (n : StationNo) (q : SaleRequest) (stale : Bool) :
    s.priceSale n q stale =
      match lookupForSale s.plu q.plu with
      | .error e => .error e
      | .ok r =>
        if r.fields.kind = .byCount ∧ (q.quantity.getD 0 = 0 ∨ 99 < q.quantity.getD 0) then .error .badValue
        else if stale = true ∧ (q.quoted < r.changedGen ∨ s.pricing.generation < q.quoted) then .error .stalePrice
        else
          match s.saleAmount n r q.quantity with
          | .error e => .error e
          | .ok w => s.priced r w := by
  have hsale : s.priceSale n q stale =
      match lookupForSale s.plu q.plu with
      | .error e => .error e
      | .ok r =>
        testedReading [(r.fields.kind == .byCount && !quantityOk q.quantity, .badValue),
            (stale && !freshQuote r.changedGen q.quoted s.generation, .stalePrice)]
          (match s.saleAmount n r q.quantity with
          | .error e => .error e
          | .ok w => s.priced r w) := rfl
  rw [hsale]
  simp only [testedReading_cons, testedReading_nil, Bool.and_eq_true, Bool.not_eq_true', beq_iff_eq,
    quantityOk_eq_false_iff, freshQuote_eq_false_iff] <;> rfl

end Sys2Proof.Machine

/-- Settles O19: the lookup, the window, the pricing read and the sale, each through its tests in order. -/
theorem salePricedInOrder : Obligations.SalePricedInOrder := by
  refine ⟨lookupForSale_eq, fun p t => ⟨windowActive_iff p t, windowActive_of_equal t⟩, ?_, ?_⟩
  · intro s n preset x c gross rounded t net
    rw [pricingRead_eq]
    have ht : tareInForce (s.calibration n).fields (s.context n).tare preset = t := by
      simp only [t, tareInForce]
      cases x.tare <;> rfl
    have hnet : pricedNet (s.calibration n).fields (s.context n) t.1 = net := rfl
    rw [ht, hnet]
  · intro s n q stale
    rw [State.priceSale_eq]
    cases lookupForSale s.plu q.plu with
    | error e => rfl
    | ok r =>
      dsimp only
      refine if_congr Iff.rfl rfl (if_congr Iff.rfl rfl ?_)
      unfold State.saleAmount
      cases hkind : r.fields.kind with
      | byCount =>
        dsimp only
        rw [State.priced_eq, hkind]
      | byWeight =>
        dsimp only
        cases pricingRead s n r.fields.presetTare with
        | error e => rfl
        | ok w =>
          dsimp only
          rw [State.priced_eq, hkind]

namespace Sys2Proof.Machine

theorem notTrading_iff (s : State) :
    s.notTrading = true ↔ s.counter.state = .loading ∨ s.counter.state = .closed := by
  rw [State.notTrading, Bool.not_eq_true', ← Bool.not_eq_true, trading_iff]
  cases s.counter.state <;> decide

theorem quoteRequest_eq (n : StationNo) (p : List Byte) (s : State) :
    quoteRequest n p s =
      tested (linkTests s n ++ [(s.notTrading, .refusedState)]) s
        (match s.priceSale n (decodeSale p) false with
        | .error e => refuse s e
        | .ok r =>
          (s, okReply (be 2 r.amount ++ be 2 r.tare ++ be 1 r.source.code ++ be 3 r.unitPrice
            ++ flagByte (decide (0 < r.markdown)) ++ be 3 r.price ++ be 4 s.generation))) := rfl

theorem flagByte_decide (p : Prop) [Decidable p] : flagByte (decide p) = be 1 (if p then 1 else 0) := by
  by_cases h : p
  · rw [decide_eq_true h, if_pos h]
    rfl
  · rw [decide_eq_false h, if_neg h]
    rfl

end Sys2Proof.Machine

/-- Settles O20: the station and counter tests, then the sale's pricing. -/
theorem quoteAnswered : Obligations.QuoteAnswered := by
  intro s n tag payload rest hwaits s1
  refine answer_eq_replied (act := quoteRequest n) hwaits ?_
  change quoteRequest n payload s1 = _
  rw [quoteRequest_eq]
  have hcounter : s1.counter = s.counter := rfl
  have hlink : s1.link n = s.link n := rfl
  simp only [tested_append, tested_linkTests, tested_cons, tested_nil, notTrading_iff, hcounter, hlink]
  refine if_congr Iff.rfl rfl (if_congr Iff.rfl rfl (if_congr Iff.rfl rfl ?_))
  have hprice : s1.priceSale n (decodeSale payload) false = s.priceSale n (decodeSale payload) false := rfl
  rw [hprice]
  cases s.priceSale n (decodeSale payload) false with
  | error e => rfl
  | ok r =>
    dsimp only
    rw [flagByte_decide]
    rfl

end

section
/-! The staged batch: its requests, its activation, its entries (03 sections 3.5 and 3.6). -/

open Sys2Proof Sys2Proof.Machine

namespace Sys2Proof.Machine

/-! ## The batch requests (R54 to R57) -/

/-- BATCH COMMIT's tests in order; an instant that the clock cannot reach is BAD_VALUE. -/
theorem batchCommitRequest_eq (p : List Byte) (s : State) :
    batchCommitRequest p s =
      if s.pricing.batch = .empty then refuse s .batchEmpty
      else if s.pricing.batch = .armed then refuse s .batchArmed
      else if 1439 < natAt p 0 2 then refuse s .badValue
      else
        match s.clock.addMinutes (natAt p 0 2) with
        | none => refuse s .badValue
        | some t =>
          if s.pricing.generation = 4294967295 then refuse s .refusedState
          else
            let s1 := s.onPricing fun u => { u with batch := .armed, instant := some t }
            let s2 := if natAt p 0 2 = 0 then s1.activate else s1
            (s2, okReply (t.bytes ++ be 1 s2.pricing.batch.code)) := by
  have hdelay : Config.maxBatchDelay = 1439 := rfl
  have htested : batchCommitRequest p s =
      tested (commitTests s (natAt p 0 2)) s
        (let t := (s.clock.addMinutes (natAt p 0 2)).getD s.clock
         let s1 := s.onPricing fun u => { u with batch := .armed, instant := some t }
         let s2 := if natAt p 0 2 = 0 then s1.activate else s1
         (s2, okReply (t.bytes ++ be 1 s2.pricing.batch.code))) := rfl
  rw [htested]
  simp only [commitTests, tested_cons, tested_nil, beq_iff_eq, decide_eq_true_eq, generationEnded_iff, hdelay]
  cases s.clock.addMinutes (natAt p 0 2) <;> rfl

theorem State.activate_batch (s : State) : s.activate.pricing.batch = .empty := rfl

end Sys2Proof.Machine

/-- Settles O21: the four batch requests. -/
theorem batchRequestsAnswered : Obligations.BatchRequestsAnswered := by
  refine ⟨?_, ?_⟩
  · intro s tag payload rest s1 u state
    refine ⟨fun hwaits => ?_, fun hwaits => ?_, fun hwaits => ?_⟩
    · refine answer_eq_replied (act := batchAddRequest) hwaits ?_
      change batchAddRequest payload s1 = _
      rw [batchAddRequest]
      refine if_congr Iff.rfl rfl ?_
      cases decodeBatchEntry payload with
      | none => rfl
      | some e => rfl
    · exact answer_eq_replied (act := batchClearRequest) hwaits rfl
    · refine answer_eq_replied (act := batchStatusRequest) hwaits ?_
      change batchStatusRequest payload s1 = _
      have hinstant : optionalTime u.instant
          = match u.instant with | some t => 1 :: t.bytes | none => List.replicate 7 0 := by
        cases u.instant <;> rfl
      have hresult : optional 7 (u.result.map BatchResult.bytes)
          = match u.result with | some r => 1 :: r.bytes | none => List.replicate 8 0 := by
        cases u.result <;> rfl
      have hstatus : batchStatusRequest payload s1
          = (s1, okReply (be 1 state ++ be 1 u.entries.length ++ optionalTime u.instant ++ be 4 u.generation
              ++ optional 7 (u.result.map BatchResult.bytes))) := rfl
      rw [hstatus, hinstant, hresult] <;> rfl
  · intro s tag payload rest hwaits s1 delay u
    refine answer_eq_replied (act := batchCommitRequest) hwaits ?_
    change batchCommitRequest payload s1 = _
    rw [batchCommitRequest_eq]
    have hpricing : s1.pricing = s.pricing := rfl
    have hclock : s1.clock = s.counter.clock := rfl
    rw [hpricing, hclock]
    refine if_congr Iff.rfl rfl (if_congr Iff.rfl rfl (if_congr Iff.rfl rfl ?_))
    cases s.counter.clock.addMinutes delay with
    | none => rfl
    | some t =>
      refine if_congr Iff.rfl rfl ?_
      by_cases hdelay : delay = 0
      · simp only [delay] at hdelay ⊢
        simp only [hdelay, if_true, State.activate_batch]
        rfl
      · simp only [delay] at hdelay ⊢
        have hcode : be 1 (s1.onPricing fun u => { u with batch := .armed, instant := some t }).pricing.batch.code = [2] := by
          change be 1 BatchState.armed.code = [2]
          decide
        simp only [hdelay, if_false, hcode]
        rfl

namespace Sys2Proof.Machine

/-! ## One entry (R37) -/

theorem applyEntry_change (s : State) (gen p price markdown : Nat) (d : Option (List Byte)) :
    s.applyEntry (.change p price markdown d) gen =
      if s.plu.find p = none then .error .noPlu
      else .ok { s with plu := s.plu.update p fun r => r.changed price markdown d gen } := by
  cases h : s.plu.find p <;> simp [State.applyEntry, h]

theorem applyEntry_new (s : State) (gen : Nat) (f : PluFields) :
    s.applyEntry (.new f) gen =
      if s.plu.find f.number ≠ none then .error .exists
      else
        match s.plu.place ⟨f, .active, gen, ⟨0, 0, 0, 0⟩⟩ with
        | none => .error .tableFull
        | some t => .ok { s with plu := t } := by
  have hrecord : writtenRecord f none gen = ⟨f, .active, gen, ⟨0, 0, 0, 0⟩⟩ := rfl
  cases h : s.plu.find f.number <;> simp only [State.applyEntry, h, hrecord] <;> rfl

theorem applyEntry_retire (s : State) (gen p : Nat) :
    s.applyEntry (.retire p) gen =
      match s.plu.find p with
      | none => .error .noPlu
      | some r =>
        .ok
          { s with
            plu :=
              if r.totals = ⟨0, 0, 0, 0⟩ ∧ s.pluReferenced r.fields.number = false then
                s.plu.remove r.fields.number
              else s.plu.update r.fields.number fun x => { x with state := .retired, changedGen := gen } } := by
  cases h : s.plu.find p with
  | none => simp only [State.applyEntry, h]
  | some r =>
    simp only [State.applyEntry, h, State.removalStep, removable_iff] <;> rfl

/-! ## The activation (R58, R59) -/

/-- Each entry handed over is applied or skipped, and counted as such. -/
theorem activateEntry_count (ended : Bool) (gen : Nat) (a : Activation) (e : BatchEntry) :
    (activateEntry ended gen a e).2.applied + (activateEntry ended gen a e).2.skipped
      = a.2.applied + a.2.skipped + 1 := by
  rcases activateEntry_cases ended gen a e with ⟨reason, h⟩ | ⟨-, t, -, h⟩
  · rw [h, BatchResult.skip]
    dsimp only
    omega
  · rw [h]
    dsimp only
    omega

theorem applyBatch_count (s : State) :
    s.applyBatch.2.applied + s.applyBatch.2.skipped = s.pricing.entries.length := by
  have hfold (es : List BatchEntry) (a : Activation) :
      (es.foldl (activateEntry s.generationEnded (s.generation + 1)) a).2.applied
          + (es.foldl (activateEntry s.generationEnded (s.generation + 1)) a).2.skipped
        = a.2.applied + a.2.skipped + es.length := by
    induction es generalizing a with
    | nil => rfl
    | cons e es ih =>
      rw [List.foldl_cons, ih, activateEntry_count, List.length_cons]
      omega
  exact (hfold s.pricing.entries (s, ⟨0, 0, none⟩)).trans (Nat.zero_add _)

theorem activateEntry_eq (s : State) (gen : Nat) (a : Activation) (e : BatchEntry) :
    (match (if s.pricing.generation = 4294967295 then Except.error ResultCode.refusedState
        else a.1.applyEntry e gen) with
      | .ok b => (b, { a.2 with applied := a.2.applied + 1 })
      | .error c =>
        (a.1,
          { a.2 with
            skipped := a.2.skipped + 1, firstSkipped := some (a.2.firstSkipped.getD (e.plu, c)) }))
      = activateEntry s.generationEnded gen a e := by
  unfold activateEntry
  by_cases h : s.pricing.generation = 4294967295
  · rw [if_pos h, if_pos ((generationEnded_iff s).mpr h)]
    rfl
  · rw [if_neg h, if_neg (mt (generationEnded_iff s).mp h)]
    cases a.1.applyEntry e gen <;> rfl

theorem State.raiseBatch_eq (s : State) (r : BatchResult) :
    s.raiseBatch r =
      if r.skipped = 0 then s.raise .batchApplied { variant := .batch r }
      else (s.raise .batchApplied { variant := .batch r }).raise .batchSkipped { variant := .batch r } := rfl

/-- The pricing unit after an activation, and the state around it. -/
theorem State.activate_eq (s : State) :
    s.activate =
      { (if s.applyBatch.2.skipped = 0 then s.applyBatch.1.raise .batchApplied { variant := .batch s.applyBatch.2 }
          else (s.applyBatch.1.raise .batchApplied { variant := .batch s.applyBatch.2 }).raise .batchSkipped
            { variant := .batch s.applyBatch.2 }) with
        pricing :=
          { s.pricing with
            generation := if s.applyBatch.2.applied = 0 then s.pricing.generation else s.pricing.generation + 1
            batch := .empty, entries := [], instant := none, result := some s.applyBatch.2 } } := by
  have hpricing : s.applyBatch.1.pricing = s.pricing := (applyBatch_changesOnly s) .pricing (by simp)
  rw [← hpricing]
  simp only [State.activate, State.raiseBatch_eq]
  split_ifs <;> rfl

theorem activationDue_iff (s : State) :
    s.activationDue = true ↔
      s.pricing.batch = .armed ∧ ∃ t, s.pricing.instant = some t ∧ t.seconds ≤ s.counter.clock.seconds := by
  rw [State.activationDue, Bool.and_eq_true, beq_iff_eq]
  refine and_congr_right fun _ => ?_
  cases s.pricing.instant with
  | none => simp
  | some t =>
    change decide (t.seconds ≤ s.counter.clock.seconds) = true ↔ _
    rw [decide_eq_true_iff]
    simp

theorem exec_batchActivation {s : State} (h : s.resetLow = false) :
    exec .batchActivation s = .next s.activateIfDue.startAll := unlessReset_high _ h

end Sys2Proof.Machine

/-- Settles O22: the entries one by one, and the activation around them. -/
theorem activationAppliesBatch : Obligations.ActivationAppliesBatch := by
  refine ⟨⟨?_, ?_⟩, fun s gen p price markdown d f =>
    ⟨applyEntry_change s gen p price markdown d, applyEntry_new s gen f, applyEntry_retire s gen p⟩⟩
  · intro s t hlow harmed hinstant hdue gen ended
    refine ⟨s.applyBatch.1, s.applyBatch.2, ?_, applyBatch_count s, ?_⟩
    · exact (congrArg (fun f => List.foldl f (s, (⟨0, 0, none⟩ : BatchResult)) s.pricing.entries)
        (funext fun a => funext fun e => activateEntry_eq s gen a e)).trans rfl
    · rw [exec_batchActivation hlow, State.activateIfDue,
        if_pos ((activationDue_iff s).mpr ⟨harmed, t, hinstant, hdue⟩), State.activate_eq]
  · intro s hlow hnot
    have hdue : ¬s.activationDue = true := by
      rw [activationDue_iff]
      rintro ⟨harmed, t, hinstant, hdue⟩
      rcases hnot with hnot | hnot
      · exact hnot harmed
      · exact absurd (hnot t hinstant) (not_lt.mpr hdue)
    rw [exec_batchActivation hlow, State.activateIfDue, if_neg hdue]

end

section
/-! Signing a clerk on, and claiming an order (04 sections 4.2 and 4.5). -/

open Sys2Proof Sys2Proof.Machine

namespace Sys2Proof.Machine

/-! ## A clerk's binding moved to a station (R65, R78) -/

/-- The clerk bound at a station, with the clerk bound there before unbound. -/
def State.moved (s : State) (c : ClerkNo) (n : StationNo) : State :=
  if (s.clerk c).bound = some n then s else ((s.bind c none).unbindKeep n).bind c (some n)

theorem State.bind_self {s : State} {c : ClerkNo} {x : Option StationNo} (h : (s.clerk c).bound = x) :
    s.bind c x = s := by
  have hclerk : { s.clerk c with bound := x } = s.clerk c := by
    rw [← h]
  unfold State.bind State.setClerk
  rw [hclerk]
  unfold State.clerk
  rw [Table.put_get]

theorem State.unbindKeep_clerks (s : State) (n : StationNo) :
    ∃ k, s.unbindKeep n = { s with orders := { s.orders with clerks := k } } := by
  unfold State.unbindKeep
  cases s.boundClerk n with
  | none => exact ⟨s.orders.clerks, rfl⟩
  | some c => exact ⟨_, rfl⟩

/-- Moving a clerk's binding changes the clerks alone. -/
theorem State.moved_clerks (s : State) (c : ClerkNo) (n : StationNo) :
    ∃ k, s.moved c n = { s with orders := { s.orders with clerks := k } } := by
  unfold State.moved
  split
  · exact ⟨s.orders.clerks, rfl⟩
  · obtain ⟨k, hk⟩ := (s.bind c none).unbindKeep_clerks n
    rw [hk]
    exact ⟨_, rfl⟩

theorem State.moved_order (s : State) (c : ClerkNo) (n : StationNo) (d : ClerkNo) :
    (s.moved c n).order d = s.order d := by
  obtain ⟨k, hk⟩ := s.moved_clerks c n
  rw [hk]
  rfl

/-- Where a station has at most one bound clerk: the clerks after a move. -/
theorem State.moved_clerk {s : State}
    (hunique : ∀ c d : ClerkNo, ∀ m ∈ (s.clerk c).bound, (s.clerk d).bound = some m → c = d)
    (c : ClerkNo) (n : StationNo) (d : ClerkNo) :
    (s.moved c n).clerk d
      = { s.clerk d with
          bound := if d = c then some n else if (s.clerk d).bound = some n then none else (s.clerk d).bound } := by
  unfold State.moved
  split
  · next hbound =>
    by_cases hdc : d = c
    · rw [if_pos hdc, hdc, ← hbound]
    · have hne : (s.clerk d).bound ≠ some n := fun hd => hdc (hunique d c n hd hbound)
      rw [if_neg hdc, if_neg hne]
  · have hfree : ∀ e f : ClerkNo, ∀ m ∈ ((s.bind c none).clerk e).bound,
        ((s.bind c none).clerk f).bound = some m → e = f := by
      intro e f m he hf
      rw [State.bind, State.setClerk_clerk] at he hf
      split at he
      · cases he
      · split at hf
        · cases hf
        · exact hunique e f m he hf
    rw [State.bind, State.setClerk_clerk, (s.bind c none).unbindKeep_clerk hfree, State.unbindKeep_clerk _ hfree,
      State.bind, State.setClerk_clerk, State.setClerk_clerk]
    by_cases hdc : d = c
    · simp [hdc]
    · simp [hdc]

/-- Some other clerk's order is held at a station, as the test of STATION_BUSY finds it. -/
theorem State.OrdersOk.busyElsewhere_iff {s : State} (h : s.OrdersOk) (n : StationNo) (c : ClerkNo) :
    ((s.holding n).isSome && s.holding n != some c) = true ↔
      ∃ d o, d ≠ c ∧ s.order d = some o ∧ o.holder = some n := by
  obtain ⟨hbound, hunique, -⟩ := h
  cases hh : s.holding n with
  | none =>
    have hnone := s.holding_eq_none.mp hh
    simp only [Option.isSome_none, Bool.false_and, Bool.false_eq_true, false_iff]
    rintro ⟨d, o, -, ho, hheld⟩
    exact hnone d o ho hheld
  | some e =>
    obtain ⟨u, hu, hheld⟩ := s.holding_held hh
    simp only [Option.isSome_some, Bool.true_and, bne_iff_ne, ne_eq, Option.some.injEq]
    constructor
    · intro hec
      exact ⟨e, u, hec, hu, hheld⟩
    · rintro ⟨d, o, hdc, ho, hold⟩ hec
      exact hdc ((hunique d e n ((hbound d o ho).2 n hold) ((hbound e u hu).2 n hheld)).trans hec)

/-! ## CLERK ON (R64, R65) -/

/-- The order of a clerk who is bound at a station, as a sign-on at station `n` leaves it. -/
def Order.leaving (b : Option StationNo) (n : StationNo) (o : Order) : Order :=
  if b ≠ some n ∧ b ≠ none ∧ o.holder = b then
    { o with holder := none, revision := (o.revision + 1) % 65536 }
  else o

theorem Order.leaving_of_here (n : StationNo) (o : Order) : o.leaving (some n) n = o :=
  if_neg fun h => h.1 rfl

theorem Order.leaving_of_unbound (n : StationNo) (o : Order) : o.leaving none n = o :=
  if_neg fun h => h.2.1 rfl

theorem Order.leaving_of_elsewhere {n m : StationNo} (h : m ≠ n) (o : Order) : o.leaving (some m) n = o.letGo m := by
  have hm : some m ≠ some n := fun e => h (Option.some_injective _ e)
  unfold Order.leaving Order.letGo
  exact if_congr ⟨fun h => h.2.2, fun h => ⟨hm, Option.some_ne_none m, h⟩⟩ rfl rfl

/-- A sign-on: an order held elsewhere is let go of, and the binding moves. -/
theorem State.signOn_eq (s : State) (c : ClerkNo) (n : StationNo) :
    s.signOn c n = (s.setOrder c ((s.order c).map (Order.leaving (s.clerk c).bound n))).moved c n := by
  have hself (f : Order → Order) (hf : ∀ o, f o = o) : s.setOrder c ((s.order c).map f) = s := by
    have hmap : (s.order c).map f = s.order c := by
      cases s.order c <;> simp [hf]
    rw [hmap, s.setOrder_order_self]
  unfold State.signOn
  cases hbound : (s.clerk c).bound with
  | none =>
    rw [hself _ (Order.leaving_of_unbound n), if_neg (by simp), State.moved, hbound, if_neg (by simp)]
    dsimp only
    rw [State.bind_self hbound]
  | some m =>
    by_cases hm : m = n
    · rw [hm, hself _ (Order.leaving_of_here n), if_pos rfl, State.moved, hbound, hm, if_pos rfl]
    · have hne : ¬some m = some n := fun e => hm (Option.some_injective _ e)
      have hleave : Order.leaving (some m) n = Order.letGo m := funext (Order.leaving_of_elsewhere hm)
      rw [if_neg hne, hleave, ← State.parkIfHeld_eq, State.moved]
      have hkept : ((s.parkIfHeld c m).clerk c).bound = some m := by
        rw [State.parkIfHeld_eq]
        exact hbound
      rw [hkept, if_neg hne]

/-- The test of ORDER_BUSY: a label keeps the order at the other station where the clerk is bound. -/
theorem State.heldInFlight_iff (s : State) (c : ClerkNo) (n : StationNo) :
    s.heldInFlight c n = true ↔
      ∃ m o, (s.clerk c).bound = some m ∧ m ≠ n ∧ s.order c = some o ∧ o.holder = some m
        ∧ o.labelInFlight = true := by
  unfold State.heldInFlight
  cases (s.clerk c).bound with
  | none => simp
  | some m =>
    cases s.order c with
    | none => simp
    | some o => simp [and_assoc]

theorem clerkOnRequest_of_absent {s : State} {n : StationNo} (p : List Byte) (h : s.link n = .absent) :
    clerkOnRequest n p s = refuse s .noStation := by
  simp [clerkOnRequest, firstOf_linkTests, h]

theorem clerkOnRequest_of_service {s : State} {n : StationNo} (p : List Byte) (h : s.link n = .service) :
    clerkOnRequest n p s = refuse s .inService := by
  simp [clerkOnRequest, firstOf_linkTests, h]

theorem clerkOnRequest_of_badValue {s : State} {n : StationNo} {p : List Byte} (h : s.link n = .enrolled)
    (hp : decodeClerkOn p = none) : clerkOnRequest n p s = refuse s .badValue := by
  simp [clerkOnRequest, firstOf_linkTests, h, hp]

/-- The tests of the named clerk, in order. -/
theorem clerkOnRequest_of_clerk {s : State} {n : StationNo} {p : List Byte} {c : ClerkNo} {code : Nat}
    (h : s.link n = .enrolled) (hp : decodeClerkOn p = some (c, code)) :
    clerkOnRequest n p s =
      if (s.clerk c).enabled = false ∨ (s.clerk c).code ≠ code then refuse s .clerkCode
      else if ((s.holding n).isSome && s.holding n != some c) = true then refuse s .stationBusy
      else if s.heldInFlight c n = true then (s, ⟨.orderBusy, summaryOpen s c⟩)
      else (s.signOn c n, okReply (summaryOf (s.signOn c n) c)) := by
  have hlink : firstOf (linkTests s n) = none := by
    simp [firstOf_linkTests, h]
  simp only [clerkOnRequest, hlink, hp, clerkOnTests, firstOf_cons, firstOf_nil, Bool.or_eq_true, Bool.not_eq_true',
    bne_iff_ne]
  split_ifs <;> rfl

end Sys2Proof.Machine

/-- Settles O23: the tests in order; past them the order held elsewhere is let go of and the binding moves. -/
theorem clerkOnAnswered : Obligations.ClerkOnAnswered := by
  intro s n tag payload rest hwaits hok s1 done
  have hdone {a : Answer} (h : clerkOnRequest n payload s1 = a) : done a := answer_eq_replied hwaits h
  refine ⟨fun h => hdone (clerkOnRequest_of_absent _ h), fun h => hdone (clerkOnRequest_of_service _ h),
    fun h hp => hdone (clerkOnRequest_of_badValue h hp), ?_⟩
  intro c code h hp e inFlightElsewhere
  have hrequest := clerkOnRequest_of_clerk (s := s1) h hp
  refine ⟨fun hbad => hdone (hrequest.trans (if_pos hbad)), fun henabled hcode => ?_⟩
  have hgood : ¬((s1.clerk c).enabled = false ∨ (s1.clerk c).code ≠ code) := by
    rintro (hbad | hbad)
    · exact Bool.false_ne_true (hbad.symm.trans henabled)
    · exact hbad hcode
  have hrequest := hrequest.trans (if_neg hgood)
  have hbusy := State.OrdersOk.busyElsewhere_iff hok n c
  refine ⟨fun hother => hdone (hrequest.trans (if_pos (hbusy.mpr hother))), fun hother => ?_⟩
  have hrequest := hrequest.trans (if_neg (mt hbusy.mp hother))
  have hflight := s.heldInFlight_iff c n
  refine ⟨fun hin => hdone (hrequest.trans (if_pos (hflight.mpr hin))), fun hin => ?_⟩
  have hrequest := hrequest.trans (if_neg (mt hflight.mp hin))
  have ht := s1.signOn_eq c n
  obtain ⟨k, hk⟩ := (s1.setOrder c ((s1.order c).map (Order.leaving (s1.clerk c).bound n))).moved_clerks c n
  obtain ⟨-, hunique, -⟩ := hok
  refine ⟨s1.signOn c n, ?_, ?_, fun d => ?_, fun d hd => ?_, ?_, ?_⟩
  · rw [ht, hk]
    rfl
  · rw [ht, hk]
    rfl
  · rw [ht, State.moved_clerk]
    · rfl
    · exact hunique
  · rw [ht, State.moved_order, State.setOrder_order, if_neg hd]
    rfl
  · rw [ht, State.moved_order, State.setOrder_order_same]
    rfl
  · refine hdone (hrequest.trans ?_)
    cases ho : (s1.signOn c n).order c with
    | none => rw [summaryOf_of_none ho]
    | some o => rw [summaryOf_of_some ho]

namespace Sys2Proof.Machine

/-! ## CLAIM ORDER (R77, R78) -/

theorem State.claim_eq {s : State} {c : ClerkNo} {o : Order} (ho : s.order c = some o) (n : StationNo) :
    s.claim c n
      = (s.moved c n).setOrder c (some { o with holder := some n, revision := (o.revision + 1) % 65536 }) := by
  have hmoved : s.claim c n = (s.moved c n).onOrder c fun o =>
      { o with holder := some n, revision := stepRevision o.revision } := rfl
  rw [hmoved, State.onOrder_of_some ((s.moved_order c n c).trans ho)]
  rfl

theorem claimOrderRequest_of_absent {s : State} {n : StationNo} (p : List Byte) (h : s.link n = .absent) :
    claimOrderRequest n p s = refuse s .noStation := by
  simp [claimOrderRequest, firstOf_linkTests, h]

theorem claimOrderRequest_of_service {s : State} {n : StationNo} (p : List Byte) (h : s.link n = .service) :
    claimOrderRequest n p s = refuse s .inService := by
  simp [claimOrderRequest, firstOf_linkTests, h]

theorem claimOrderRequest_of_badValue {s : State} {n : StationNo} {p : List Byte} (h : s.link n = .enrolled)
    (hp : decodeClaim p = none) : claimOrderRequest n p s = refuse s .badValue := by
  simp [claimOrderRequest, firstOf_linkTests, h, hp]

theorem claimOrderRequest_of_noOrder {s : State} {n : StationNo} {p : List Byte} {c : ClerkNo}
    {holder : Option StationNo} {revision : Nat} (h : s.link n = .enrolled)
    (hp : decodeClaim p = some (c, holder, revision)) (ho : s.order c = none) :
    claimOrderRequest n p s = refuse s .noOrder := by
  simp [claimOrderRequest, firstOf_linkTests, h, hp, ho]

/-- The tests of the claimed order, in order. -/
theorem claimOrderRequest_of_order {s : State} {n : StationNo} {p : List Byte} {c : ClerkNo}
    {holder : Option StationNo} {revision : Nat} {o : Order} (h : s.link n = .enrolled)
    (hp : decodeClaim p = some (c, holder, revision)) (ho : s.order c = some o) :
    claimOrderRequest n p s =
      if ((s.holding n).isSome && s.holding n != some c) = true then refuse s .stationBusy
      else if o.holder ≠ holder ∨ o.revision ≠ revision then (s, ⟨.heldElsewhere, holderPair o⟩)
      else if o.labelInFlight = true then (s, ⟨.orderBusy, holderPair o⟩)
      else (s.claim c n, okReply (holderPair o ++ summaryOpen (s.claim c n) c)) := by
  have hlink : firstOf (linkTests s n) = none := by
    simp [firstOf_linkTests, h]
  simp only [claimOrderRequest, hlink, hp, ho, claimTests, firstOf_cons, firstOf_nil, Bool.or_eq_true, bne_iff_ne]
  split_ifs <;> rfl

theorem holderPair_eq (o : Order) :
    holderPair o
      = (match o.holder with | some h => [1, BitVec.ofNat 8 (h.val + 1)] | none => [0, 0]) ++ be 2 o.revision := by
  unfold holderPair
  cases o.holder with
  | none => rfl
  | some h =>
    rw [Option.map_some, be_one]
    rfl

end Sys2Proof.Machine

/-- Settles O30: the tests in order; past them the binding moves and the order takes this station as its holder. -/
theorem claimOrderAnswered : Obligations.ClaimOrderAnswered := by
  intro s n tag payload rest hwaits hok s1 done pair
  have hdone {a : Answer} (h : claimOrderRequest n payload s1 = a) : done a := answer_eq_replied hwaits h
  have hpair (o : Order) : holderPair o = pair o := holderPair_eq o
  refine ⟨fun h => hdone (claimOrderRequest_of_absent _ h), fun h => hdone (claimOrderRequest_of_service _ h),
    fun h hp => hdone (claimOrderRequest_of_badValue h hp), fun c holder revision h hp =>
      ⟨fun ho => hdone (claimOrderRequest_of_noOrder h hp ho), fun o ho => ?_⟩⟩
  intro other
  have hrequest := claimOrderRequest_of_order (s := s1) h hp ho
  rw [hpair] at hrequest
  have hbusy := State.OrdersOk.busyElsewhere_iff hok n c
  refine ⟨fun hother => hdone (hrequest.trans (if_pos (hbusy.mpr hother))), fun hother hpair => ?_,
    fun hother hholder hrevision => ?_⟩
  · exact hdone (hrequest.trans ((if_neg (mt hbusy.mp hother)).trans (if_pos hpair)))
  have hsame : ¬(o.holder ≠ holder ∨ o.revision ≠ revision) := by
    rintro (hne | hne)
    · exact hne hholder
    · exact hne hrevision
  have hrequest := hrequest.trans ((if_neg (mt hbusy.mp hother)).trans (if_neg hsame))
  refine ⟨fun hlabel => hdone (hrequest.trans (if_pos hlabel)), fun hlabel => ?_⟩
  have hrequest := hrequest.trans (if_neg (Bool.not_eq_true _ ▸ hlabel))
  intro o'
  have ht : s1.claim c n = (s1.moved c n).setOrder c (some o') := State.claim_eq (s := s1) ho n
  obtain ⟨k, hk⟩ := s1.moved_clerks c n
  obtain ⟨-, hunique, -⟩ := hok
  refine ⟨s1.claim c n, ?_, ?_, fun d => ?_, fun d => ?_, ?_⟩
  · rw [ht, hk]
    rfl
  · rw [ht, hk]
    rfl
  · rw [ht, State.setOrder_clerk, State.moved_clerk]
    · rfl
    · exact hunique
  · rw [ht, State.setOrder_order, State.moved_order]
    rfl
  · refine hdone (hrequest.trans ?_)
    have horder : (s1.claim c n).order c = some o' := by
      rw [ht, State.setOrder_order_same]
    rw [summaryOpen, horder]
    rfl

end

section
/-! Writing and reading a clerk's entry (04 section 4.1). -/

open Sys2Proof Sys2Proof.Machine

namespace Sys2Proof.Machine

theorem clerkWriteRequest_eq (p : List Byte) (s : State) :
    clerkWriteRequest p s =
      if s.counter.state = .opened ∨ s.counter.state = .draining then refuse s .refusedState
      else
        match decodeClerkWrite p with
        | none => refuse s .badValue
        | some (c, code, enabled) => (s.writeClerk c code enabled, okReply []) := by
  simp only [clerkWriteRequest, trading_iff] <;> rfl

/-- A clerk who is unbound, or stays enabled, is written and no more. -/
theorem State.writeClerk_of_kept {s : State} {c : ClerkNo} {enabled : Bool} (code : Nat)
    (h : (s.clerk c).bound = none ∨ enabled = true) :
    s.writeClerk c code enabled = s.setClerk c { s.clerk c with code := code, enabled := enabled } := by
  unfold State.writeClerk
  rcases h with h | h
  · rw [h]
  · rw [h]
    cases (s.clerk c).bound <;> rfl

/-- A bound clerk with no order and no serving number, once disabled, is unbound. -/
theorem State.writeClerk_of_disabled {s : State} {c : ClerkNo} (code : Nat) (h : (s.clerk c).bound ≠ none)
    (ho : s.order c = none) (hv : s.serving c = none) :
    s.writeClerk c code false = s.setClerk c ⟨code, false, none⟩ := by
  obtain ⟨n, hn⟩ := Option.ne_none_iff_exists'.mp h
  have hwritten : s.writeClerk c code false
      = (((s.setClerk c { s.clerk c with code := code, enabled := false }).parkIfHeld c n).bind c none).releaseServing c := by
    unfold State.writeClerk
    rw [hn]
    rfl
  have hpark : (s.setClerk c { s.clerk c with code := code, enabled := false }).parkIfHeld c n
      = s.setClerk c { s.clerk c with code := code, enabled := false } := by
    have horder : (s.setClerk c { s.clerk c with code := code, enabled := false }).order c = none := ho
    unfold State.parkIfHeld
    rw [horder]
  have hbind : (s.setClerk c { s.clerk c with code := code, enabled := false }).bind c none
      = s.setClerk c ⟨code, false, none⟩ := by
    rw [State.bind, State.setClerk_clerk_same]
    simp only [State.setClerk, Table.put_put]
  have hserving : (s.setClerk c ⟨code, false, none⟩).serving c = none := hv
  rw [hwritten, hpark, hbind, State.releaseServing_eq, hserving]

theorem flagByte_eq_ite (b : Bool) : flagByte b = [if b = true then 1 else 0] := by
  cases b <;> rfl

theorem optional_ordinal {k : Nat} (x : Option (Fin k)) :
    optional 1 (x.map fun n => be 1 (ordinal n))
      = match x with | some n => [1, BitVec.ofNat 8 (n.val + 1)] | none => [0, 0] := by
  cases x with
  | none => rfl
  | some n =>
    rw [Option.map_some, be_one]
    rfl

theorem optional_orderNumber (x : Option Order) :
    optional 2 (x.map fun o => be 2 o.number)
      = match x with | some o => 1 :: be 2 o.number | none => [0, 0, 0] := by
  cases x <;> rfl

end Sys2Proof.Machine

/-- Settles O25: the tests of a write, what it writes, and the read. -/
theorem clerkWriteAndReadAnswered : Obligations.ClerkWriteAndReadAnswered := by
  intro s tag payload rest s1
  refine ⟨fun hwaits => ?write, fun hwaits => ?read⟩
  case write =>
    intro done
    have hdone {a : Answer} (h : clerkWriteRequest payload s1 = a) : done a := answer_eq_replied hwaits h
    have hrequest := clerkWriteRequest_eq payload s1
    refine ⟨fun htrading => hdone (hrequest.trans (if_pos htrading)), fun hopened hdraining => ?_⟩
    have hidle : ¬(s1.counter.state = .opened ∨ s1.counter.state = .draining) := by
      rintro (h | h)
      · exact hopened h
      · exact hdraining h
    have hrequest := hrequest.trans (if_neg hidle)
    refine ⟨fun hbad => hdone (hrequest.trans ?_), fun c code enabled hwrite => ?_⟩
    · rw [hbad]
    have hwritten : clerkWriteRequest payload s1 = (s1.writeClerk c code enabled, okReply []) := by
      rw [hrequest, hwrite]
    refine ⟨fun hkept => hdone (hwritten.trans ?_), fun hbound hdisabled horder hserving => hdone (hwritten.trans ?_)⟩
    · rw [State.writeClerk_of_kept (s := s1) code hkept]
      rfl
    · rw [hdisabled, State.writeClerk_of_disabled (s := s1) code hbound horder hserving]
  case read =>
    refine answer_eq_replied (act := clerkReadRequest) hwaits ?_
    change clerkReadRequest payload s1 = _
    unfold clerkReadRequest
    cases ofOrdinal 32 (natAt payload 0 1) with
    | none => rfl
    | some c =>
      dsimp only
      have hclerk : s1.clerk c = s.clerk c := rfl
      have horder : s1.order c = s.order c := rfl
      rw [optional_ordinal, optional_orderNumber, flagByte_eq_ite, hclerk, horder]
        <;> cases (s.clerk c).bound <;> cases s.order c <;> rfl

end

section
/-! Taking a sale: LABEL and ADD ITEM (03 section 3.4, 04 section 4.4). -/

open Sys2Proof Sys2Proof.Machine

namespace Sys2Proof.Machine

/-! ## The tests of a sale (R49, R50) -/

/-- The order that a sale of a clerk joins: the clerk's own, or the new one that would be opened (R70). -/
def State.heldOrder (s : State) (c : ClerkNo) (n : StationNo) : Order :=
  (s.order c).getD (newOrder s.nextOrderNumber n s.clock ((s.serving c).map (·.number)))

/-- The test of an order, on the order that the sale joins: a new order passes it. -/
theorem heldTest_iff {s : State} {c : ClerkNo} {n : StationNo} {f : Order → Bool}
    (hnew : f (newOrder s.nextOrderNumber n s.clock ((s.serving c).map (·.number))) = false) :
    ((s.order c).map f).getD false = f (s.heldOrder c n) := by
  unfold State.heldOrder
  cases s.order c with
  | none => exact hnew.symm
  | some o => rfl

theorem totalAfter_eq (s : State) (c : ClerkNo) (n : StationNo) (price : Nat) :
    totalAfter (s.order c) price = (s.heldOrder c n).total + price := by
  unfold totalAfter State.heldOrder
  cases s.order c <;> rfl

theorem poolFree_iff (s : State) : s.poolFree = 0 ↔ 512 ≤ s.poolUsed := Nat.sub_eq_zero_iff_le

theorem saleRequest_eq_tested (labelled : Bool) (n : StationNo) (p : List Byte) (s : State) :
    saleRequest labelled n p s =
      tested (saleTests s n labelled) s
        (match s.boundClerk n with
        | none => refuse s .noClerk
        | some c =>
          tested (orderTests s n c labelled) s
            (match s.priceSale n (decodeSale p) true with
            | .error e => refuse s e
            | .ok r =>
              if Config.orderTotalLimit < totalAfter (s.order c) r.price then refuse s .totalLimit
              else acceptSale n c labelled r (s.withOrder c n))) := by
  unfold saleRequest tested
  cases firstOf (saleTests s n labelled) with
  | some e => rfl
  | none => cases s.boundClerk n <;> rfl

theorem tested_saleTests (s : State) (n : StationNo) (labelled : Bool) (a : Answer) :
    tested (saleTests s n labelled) s a =
      if s.link n = .absent then refuse s .noStation
      else if s.link n = .service then refuse s .inService
      else if (s.profile n).mode ≠ saleMode labelled then refuse s .refusedMode
      else if s.counter.state = .loading ∨ s.counter.state = .closed then refuse s .refusedState
      else a := by
  simp only [saleTests, tested_append, tested_linkTests, tested_cons, tested_nil, bne_iff_ne, notTrading_iff]

theorem tested_orderTests (s : State) (n : StationNo) (c : ClerkNo) (labelled : Bool) (a : Answer) :
    tested (orderTests s n c labelled) s a =
      if (s.heldOrder c n).holder ≠ some n then refuse s .notHolder
      else if (s.heldOrder c n).state = .closing then refuse s .busy
      else if s.order c = none ∧ s.counter.state = .draining then refuse s .refusedState
      else if labelled = true ∧ s.hasPrinter n = false then refuse s .noPrinter
      else if labelled = true ∧ (s.printer n).slot ≠ none then refuse s .printerBusy
      else if 40 ≤ (s.heldOrder c n).items.length ∨ 256 ≤ (s.heldOrder c n).nextItem then refuse s .orderFull
      else if 512 ≤ s.poolUsed then refuse s .poolFull
      else a := by
  have hitems : Config.itemsPerOrder = 40 := rfl
  have hnumbers : Config.itemNumbersEnd = 256 := rfl
  have hholder := heldTest_iff (s := s) (c := c) (n := n) (f := fun o => o.holder != some n) (by simp [newOrder])
  have hstate := heldTest_iff (s := s) (c := c) (n := n) (f := fun o => o.state == .closing) rfl
  have hfull := heldTest_iff (s := s) (c := c) (n := n)
    (f := fun o => decide (40 ≤ o.items.length) || decide (256 ≤ o.nextItem)) rfl
  simp only [orderTests, tested_cons, tested_nil, hholder, hstate, hfull, bne_iff_ne, beq_iff_eq, Bool.and_eq_true,
    Bool.or_eq_true, Bool.not_eq_true', decide_eq_true_eq, Option.isNone_iff_eq_none, State.slotBusy,
    Option.isSome_iff_ne_none, poolFree_iff, hitems, hnumbers]

/-! ## The order a sale joins, changed -/

/-- What opening a clerk's order changes besides the order itself: the last number issued, and the count (R70, R126). -/
def State.numbered (s : State) (c : ClerkNo) : State :=
  if s.order c = none then
    { s with
      orders := { s.orders with lastOrderNumber := s.nextOrderNumber }
      totals := { s.totals with openOrders := s.totals.openOrders + 1 } }
  else s

theorem State.withOrder_eq (s : State) (c : ClerkNo) (n : StationNo) :
    s.withOrder c n = (s.numbered c).setOrder c (some (s.heldOrder c n)) := by
  unfold State.withOrder State.numbered State.heldOrder
  cases h : s.order c with
  | none => rfl
  | some o =>
    have hself := s.setOrder_order_self c
    rw [h] at hself
    exact hself.symm

theorem State.withOrder_own (s : State) (c : ClerkNo) (n : StationNo) :
    (s.withOrder c n).order c = some (s.heldOrder c n) := by
  rw [withOrder_order, if_pos rfl]
  rfl

/-- The order that a sale joins, changed: opening it first leaves only the last number and the count besides. -/
theorem State.withOrder_onOrder (s : State) (c : ClerkNo) (n : StationNo) (f : Order → Order) :
    (s.withOrder c n).onOrder c f = (s.numbered c).setOrder c (some (f (s.heldOrder c n))) := by
  rw [State.onOrder_of_some (s.withOrder_own c n), State.withOrder_eq]
  simp only [State.setOrder, Table.put_put]

theorem State.withOrder_pricing (s : State) (c : ClerkNo) (n : StationNo) : (s.withOrder c n).pricing = s.pricing := by
  rw [State.withOrder_eq]
  unfold State.numbered
  split <;> rfl

theorem State.withOrder_counter (s : State) (c : ClerkNo) (n : StationNo) : (s.withOrder c n).counter = s.counter := by
  rw [State.withOrder_eq]
  unfold State.numbered
  split <;> rfl

theorem State.withOrder_labels (s : State) (c : ClerkNo) (n : StationNo) : (s.withOrder c n).labels = s.labels := by
  rw [State.withOrder_eq]
  unfold State.numbered
  split <;> rfl

/-- Opening an order first does not touch the weighing contexts. -/
theorem State.numbered_context (s : State) (c : ClerkNo) (n : StationNo) : (s.numbered c).context n = s.context n := by
  unfold State.numbered
  split <;> rfl

theorem State.numbered_printer (s : State) (c : ClerkNo) (n : StationNo) : (s.numbered c).printer n = s.printer n := by
  unfold State.numbered
  split <;> rfl

/-- The item of a sale depends on the prices' generation and the clock alone. -/
theorem saleItem_of_same {s t : State} (hpricing : t.pricing = s.pricing) (hcounter : t.counter = s.counter)
    (n : StationNo) (o : Order) (r : Priced) (label : Option Nat) : saleItem t n o r label = saleItem s n o r label := by
  unfold saleItem State.generation State.clock
  rw [hpricing, hcounter]

/-- An item label depends on the prices' settings and the roster alone. -/
theorem itemRecord_of_same {s t : State} (hpricing : t.pricing = s.pricing) (hcounter : t.counter = s.counter)
    (n : StationNo) (c : ClerkNo) (order : Nat) (f : PluFields) (i : Item) :
    itemRecord t n c order f i = itemRecord s n c order f i := by
  funext number
  unfold itemRecord State.labelWidth State.station
  rw [hpricing, hcounter]

/-! ## The sale accepted (R52, R72, R90) -/

theorem State.numbered_frame (s : State) (c : ClerkNo) :
    (s.numbered c).pricing = s.pricing ∧ (s.numbered c).counter = s.counter ∧ (s.numbered c).labels = s.labels
      ∧ (s.numbered c).weighing = s.weighing ∧ (s.numbered c).queue = s.queue := by
  unfold State.numbered
  split
  · exact ⟨rfl, rfl, rfl, rfl, rfl⟩
  · exact ⟨rfl, rfl, rfl, rfl, rfl⟩

theorem acceptSale_label (s : State) (n : StationNo) (c : ClerkNo) (r : Priced) :
    acceptSale n c true r (s.withOrder c n) =
      (let k := (s.printer n).nextNumber
       let held := s.heldOrder c n
       let i := saleItem s n held r (some k)
       ((((s.numbered c).setOrder c (some (held.allocate i))).compose n
          (itemRecord s n c held.number r.record.fields i)).useTare n r.source,
        okReply (saleReply held.number i))) := by
  have hpricing := s.withOrder_pricing c n
  have hcounter := s.withOrder_counter c n
  have hprinter : (s.withOrder c n).printer n = s.printer n := by
    unfold State.printer
    rw [s.withOrder_labels c n]
  obtain ⟨hp, hc, -⟩ := s.numbered_frame c
  have hitem (label : Option Nat) := saleItem_of_same hpricing hcounter n (s.heldOrder c n) r label
  have hrecord (i : Item) (x : Option Order) := itemRecord_of_same
    (s := s) (t := (s.numbered c).setOrder c x) hp hc n c (s.heldOrder c n).number r.record.fields i
  simp only [acceptSale, State.withOrder_own, if_true, State.acceptLabel, hitem, hprinter, State.withOrder_onOrder,
    hrecord]

theorem acceptSale_item (s : State) (n : StationNo) (c : ClerkNo) (r : Priced) :
    acceptSale n c false r (s.withOrder c n) =
      (let held := s.heldOrder c n
       let i := saleItem s n held r none
       ((((s.numbered c).setOrder c (some (held.allocate i))).goodsConfirmed c held.queueNumber).useTare n r.source,
        okReply (saleReply held.number i))) := by
  have hitem (label : Option Nat) :=
    saleItem_of_same (s.withOrder_pricing c n) (s.withOrder_counter c n) n (s.heldOrder c n) r label
  simp only [acceptSale, State.withOrder_own, Bool.false_eq_true, if_false, State.acceptItem, hitem,
    State.withOrder_onOrder]

theorem saleReply_label (order : Nat) (i : Item) {k : Nat} (h : i.label = some k) :
    saleReply order i
      = be 1 i.number ++ be 2 order ++ be 3 k ++ be 2 i.amount ++ be 2 i.tare ++ be 3 i.unitPrice
        ++ be 1 (if 0 < i.markdown then 1 else 0) ++ be 3 i.price ++ be 4 i.generation := by
  rw [saleReply, h, flagByte_decide]

theorem saleReply_item (order : Nat) (i : Item) (h : i.label = none) :
    saleReply order i
      = be 1 i.number ++ be 2 order ++ be 2 i.amount ++ be 2 i.tare ++ be 3 i.unitPrice
        ++ be 1 (if 0 < i.markdown then 1 else 0) ++ be 3 i.price ++ be 4 i.generation := by
  rw [saleReply, h, flagByte_decide, List.append_nil]

end Sys2Proof.Machine

/-- Settles O27: the tests in order, the price, and the item with its label. -/
theorem labelAnswered : Obligations.LabelAnswered := by
  intro s n tag payload rest hwaits s1
  refine answer_eq_replied (act := saleRequest true n) hwaits ?_
  change saleRequest true n payload s1 = _
  rw [saleRequest_eq_tested, tested_saleTests]
  have hmode : (s1.profile n).mode ≠ saleMode true ↔ (s.profile n).mode = .totalOnly := by
    change (s.profile n).mode ≠ .labelEach ↔ _
    cases (s.profile n).mode <;> simp
  refine if_congr Iff.rfl rfl (if_congr Iff.rfl rfl (if_congr hmode rfl (if_congr Iff.rfl rfl ?_)))
  have hbound : s1.boundClerk n = s.boundClerk n := rfl
  rw [hbound]
  cases s.boundClerk n with
  | none => rfl
  | some c =>
    dsimp only
    rw [tested_orderTests]
    refine if_congr Iff.rfl rfl (if_congr Iff.rfl rfl (if_congr Iff.rfl rfl (if_congr (and_iff_right rfl) rfl
      (if_congr (and_iff_right rfl) rfl (if_congr Iff.rfl rfl (if_congr Iff.rfl rfl ?_))))))
    have hprice : s1.priceSale n (decodeSale payload) true = s.priceSale n (decodeSale payload) true := rfl
    rw [hprice]
    cases s.priceSale n (decodeSale payload) true with
    | error e => rfl
    | ok r =>
      dsimp only
      rw [totalAfter_eq s1 c n]
      refine if_congr Iff.rfl rfl ?_
      rw [acceptSale_label]
      dsimp only
      rw [saleReply_label _ _ rfl]
      refine Prod.ext ?_ ?_
      · have hcontext (x : Option Order) (mk : Nat → LabelRecord) :
            (((s1.numbered c).setOrder c x).compose n mk).context n = s.context n := s1.numbered_context c n
        rw [State.useTare, hcontext, State.compose_eq, State.setOrder_printer, State.numbered_printer]
        refine if_congr Iff.rfl ?_ ?_
        · rfl
        · rfl
      · rfl

namespace Sys2Proof.Machine

/-- Goods confirmed for an order's queue number, said by the serving record (R118). -/
theorem goodsConfirmed_eq (s : State) (c : ClerkNo) (k : Option Nat) :
    s.goodsConfirmed c k =
      match s.serving c with
      | some v => if k = some v.number then s.setServing c (some { v with hadGoods := true }) else s
      | none => s := by
  unfold State.goodsConfirmed
  cases k with
  | none => cases s.serving c <;> rfl
  | some j =>
    cases s.serving c with
    | none => rfl
    | some v =>
      refine if_congr ?_ rfl rfl
      rw [Option.some_inj]
      exact eq_comm

theorem goodsConfirmed_context (s : State) (c : ClerkNo) (k : Option Nat) (n : StationNo) :
    (s.goodsConfirmed c k).context n = s.context n := by
  rw [goodsConfirmed_eq]
  cases s.serving c with
  | none => rfl
  | some v =>
    dsimp only
    split <;> rfl

theorem State.numbered_serving (s : State) (c d : ClerkNo) : (s.numbered c).serving d = s.serving d := by
  unfold State.numbered
  split <;> rfl

end Sys2Proof.Machine

/-- Settles O28: the tests in order, the price, and the item CONFIRMED. -/
theorem addItemAnswered : Obligations.AddItemAnswered := by
  intro s n tag payload rest hwaits s1
  refine answer_eq_replied (act := saleRequest false n) hwaits ?_
  change saleRequest false n payload s1 = _
  rw [saleRequest_eq_tested, tested_saleTests]
  have hmode : (s1.profile n).mode ≠ saleMode false ↔ (s.profile n).mode = .labelEach := by
    change (s.profile n).mode ≠ .totalOnly ↔ _
    cases (s.profile n).mode <;> simp
  refine if_congr Iff.rfl rfl (if_congr Iff.rfl rfl (if_congr hmode rfl (if_congr Iff.rfl rfl ?_)))
  have hbound : s1.boundClerk n = s.boundClerk n := rfl
  rw [hbound]
  cases s.boundClerk n with
  | none => rfl
  | some c =>
    dsimp only
    have hunlabelled {p : Prop} : ¬(false = true ∧ p) := fun h => Bool.false_ne_true h.1
    rw [tested_orderTests, if_neg hunlabelled, if_neg hunlabelled]
    refine if_congr Iff.rfl rfl (if_congr Iff.rfl rfl (if_congr Iff.rfl rfl (if_congr Iff.rfl rfl
      (if_congr Iff.rfl rfl ?_))))
    have hprice : s1.priceSale n (decodeSale payload) true = s.priceSale n (decodeSale payload) true := rfl
    rw [hprice]
    cases s.priceSale n (decodeSale payload) true with
    | error e => rfl
    | ok r =>
      dsimp only
      rw [totalAfter_eq s1 c n]
      refine if_congr Iff.rfl rfl ?_
      rw [acceptSale_item]
      dsimp only
      rw [saleReply_item _ _ rfl]
      refine Prod.ext ?_ ?_
      · have hcontext (x : Option Order) (k : Option Nat) :
            (((s1.numbered c).setOrder c x).goodsConfirmed c k).context n = s.context n :=
          (goodsConfirmed_context _ c k n).trans (s1.numbered_context c n)
        have hserving (x : Option Order) : ((s1.numbered c).setOrder c x).serving c = s.serving c :=
          s1.numbered_serving c c
        have hserved : s1.serving c = s.serving c := rfl
        rw [State.useTare, hcontext, goodsConfirmed_eq, hserving, State.heldOrder, hserved]
        cases s.serving c with
        | none => exact if_congr Iff.rfl rfl rfl
        | some v => exact if_congr Iff.rfl rfl rfl
      · rfl

end

section
/-! Closing an order (04 section 4.6). -/

open Sys2Proof Sys2Proof.Machine

namespace Sys2Proof.Machine

theorem closeOrderRequest_eq_tested (n : StationNo) (p : List Byte) (s : State) :
    closeOrderRequest n p s =
      tested (linkTests s n) s
        (match s.boundClerk n with
        | none => refuse s .noClerk
        | some c =>
          match s.order c with
          | none => refuse s .noOrder
          | some o =>
            tested (closeTests s n o) s
              (if (o.inState .confirmed).isEmpty then
                (s.closeEmpty c, okReply (be 1 0 ++ be 2 o.number ++ be 1 (o.inState .voided).length))
              else
                (s.beginClose c n o,
                  okReply (be 1 1 ++ be 3 (s.printer n).nextNumber ++ summaryOpen (s.beginClose c n o) c
                    ++ be 3 (o.valueOf .confirmed))))) := by
  unfold closeOrderRequest tested
  cases firstOf (linkTests s n) with
  | some e => rfl
  | none => cases s.boundClerk n <;> rfl

/-- The tests of CLOSE ORDER: those of the total label come once there are goods. -/
theorem tested_closeTests (s : State) (n : StationNo) (o : Order) (a b : Answer) :
    tested (closeTests s n o) s (if (o.inState .confirmed).isEmpty then a else b) =
      if o.holder ≠ some n then refuse s .notHolder
      else if o.labelInFlight = true then refuse s .busy
      else if o.inState .confirmed = [] then a
      else if s.hasPrinter n = false then refuse s .noPrinter
      else if (s.printer n).slot ≠ none then refuse s .printerBusy
      else b := by
  simp only [closeTests, tested_cons, tested_nil, bne_iff_ne, Bool.and_eq_true, Bool.not_eq_true', State.slotBusy,
    Option.isSome_iff_ne_none, ← Bool.not_eq_true (List.isEmpty _), List.isEmpty_iff]
  by_cases h : o.inState .confirmed = []
  · simp [h]
  · simp [h]

/-- A drain ends when the last order has closed. -/
theorem State.reportClosing_eq (s : State) :
    s.reportClosing
      = if s.counter.state = .draining ∧ s.openOrders = [] then s.enterState .closed else s := by
  unfold State.reportClosing State.openOrderCount
  simp only [List.length_eq_zero_iff]

/-- The order closing, in the state that has composed its total label. -/
theorem State.beginClose_eq {s : State} {c : ClerkNo} {o : Order} (ho : s.order c = some o) (n : StationNo) :
    s.beginClose c n o = (s.compose n (totalRecord s n c o)).setOrder c (some (o.setState .closing)) := by
  have hkept : (s.compose n (totalRecord s n c o)).order c = some o := ho
  rw [State.beginClose, State.onOrder_of_some hkept]

end Sys2Proof.Machine

/-- Settles O31: the tests in order, the empty close, and the total label. -/
theorem closeOrderAnswered : Obligations.CloseOrderAnswered := by
  intro s n tag payload rest hwaits s1
  refine answer_eq_replied (act := closeOrderRequest n) hwaits ?_
  change closeOrderRequest n payload s1 = _
  rw [closeOrderRequest_eq_tested, tested_linkTests]
  refine if_congr Iff.rfl rfl (if_congr Iff.rfl rfl ?_)
  have hbound : s1.boundClerk n = s.boundClerk n := rfl
  have horder (c : ClerkNo) : s1.order c = s.order c := rfl
  rw [hbound]
  cases s.boundClerk n with
  | none => rfl
  | some c =>
    dsimp only
    rw [horder]
    cases ho : s.order c with
    | none => rfl
    | some o =>
      dsimp only
      rw [tested_closeTests]
      refine if_congr Iff.rfl rfl (if_congr Iff.rfl rfl (if_congr Iff.rfl ?_ (if_congr Iff.rfl rfl
        (if_congr Iff.rfl rfl ?_))))
      · rw [State.closeEmpty, State.reportClosing_eq]
        rfl
      · have hclosed : (s1.beginClose c n o).order c = some (o.setState .closing) := by
          rw [State.beginClose_eq (s := s1) ho, State.setOrder_order_same]
        have hsummary : summaryOpen (s1.beginClose c n o) c = orderSummary c (o.setState .closing) := by
          rw [summaryOpen, hclosed]
          rfl
        rw [hsummary, State.beginClose_eq (s := s1) ho]
        refine Prod.ext ?_ ?_
        · rfl
        · rfl

end

section
/-! The figures of a label and its parts (05 sections 5.3 and 5.4). -/

open Sys2Proof Sys2Proof.Machine

namespace Sys2Proof.Machine

/-! ## Codes (R93, R94) -/

theorem checkDigit_twelve (a b c d e f g h i j k l : Nat) :
    checkDigit [a, b, c, d, e, f, g, h, i, j, k, l]
      = (10 - ((a + c + e + g + i + k) + 3 * (b + d + f + h + j + l)) % 10) % 10 := by
  have hsum : weightedSum [a, b, c, d, e, f, g, h, i, j, k, l]
      = (a + c + e + g + i + k) + 3 * (b + d + f + h + j + l) := by
    simp only [weightedSum]
    omega
  rw [checkDigit, hsum]

theorem decimalDigits_length (k x : Nat) : (decimalDigits k x).length = k := by
  induction k with
  | zero => rfl
  | succ k ih => rw [decimalDigits, List.length_cons, ih]

theorem decimalDigits_lt (k x : Nat) : ∀ d ∈ decimalDigits k x, d < 10 := by
  induction k with
  | zero => exact fun d hd => absurd hd List.not_mem_nil
  | succ k ih =>
    intro d hd
    rcases List.mem_cons.mp hd with rfl | hd
    · exact Nat.mod_lt _ (by omega)
    · exact ih d hd

/-- Digits read back as the number's last `k` digits, behind those read before. -/
theorem foldl_decimalDigits (k x a : Nat) :
    (decimalDigits k x).foldl (fun y d => 10 * y + d) a = a * 10 ^ k + x % 10 ^ k := by
  induction k generalizing a with
  | zero => simp [decimalDigits, Nat.mod_one]
  | succ k ih =>
    rw [decimalDigits, List.foldl_cons, ih, Nat.mod_pow_succ]
    ring

theorem codeOf_of_over {value : Nat} (pre number : Nat) (h : 99999 < value) : codeOf pre number value = none :=
  if_pos h

theorem codeOf_of_fits {pre number value : Nat} (hpre : pre < 100) (hnumber : number < 100000) (h : value ≤ 99999) :
    ∃ ds : List Nat, codeOf pre number value = some (ds ++ [checkDigit ds]) ∧ ds.length = 12 ∧ (∀ d ∈ ds, d < 10)
      ∧ ds.foldl (fun x d => 10 * x + d) 0 = pre * 10000000000 + number * 100000 + value := by
  refine ⟨decimalDigits 2 pre ++ decimalDigits 5 number ++ decimalDigits 5 value, if_neg (by omega), ?_, ?_, ?_⟩
  · simp only [List.length_append, decimalDigits_length]
  · intro d hd
    rcases List.mem_append.mp hd with hd | hd
    · rcases List.mem_append.mp hd with hd | hd
      · exact decimalDigits_lt _ _ d hd
      · exact decimalDigits_lt _ _ d hd
    · exact decimalDigits_lt _ _ d hd
  · rw [List.foldl_append, List.foldl_append, foldl_decimalDigits, foldl_decimalDigits, foldl_decimalDigits]
    omega

/-! ## The calendar (R95) -/

/-- The days before a month and the days of that month are the days before the next one. -/
theorem sum_take_month {m : Nat} (y : Nat) (h1 : 1 ≤ m) (h2 : m ≤ 12) :
    ((monthLengths y).take m).sum = ((monthLengths y).take (m - 1)).sum + daysInMonth y m := by
  obtain ⟨k, rfl⟩ : ∃ k, m = k + 1 := ⟨m - 1, by omega⟩
  have hk : k < (monthLengths y).length := Nat.lt_of_succ_le h2
  rw [Nat.add_sub_cancel, List.sum_take_succ _ _ hk, daysInMonth, Nat.add_sub_cancel, List.getD_eq_getElem _ _ hk]

theorem Date.dayNumber_next {d : Date} (h : d.valid = true) : d.next.dayNumber = d.dayNumber + 1 := by
  simp only [Date.valid, Bool.and_eq_true, decide_eq_true_eq] at h
  obtain ⟨⟨⟨⟨⟨hy1, hy2⟩, hm1⟩, hm2⟩, hd1⟩, hd2⟩ := h
  unfold Date.next
  split
  · simp only [Date.dayNumber]
    omega
  · next hday =>
    have hsum := sum_take_month d.year hm1 hm2
    split
    · simp only [Date.dayNumber, Nat.add_sub_cancel]
      omega
    · next hmonth =>
      have hm : d.month = 12 := by omega
      rw [hm] at hsum
      have hyear : ((monthLengths d.year).take 12).sum = if d.year % 4 = 0 then 366 else 365 := by
        unfold monthLengths isLeap
        by_cases hleap : d.year % 4 = 0
        · simp [hleap]
        · simp [hleap]
      have hfirst : ((monthLengths (d.year + 1)).take (1 - 1)).sum = 0 := rfl
      rw [hm] at hday hd2
      simp only [Date.dayNumber, hfirst, hm]
      split_ifs at hyear
      · omega
      · omega

theorem Date.dayNumber_le {d : Date} (h : d.valid = true) : d.dayNumber ≤ lastDate.dayNumber := by
  have hlast : lastDate.dayNumber = 36524 := rfl
  simp only [Date.valid, Bool.and_eq_true, decide_eq_true_eq] at h
  obtain ⟨⟨⟨⟨⟨hy1, hy2⟩, hm1⟩, hm2⟩, hd1⟩, hd2⟩ := h
  have hsum := sum_take_month d.year hm1 hm2
  have hprefix : ((monthLengths d.year).take d.month).sum ≤ (monthLengths d.year).sum :=
    (List.take_sublist _ _).sum_le_sum (fun _ _ => Nat.zero_le _)
  have hyear : (monthLengths d.year).sum = if d.year % 4 = 0 then 366 else 365 := by
    unfold monthLengths isLeap
    by_cases hleap : d.year % 4 = 0
    · simp [hleap]
    · simp [hleap]
  rw [hlast, Date.dayNumber]
  split_ifs at hyear
  · omega
  · omega

theorem Date.advance_spec {d : Date} (h : d.valid = true) (k : Nat) :
    (d.advance k).valid = true ∧ (d.advance k).dayNumber = min (d.dayNumber + k) lastDate.dayNumber := by
  induction k generalizing d with
  | zero =>
    refine ⟨h, ?_⟩
    rw [Nat.add_zero, Nat.min_eq_left (Date.dayNumber_le h), Date.advance]
  | succ k ih =>
    rw [Date.advance]
    split
    · next hlast =>
      obtain ⟨hvalid, hnumber⟩ := ih h
      refine ⟨hvalid, ?_⟩
      rw [hnumber, hlast]
      omega
    · next hlast =>
      obtain ⟨hvalid, hnumber⟩ := ih (Date.next_valid h hlast)
      refine ⟨hvalid, ?_⟩
      rw [hnumber, Date.dayNumber_next h]
      omega

theorem sellBy_of_pos (d : Date) {k : Nat} (h : 0 < k) : sellBy d k = some (d.advance k) := if_neg (by omega)

theorem DateTime.bytes_eq (t : DateTime) :
    t.bytes
      = [BitVec.ofNat 8 (t.date.year - 2000), BitVec.ofNat 8 t.date.month, BitVec.ofNat 8 t.date.day,
          BitVec.ofNat 8 t.hour, BitVec.ofNat 8 t.minute, BitVec.ofNat 8 t.second] := by
  simp only [DateTime.bytes, Date.bytes, be_one]
  rfl

/-! ## Push parts (R181, R182) -/

/-- The head of a label's part: its number, its place and the count of parts. -/
def partHead (number index count : Nat) : List Byte := be 3 number ++ be 1 index ++ be 1 count

theorem length_partHead (number index count : Nat) : (partHead number index count).length = 5 := by
  simp only [partHead, List.length_append, length_be]

theorem partFrames_getElem? (number count : Nat) (bs : List (List Byte)) (i j : Nat) :
    (partFrames number count i bs)[j]?
      = bs[j]?.map fun b => ⟨labelKind, 0, partHead number (i + j) count ++ b⟩ := by
  induction bs generalizing i j with
  | nil => rfl
  | cons b bs ih =>
    cases j with
    | zero => rfl
    | succ j =>
      rw [partFrames, List.getElem?_cons_succ, List.getElem?_cons_succ, ih]
      have hindex : i + 1 + j = i + (j + 1) := by omega
      rw [hindex]

theorem length_partFrames (number count i : Nat) (bs : List (List Byte)) :
    (partFrames number count i bs).length = bs.length := by
  induction bs generalizing i with
  | nil => rfl
  | cons b bs ih => rw [partFrames, List.length_cons, List.length_cons, ih]

theorem LabelRecord.length_parts (r : LabelRecord) : r.parts.length = r.partBodies.length := length_partFrames ..

theorem LabelRecord.parts_getElem? (r : LabelRecord) (j : Nat) :
    r.parts[j]? = r.partBodies[j]?.map fun b => ⟨labelKind, 0, partHead r.number (1 + j) r.partBodies.length ++ b⟩ :=
  partFrames_getElem? ..

/-- What a part carries behind its head. -/
theorem drop_partHead (number index count : Nat) (b : List Byte) : (partHead number index count ++ b).drop 5 = b := by
  rw [← length_partHead number index count, List.drop_left]

theorem partFrames_bodies (number count i : Nat) (bs : List (List Byte)) :
    ((partFrames number count i bs).map fun f => f.payload.drop 5) = bs := by
  induction bs generalizing i with
  | nil => rfl
  | cons b bs ih =>
    rw [partFrames, List.map_cons, ih]
    exact congrArg (· :: bs) (drop_partHead number i count b)

/-! ## The lines of a TOTAL label, sixteen to a part (R182) -/

theorem lineGroups_of_ne_nil {ls : List LabelLine} (fuel : Nat) (h : ls ≠ []) :
    lineGroups (fuel + 1) ls = ls.take 16 :: lineGroups fuel (ls.drop 16) := by
  cases ls with
  | nil => exact absurd rfl h
  | cons l ls => rfl

/-- The groups together are the lines. -/
theorem flatten_lineGroups {fuel : Nat} {ls : List LabelLine} (h : ls.length ≤ fuel) :
    (lineGroups fuel ls).flatten = ls := by
  induction fuel generalizing ls with
  | zero =>
    rw [List.length_eq_zero_iff.mp (Nat.le_zero.mp h)]
    rfl
  | succ fuel ih =>
    by_cases hnil : ls = []
    · rw [hnil]
      rfl
    · have hpos := List.length_pos_iff.mpr hnil
      rw [lineGroups_of_ne_nil fuel hnil, List.flatten_cons, ih (by rw [List.length_drop]; omega), List.take_append_drop]

theorem length_lineGroups {fuel : Nat} {ls : List LabelLine} (h : ls.length ≤ fuel) :
    (lineGroups fuel ls).length = (ls.length + 15) / 16 := by
  induction fuel generalizing ls with
  | zero =>
    rw [List.length_eq_zero_iff.mp (Nat.le_zero.mp h)]
    rfl
  | succ fuel ih =>
    by_cases hnil : ls = []
    · rw [hnil]
      rfl
    · have hpos := List.length_pos_iff.mpr hnil
      rw [lineGroups_of_ne_nil fuel hnil, List.length_cons, ih (by rw [List.length_drop]; omega), List.length_drop]
      omega

/-- A group holds sixteen lines, and the last one the remainder. -/
theorem length_lineGroup {fuel : Nat} {ls : List LabelLine} (h : ls.length ≤ fuel) {j : Nat} {g : List LabelLine}
    (hg : (lineGroups fuel ls)[j]? = some g) : g.length = min 16 (ls.length - 16 * j) := by
  induction fuel generalizing ls j with
  | zero => cases hg
  | succ fuel ih =>
    by_cases hnil : ls = []
    · rw [hnil] at hg
      cases hg
    · have hpos := List.length_pos_iff.mpr hnil
      rw [lineGroups_of_ne_nil fuel hnil] at hg
      cases j with
      | zero =>
        cases hg
        rw [List.length_take]
        omega
      | succ j =>
        rw [ih (by rw [List.length_drop]; omega) hg, List.length_drop]
        omega

/-! ## The label head and the bodies (R181) -/

theorem codeBytes_eq (x : Option (List Nat)) :
    codeBytes x
      = match x with | some ds => ds.map fun d => BitVec.ofNat 8 (0x30 + d) | none => List.replicate 13 0 := by
  cases x with
  | none => rfl
  | some ds =>
    simp only [codeBytes, be_one]
    exact List.map_eq_flatMap.symm

theorem length_codeBytes {x : Option (List Nat)} (h : ∀ ds, x = some ds → ds.length = 13) :
    (codeBytes x).length = 13 := by
  rw [codeBytes_eq]
  cases x with
  | none => rfl
  | some ds =>
    rw [List.length_map]
    exact h ds rfl

theorem LabelRecord.head_eq (r : LabelRecord) :
    r.head
      = [match r.kind with | .item => 1 | .total => 2 | .reprint => 3, BitVec.ofNat 8 r.body.originalKind.code,
          BitVec.ofNat 8 r.flags, BitVec.ofNat 8 r.width, BitVec.ofNat 8 (r.station.val + 1)]
        ++ be 3 r.original ++ be 2 r.order ++ [BitVec.ofNat 8 (r.clerk.val + 1)] ++ r.time.bytes
        ++ (match r.code with | some ds => ds.map fun d => BitVec.ofNat 8 (0x30 + d) | none => List.replicate 13 0) := by
  rw [LabelRecord.head, LabelKind.be_code, codeBytes_eq]
  simp only [be_one]
  rfl

theorem DateTime.length_bytes (t : DateTime) : t.bytes.length = 6 := by
  rw [DateTime.bytes_eq]
  rfl

theorem LabelRecord.length_head {r : LabelRecord} (h : ∀ ds, r.code = some ds → ds.length = 13) :
    r.head.length = 30 := by
  simp only [LabelRecord.head, List.length_append, length_be, DateTime.length_bytes, length_codeBytes h]

theorem bodies_of_item {r : LabelRecord} {b : ItemLabel} (h : r.body = .item b) :
    r.partBodies = [r.head ++ b.bytes] := by
  rw [LabelRecord.partBodies, h]

theorem bodies_of_total {r : LabelRecord} {b : TotalLabel} (h : r.body = .total b) :
    r.partBodies = (r.head ++ b.bytes) :: (lineGroups b.lines.length b.lines).map fun g => g.flatMap LabelLine.bytes := by
  rw [LabelRecord.partBodies, h]

/-- The two flags that every label has. -/
def LabelRecord.omitted (r : LabelRecord) : Nat :=
  (if r.duplicate then 1 else 0) + (if r.code = none then 2 else 0)

theorem flags_of_item {r : LabelRecord} {b : ItemLabel} (h : r.body = .item b) :
    r.flags = r.omitted + (if b.markdown then 4 else 0) + (if b.sellBy = none then 0 else 8) := by
  rw [LabelRecord.flags, h, LabelRecord.omitted]
  simp only [flagBits, Option.isNone_iff_eq_none, Option.isSome_iff_ne_none, ne_eq, ite_not, Bool.false_eq_true, if_false]
  split_ifs <;> rfl

theorem flags_of_total {r : LabelRecord} {b : TotalLabel} (h : r.body = .total b) :
    r.flags = r.omitted + (if b.queueNumber = none then 0 else 16) := by
  rw [LabelRecord.flags, h, LabelRecord.omitted]
  simp only [flagBits, Option.isNone_iff_eq_none, Option.isSome_iff_ne_none, ne_eq, ite_not, Bool.false_eq_true, if_false]
  split_ifs <;> rfl

/-- The sell-by date of an item label in its three bytes. -/
def sellByBytes : Option Date → List Byte
  | some d => d.bytes
  | none => List.replicate 3 0

theorem length_sellByBytes (x : Option Date) : (sellByBytes x).length = 3 := by
  cases x with
  | none => rfl
  | some d => simp only [sellByBytes, Date.bytes, List.length_append, length_be]

theorem sellByBytes_some (d : Date) :
    sellByBytes (some d) = [BitVec.ofNat 8 (d.year - 2000), BitVec.ofNat 8 d.month, BitVec.ofNat 8 d.day] := by
  simp only [sellByBytes, Date.bytes, be_one]
  rfl

theorem ItemLabel.bytes_eq (b : ItemLabel) :
    b.bytes
      = be 1 b.itemNumber ++ be 3 b.plu ++ be 1 b.kind.code ++ be 2 b.amount ++ be 2 b.tare ++ be 3 b.unitPrice
        ++ be 3 b.price ++ sellByBytes b.sellBy ++ descriptionBytes b.description := by
  rw [ItemLabel.bytes]
  cases b.sellBy <;> rfl

theorem ProductKind.be_code (k : ProductKind) : be 1 k.code = [match k with | .byWeight => 1 | .byCount => 2] := by
  cases k <;> rfl

theorem ItemLabel.length_bytes {b : ItemLabel} (h : b.description.length ≤ 24) : b.bytes.length = 43 := by
  simp only [ItemLabel.bytes_eq, List.length_append, length_be, length_descriptionBytes h, length_sellByBytes]

theorem TotalLabel.length_bytes (b : TotalLabel) : b.bytes.length = 9 := by
  simp only [TotalLabel.bytes, List.length_append, length_be]

theorem LabelLine.length_bytes (l : LabelLine) : l.bytes.length = 14 := by
  simp only [LabelLine.bytes, List.length_append, length_be]

theorem LabelLine.bytes_eq (l : LabelLine) :
    l.bytes
      = be 1 l.itemNumber ++ be 3 l.plu
        ++ be 1 ((if l.kind = .byCount then 1 else 0) + (if l.voided then 2 else 0) + (if l.label = none then 4 else 0))
        ++ be 2 l.amount ++ be 3 l.price ++ be 1 (l.station.val + 1) ++ be 3 (l.label.getD 0) := by
  have hflags : flagBits [l.kind == .byCount, l.voided, l.label.isNone]
      = (if l.kind = .byCount then 1 else 0) + (if l.voided then 2 else 0) + (if l.label = none then 4 else 0) := by
    simp only [flagBits, beq_iff_eq, Option.isNone_iff_eq_none]
    split_ifs <;> rfl
  rw [LabelLine.bytes, hflags]
  rfl

theorem length_flatMap_lines (g : List LabelLine) : (g.flatMap LabelLine.bytes).length = 14 * g.length := by
  induction g with
  | nil => rfl
  | cons l g ih => rw [List.flatMap_cons, List.length_append, ih, LabelLine.length_bytes, List.length_cons]; omega

end Sys2Proof.Machine

/-- Settles O32: the code's digits, the sell-by date, and the parts. -/
theorem labelFiguresAndParts : Obligations.LabelFiguresAndParts := by
  refine ⟨⟨checkDigit_twelve, fun pre number value hpre hnumber =>
    ⟨codeOf_of_over pre number, codeOf_of_fits hpre hnumber⟩⟩, fun d k hd => ⟨fun hk => if_pos hk, fun hk => ?_⟩,
    DateTime.bytes_eq, ?_⟩
  · obtain ⟨hvalid, hnumber⟩ := Date.advance_spec hd k
    exact ⟨d.advance k, sellBy_of_pos d hk, hvalid, hnumber⟩
  intro r hcode parts codes omitted head goods line
  refine ⟨fun j f hf => ?_, fun b hb hdescription => ?_, fun b hb => ?_⟩
  · rw [r.parts_getElem?] at hf
    obtain ⟨x, -, rfl⟩ := Option.map_eq_some_iff.mp hf
    refine ⟨rfl, rfl, ?_⟩
    have htake : (partHead r.number (1 + j) r.partBodies.length ++ x).take 5
        = partHead r.number (1 + j) r.partBodies.length := by
      rw [← length_partHead r.number (1 + j) r.partBodies.length, List.take_left]
    refine htake.trans ?_
    rw [partHead, be_one, be_one, Nat.add_comm 1 j, ← r.length_parts, List.append_assoc]
    rfl
  · have hbodies := bodies_of_item hb
    have hhead : r.head = head 1 (omitted + (if b.markdown then 4 else 0) + (if b.sellBy = none then 0 else 8)) := by
      rw [r.head_eq, flags_of_item hb, hb]
      rfl
    refine ⟨by rw [r.length_parts, hbodies]; rfl, fun f hf => ?_⟩
    obtain ⟨j, hj⟩ := List.mem_iff_getElem?.mp hf
    rw [r.parts_getElem?, hbodies] at hj
    obtain ⟨x, hx, rfl⟩ := Option.map_eq_some_iff.mp hj
    obtain rfl : x = r.head ++ b.bytes := List.mem_singleton.mp (List.mem_of_getElem? hx)
    constructor
    · simp only [List.length_append, length_partHead, LabelRecord.length_head hcode,
        ItemLabel.length_bytes hdescription]
    · refine (drop_partHead ..).trans ?_
      rw [hhead, ItemLabel.bytes_eq, ProductKind.be_code, descriptionBytes]
      cases b.sellBy with
      | none =>
        simp only [List.append_assoc]
        rfl
      | some d =>
        rw [sellByBytes_some]
        simp only [List.append_assoc]
        rfl
  · have hbodies := bodies_of_total hb
    have hhead : r.head = head 2 (omitted + (if b.queueNumber = none then 0 else 16)) := by
      rw [r.head_eq, flags_of_total hb, hb]
      rfl
    have hlines := length_lineGroups (le_refl b.lines.length)
    refine ⟨?_, fun f hf => ?_, ?_, fun j f hf => ?_⟩
    · rw [r.length_parts, hbodies, List.length_cons, List.length_map, hlines, Nat.add_comm]
    · rw [List.head?_eq_getElem?] at hf
      have hf := (r.parts_getElem? 0).symm.trans hf
      rw [hbodies] at hf
      cases hf
      constructor
      · simp only [List.length_append, length_partHead, LabelRecord.length_head hcode, TotalLabel.length_bytes]
      · refine (drop_partHead ..).trans ?_
        rw [hhead, TotalLabel.bytes]
        simp only [List.append_assoc]
    · have hdrop : (parts.map fun f => f.payload.drop 5) = r.partBodies := partFrames_bodies ..
      rw [List.flatMap_def, List.map_tail, hdrop, hbodies, List.tail_cons]
      have hline : LabelLine.bytes = line := funext LabelLine.bytes_eq
      rw [← hline, ← List.flatMap_def, ← List.flatMap_assoc, List.flatMap_id', flatten_lineGroups (le_refl _)]
    · rw [List.getElem?_tail, r.parts_getElem?, hbodies, List.getElem?_cons_succ, List.getElem?_map] at hf
      obtain ⟨x, hx, rfl⟩ := Option.map_eq_some_iff.mp hf
      obtain ⟨g, hg, rfl⟩ := Option.map_eq_some_iff.mp hx
      rw [← length_lineGroup (le_refl _) hg, ← length_flatMap_lines, List.length_append, length_partHead]

end

section
/-! How a label ends (05 section 5.5). -/

open Sys2Proof Sys2Proof.Machine

namespace Sys2Proof.Machine

/-! ## The arrival of a report -/

/-- A good frame touches the roster alone. -/
theorem State.goodFrame_roster (s : State) (p : Port) :
    ∃ x, s.goodFrame p = { s with counter := { s.counter with roster := x } } := by
  cases p with
  | s n =>
    by_cases h : s.link n = .absent
    · rw [goodFrame_of_absent h]
      exact ⟨s.counter.roster, rfl⟩
    · rw [goodFrame_of_present h]
      exact ⟨_, rfl⟩
  | q => exact ⟨s.counter.roster, rfl⟩
  | b => exact ⟨s.counter.roster, rfl⟩
  | v => exact ⟨s.counter.roster, rfl⟩

theorem exec_printDone {s : State} (h : s.resetLow = false) (n : StationNo) (k : Nat) :
    exec (.printDone n k) s = .next ((s.goodFrame (.s n)).printDone n k).startAll :=
  unlessReset_high (fun s => (s.goodFrame (.s n)).printDone n k) h

theorem exec_printFail {s : State} (h : s.resetLow = false) (n : StationNo) (k : Nat) :
    exec (.printFail n k) s = .next ((s.goodFrame (.s n)).printFail n k).startAll :=
  unlessReset_high (fun s => (s.goodFrame (.s n)).printFail n k) h

theorem exec_printDeadlineExpiry {s : State} (h : s.resetLow = false) (n : StationNo) :
    exec (.printDeadlineExpiry n) s = .next (s.deadlineExpired n).startAll :=
  unlessReset_high (fun s => s.deadlineExpired n) h

theorem matching_of_free {s : State} {n : StationNo} (k : Nat) (h : (s.printer n).slot = none) :
    s.matching n k = none := by
  rw [State.matching, h]

theorem matching_of_slot {s : State} {n : StationNo} {x : PrintSlot} (k : Nat) (h : (s.printer n).slot = some x) :
    s.matching n k = if x.record.number = k then some x.record else none := by
  rw [State.matching, h]

/-! ## PRINT DONE (R98, R99) -/

theorem printDone_of_unmatched {s : State} {n : StationNo} {k : Nat} (h : s.matching n k = none) :
    s.printDone n k = s := by
  rw [State.printDone, h]

theorem printDone_of_matched {s : State} {n : StationNo} {k : Nat} {r : LabelRecord} (h : s.matching n k = some r) :
    s.printDone n k = s.finishLabel n r := by
  rw [State.printDone, h]

/-- A slot freed, with a last label. -/
def State.freedSlot (s : State) (n : StationNo) (last : Option LabelRecord) : State :=
  (s.setPrinter n ⟨none, (s.printer n).nextNumber, last⟩).onPort (.s n) fun p => { p with labelLane := [] }

theorem State.freeSlot_eq (s : State) (n : StationNo) : s.freeSlot n = s.freedSlot n (s.printer n).last := rfl

/-- The last label set after the slot was freed. -/
theorem State.freeSlot_setLast (s : State) (n : StationNo) (last : Option LabelRecord) :
    (s.freeSlot n).setPrinter n { (s.freeSlot n).printer n with last := last } = s.freedSlot n last := by
  have hprinter : (s.freeSlot n).printer n = { s.printer n with slot := none } := by
    rw [State.freeSlot, State.onPort_printer, State.setPrinter_printer_same]
  rw [hprinter]
  simp only [State.freeSlot, State.freedSlot, State.setPrinter, State.onPort, State.setPort, State.port, Table.put_put]

theorem finishLabel_reprint {r : LabelRecord} (h : r.kind = .reprint) (s : State) (n : StationNo) :
    s.finishLabel n r = (s.freedSlot n (s.printer n).last).countReprint n := by
  rw [State.finishLabel, h]
  rfl

theorem finishLabel_item {r : LabelRecord} {b : ItemLabel} (h : r.kind = .item) (hb : r.body = .item b) (s : State)
    (n : StationNo) :
    s.finishLabel n r = ((s.freedSlot n (some r)).countLabel n).confirmItem r.clerk b.itemNumber := by
  rw [State.finishLabel, h, hb]
  dsimp only
  rw [State.freeSlot_setLast]

theorem finishLabel_total {r : LabelRecord} (h : r.kind = .total) (s : State) (n : StationNo) :
    s.finishLabel n r = ((s.freedSlot n (some r)).countLabel n).closePrinted r.clerk n := by
  rw [State.finishLabel, h]
  dsimp only
  rw [State.freeSlot_setLast]

theorem confirmItem_of_some {s : State} {c : ClerkNo} {o : Order} (ho : s.order c = some o) (k : Nat) :
    s.confirmItem c k = (s.setOrder c (some (o.setItem k .confirmed))).goodsConfirmed c o.queueNumber := by
  rw [State.confirmItem, State.onOrder_of_some ho, ho, Option.bind_some]

theorem closePrinted_of_some {s : State} {c : ClerkNo} {o : Order} (ho : s.order c = some o) (n : StationNo) :
    s.closePrinted c n = ((s.accumulate c n o).setOrder c none).reportClosing := by
  rw [State.closePrinted, ho]

end Sys2Proof.Machine

/-- Settles O34: a report that does not match, and one that ends a label of each kind. -/
theorem printDoneEndsLabel : Obligations.PrintDoneEndsLabel := by
  intro s n k hlow s0 counted
  have hs0 : s.goodFrame (.s n) = s0 := rfl
  obtain ⟨x0, hroster⟩ := s.goodFrame_roster (.s n)
  rw [hs0] at hroster
  have hlabels : s0.labels = s.labels := by rw [hroster]
  have hprinter : s0.printer n = s.printer n := by
    unfold State.printer
    rw [hlabels]
  have horder (c : ClerkNo) : s0.order c = s.order c := by
    rw [hroster]
    rfl
  have hserving (c : ClerkNo) : s0.serving c = s.serving c := by
    rw [hroster]
    rfl
  have hmode : s0.counter.state = s.counter.state := by rw [hroster]
  rw [exec_printDone hlow, hs0]
  refine ⟨fun hunmatched => ?_, fun x hx hk => ?_⟩
  · have hmatching : s0.matching n k = none := by
      cases hslot : (s.printer n).slot with
      | none => exact matching_of_free k ((congrArg (·.slot) hprinter).trans hslot)
      | some y =>
        rw [matching_of_slot k ((congrArg (·.slot) hprinter).trans hslot), if_neg (hunmatched y hslot)]
    rw [printDone_of_unmatched hmatching]
  · intro r free labels
    have hmatching : s0.matching n k = some r := by
      rw [matching_of_slot k ((congrArg (·.slot) hprinter).trans hx), if_pos hk]
    have hfree (last : Option LabelRecord) : s0.freedSlot n last = free last := by
      rw [State.freedSlot, hprinter]
    rw [printDone_of_matched hmatching]
    refine ⟨fun hkind => ?_, fun b o hkind hb ho => ?_, fun o hkind ho => ?_⟩
    · rw [finishLabel_reprint hkind, hprinter, hfree]
      rfl
    · intro o' t
      have hkept : ((free (some r)).countLabel n).order r.clerk = some o := (horder r.clerk).trans ho
      have hserved : t.serving r.clerk = s.serving r.clerk := hserving r.clerk
      rw [finishLabel_item hkind hb, hfree, confirmItem_of_some hkept, goodsConfirmed_eq]
      have ht : ((free (some r)).countLabel n).setOrder r.clerk (some (o.setItem b.itemNumber .confirmed)) = t := rfl
      rw [ht, hserved] <;> cases s.serving r.clerk <;> rfl
    · intro t
      have hkept : ((free (some r)).countLabel n).order r.clerk = some o := (horder r.clerk).trans ho
      have haccumulated : ((labels (free (some r))).accumulate r.clerk n o).counter.state = s0.counter.state :=
        accumulate_changesOnly (labels (free (some r))) r.clerk n o .mode (by simp)
      have hstate : t.counter.state = s.counter.state := haccumulated.trans hmode
      rw [finishLabel_total hkind, hfree, closePrinted_of_some hkept, State.reportClosing_eq]
      have ht : (((free (some r)).countLabel n).accumulate r.clerk n o).setOrder r.clerk none = t := rfl
      rw [ht, hstate]

namespace Sys2Proof.Machine

/-! ## PRINT FAIL and the deadline (R100, R101) -/

theorem failedFields_eq (n : StationNo) (r : LabelRecord) (cause : FailCause) :
    failedFields n r cause =
      { station := some n, clerk := if r.kind ≠ .reprint then some r.clerk else none
        order := if r.kind ≠ .reprint then some r.order else none
        plu := match r.kind, r.body with | .item, .item b => some b.plu | _, _ => none
        variant := .print r.number cause } := by
  simp only [failedFields, ne_eq, ite_not] <;> cases r.kind <;> cases r.body <;> rfl

theorem Order.removeItem_eq (o : Order) (k : Nat) :
    o.removeItem k
      = { o with items := o.items.filter fun i => i.number ≠ k, revision := (o.revision + 1) % 65536 } := by
  have hfilter : (fun i : Item => i.number != k) = fun i => decide (i.number ≠ k) := by
    funext i
    exact Bool.eq_iff_iff.mpr (bne_iff_ne.trans decide_eq_true_iff.symm)
  rw [Order.removeItem, hfilter]
  rfl

theorem printFail_of_unmatched {s : State} {n : StationNo} {k : Nat} (h : s.matching n k = none) :
    s.printFail n k = s := by
  rw [State.printFail, h]

theorem printFail_of_matched {s : State} {n : StationNo} {k : Nat} {r : LabelRecord} (h : s.matching n k = some r) :
    s.printFail n k = s.failLabel n r .fail := by
  rw [State.printFail, h]

theorem deadlineExpired_of_free {s : State} {n : StationNo} (h : (s.printer n).slot = none) :
    s.deadlineExpired n = s := by
  rw [State.deadlineExpired, h]

theorem deadlineExpired_of_slot {s : State} {n : StationNo} {x : PrintSlot} (h : (s.printer n).slot = some x) :
    s.deadlineExpired n = if x.deadline = none then s else s.failLabel n x.record .timeout := by
  rw [State.deadlineExpired, h]
  dsimp only
  cases x.deadline with
  | none => rfl
  | some d => rfl

/-- All that a failed label leaves, by its kind. -/
theorem failLabel_eq (s : State) (n : StationNo) (r : LabelRecord) (cause : FailCause) :
    s.failLabel n r cause =
      (let u := (s.setPrinter n { s.printer n with slot := none }).onPort (.s n) fun p => { p with labelLane := [] }
       let v := u.raise .printFailed
         { station := some n, clerk := if r.kind ≠ .reprint then some r.clerk else none
           order := if r.kind ≠ .reprint then some r.order else none
           plu := match r.kind, r.body with | .item, .item b => some b.plu | _, _ => none
           variant := .print r.number cause }
       match r.kind, r.body with
       | .item, .item b =>
         v.setOrder r.clerk
           ((s.order r.clerk).map fun o =>
             { o with
               items := o.items.filter fun i => i.number ≠ b.itemNumber, revision := (o.revision + 1) % 65536 })
       | .total, _ =>
         v.setOrder r.clerk
           ((s.order r.clerk).map fun o => { o with state := .opened, revision := (o.revision + 1) % 65536 })
       | _, _ => v) := by
  rw [State.failLabel, failedFields_eq]
  cases hkind : r.kind with
  | item =>
    cases hbody : r.body with
    | item b =>
      simp only [State.handFailure, hkind, hbody, State.removeItem, State.onOrder, ← Order.removeItem_eq] <;> rfl
    | total b => simp only [State.handFailure, hkind, hbody] <;> rfl
  | total => simp only [State.handFailure, hkind] <;> rfl
  | reprint => simp only [State.handFailure, hkind] <;> rfl

end Sys2Proof.Machine

/-- Settles O35: what a failed label leaves, and when a report or a deadline makes one fail. -/
theorem failedLabelIsUndone : Obligations.FailedLabelIsUndone := by
  intro s n hlow s0
  have hs0 : s.goodFrame (.s n) = s0 := rfl
  obtain ⟨x0, hroster⟩ := s.goodFrame_roster (.s n)
  rw [hs0] at hroster
  have hlabels : s0.labels = s.labels := by rw [hroster]
  have hprinter : s0.printer n = s.printer n := by
    unfold State.printer
    rw [hlabels]
  have horder (c : ClerkNo) : s0.order c = s.order c := by
    rw [hroster]
    rfl
  refine ⟨fun hfree => ⟨fun k => ?_, ?_⟩, fun x hx => ?_⟩
  · rw [exec_printFail hlow, hs0, printFail_of_unmatched (matching_of_free k ((congrArg (·.slot) hprinter).trans hfree))]
  · rw [exec_printDeadlineExpiry hlow, deadlineExpired_of_free hfree]
  · intro r undone
    have hslot := (congrArg (·.slot) hprinter).trans hx
    refine ⟨?_, fun k hk => ?_, fun hdeadline => ?_, fun hdeadline => ?_⟩
    · have hmatching : s0.matching n r.number = some r := by
        rw [matching_of_slot r.number hslot, if_pos rfl]
      rw [exec_printFail hlow, hs0, printFail_of_matched hmatching, failLabel_eq, hprinter, horder] <;> rfl
    · have hmatching : s0.matching n k = none := by
        rw [matching_of_slot k hslot, if_neg (Ne.symm hk)]
      rw [exec_printFail hlow, hs0, printFail_of_unmatched hmatching]
    · rw [exec_printDeadlineExpiry hlow, deadlineExpired_of_slot hx, if_neg hdeadline, failLabel_eq] <;> rfl
    · rw [exec_printDeadlineExpiry hlow, deadlineExpired_of_slot hx, if_pos hdeadline]

end

section
/-! Accumulating a closed order, and reading the totals (07). -/

open Sys2Proof Sys2Proof.Machine

namespace Sys2Proof.Machine

/-! ## One item accumulated (R127) -/

/-- A department's record with an item of a price added. -/
def DeptTotals.addPrice (t : DeptTotals) (price : Nat) : DeptTotals := ⟨addCount t.items 1, addValue t.value price⟩

/-- The department that the record of a number names. -/
def PluTable.deptOf (t : PluTable) (p : Nat) : Option DeptNo := (t.find p).map (·.fields.department)

theorem accumulateItem_frame (s : State) (i : Item) :
    ∃ u ds, s.accumulateItem i = { s with plu := u, totals := { s.totals with departments := ds } } := by
  unfold State.accumulateItem
  split
  · exact ⟨s.plu, s.totals.departments, rfl⟩
  · exact ⟨_, _, rfl⟩

theorem accumulateItem_find {s : State} (h : s.plu.Ok) (i : Item) (p : Nat) :
    (s.accumulateItem i).plu.find p
      = (s.plu.find p).map fun r => { r with totals := if i.plu = p then r.totals.addItem i else r.totals } := by
  unfold State.accumulateItem
  cases hi : s.plu.find i.plu with
  | none =>
    dsimp only
    by_cases hp : i.plu = p
    · rw [← hp, hi]
      rfl
    · simp only [if_neg hp]
      cases s.plu.find p <;> rfl
  | some r =>
    dsimp only
    rw [h.find_update]
    by_cases hp : p = i.plu
    · rw [if_pos hp, hp]
      simp only [if_true]
    · simp only [if_neg hp, if_neg (Ne.symm hp)]
      cases s.plu.find p <;> rfl

theorem accumulateItem_deptOf {s : State} (h : s.plu.Ok) (i : Item) (p : Nat) :
    (s.accumulateItem i).plu.deptOf p = s.plu.deptOf p := by
  unfold PluTable.deptOf
  rw [accumulateItem_find h]
  cases s.plu.find p <;> rfl

theorem accumulateItem_department (s : State) (i : Item) (d : DeptNo) :
    (s.accumulateItem i).totals.departments.get d
      = if s.plu.deptOf i.plu = some d then (s.totals.departments.get d).addPrice i.price
        else s.totals.departments.get d := by
  unfold State.accumulateItem PluTable.deptOf
  cases s.plu.find i.plu with
  | none => rfl
  | some r =>
    dsimp only
    rw [Table.get_put, Option.map_some]
    by_cases hd : r.fields.department = d
    · rw [hd, if_pos rfl, if_pos rfl]
      rfl
    · rw [if_neg (Ne.symm hd), if_neg (mt (Option.some_injective _ ·) hd)]

/-! ## The items of an order accumulated, one after another -/

theorem foldl_accumulateItem_frame (items : List Item) (s : State) :
    ∃ u ds, items.foldl State.accumulateItem s = { s with plu := u, totals := { s.totals with departments := ds } } := by
  induction items generalizing s with
  | nil => exact ⟨s.plu, s.totals.departments, rfl⟩
  | cons i items ih =>
    obtain ⟨u, ds, hi⟩ := accumulateItem_frame s i
    obtain ⟨u', ds', hitems⟩ := ih (s.accumulateItem i)
    refine ⟨u', ds', ?_⟩
    rw [List.foldl_cons, hitems, hi]

theorem foldl_accumulateItem_find {s : State} (h : s.plu.Ok) (items : List Item) (p : Nat) :
    (items.foldl State.accumulateItem s).plu.find p
      = (s.plu.find p).map fun r =>
          { r with totals := (items.filter fun i => i.plu == p).foldl PluTotals.addItem r.totals } := by
  induction items generalizing s with
  | nil =>
    simp only [List.foldl_nil, List.filter_nil]
    cases s.plu.find p <;> rfl
  | cons i items ih =>
    rw [List.foldl_cons, ih (accumulateItem_pluOk h i), accumulateItem_find h, Option.map_map]
    refine congrArg (Option.map · (s.plu.find p)) (funext fun r => ?_)
    rw [List.filter_cons]
    by_cases hp : i.plu = p
    · simp [hp]
    · simp [hp]

theorem foldl_accumulateItem_department {s : State} (h : s.plu.Ok) (items : List Item) (d : DeptNo) :
    (items.foldl State.accumulateItem s).totals.departments.get d
      = (items.filter fun i => s.plu.deptOf i.plu == some d).foldl (fun a i => a.addPrice i.price)
          (s.totals.departments.get d) := by
  induction items generalizing s with
  | nil => rfl
  | cons i items ih =>
    have hdept : (fun j : Item => (s.accumulateItem i).plu.deptOf j.plu == some d)
        = fun j => s.plu.deptOf j.plu == some d := by
      funext j
      rw [accumulateItem_deptOf h]
    rw [List.foldl_cons, ih (accumulateItem_pluOk h i), hdept, accumulateItem_department, List.filter_cons]
    by_cases hd : s.plu.deptOf i.plu = some d
    · simp [hd]
    · simp [hd]

theorem PluTotals.addItem_eq (a : PluTotals) (i : Item) :
    a.addItem i =
      { items := (a.items + 1) % 4294967296
        quantity := if i.kind = .byCount then (a.quantity + i.amount) % 4294967296 else a.quantity
        weight := if i.kind = .byWeight then (a.weight + i.amount) % 1000000000000 else a.weight
        value := (a.value + i.price) % 1000000000000 } := by
  unfold PluTotals.addItem
  cases i.kind <;> rfl

end Sys2Proof.Machine

/-- Settles O38: the items one after another, then the order as a whole. -/
theorem orderCloseAccumulates : Obligations.OrderCloseAccumulates := by
  intro s c n o hplu hitems good void total lost t
  obtain ⟨u, ds, hframe⟩ := foldl_accumulateItem_frame good s
  have hfind := foldl_accumulateItem_find hplu good
  have hdepartment := foldl_accumulateItem_department hplu good
  have ht : t = (good.foldl State.accumulateItem s).onTotals fun x => x.addOrder c n o := rfl
  have htotals : t.totals = { s.totals with departments := ds }.addOrder c n o := by rw [ht, hframe]; rfl
  refine ⟨?_, fun p _ => ?_, fun d => ?_, fun d => ?_, fun m => ?_, ?_⟩
  · rw [ht, hframe]
    rfl
  · have hadd : PluTotals.addItem = fun (a : PluTotals) (i : Item) =>
        { items := (a.items + 1) % 4294967296
          quantity := if i.kind = .byCount then (a.quantity + i.amount) % 4294967296 else a.quantity
          weight := if i.kind = .byWeight then (a.weight + i.amount) % 1000000000000 else a.weight
          value := (a.value + i.price) % 1000000000000 } := funext fun a => funext fun i => a.addItem_eq i
    rw [← hadd]
    exact hfind p
  · exact hdepartment d
  · rw [htotals]
    exact Table.get_put ..
  · rw [htotals]
    exact Table.get_put ..
  · rw [htotals]
    rfl

namespace Sys2Proof.Machine

/-! ## Reading the totals (R131, R136, R137) -/

theorem optionalTime_eq (x : Option DateTime) :
    optionalTime x = match x with | some d => 1 :: d.bytes | none => List.replicate 7 0 := by
  cases x <;> rfl

theorem be_bufferCode (t : TotalsStore) : be 1 (bufferCode t) = [if t.report = none then 0 else 1] := by
  rw [bufferCode, be_one]
  cases t.report with
  | none => rfl
  | some r => simp

/-- A reading that a record answers, with the running period and the clock. -/
def totalsAnswer (s : State) (record : List Byte) : Answer :=
  (s, okReply (record ++ be 2 s.totals.z ++ optionalTime s.totals.periodStart ++ s.clock.bytes))

/-- The category byte and the index, in the order of the categories. -/
theorem totalsReadRequest_eq (p : List Byte) (s : State) :
    totalsReadRequest p s =
      match natAt p 0 1 with
      | 0 => totalsAnswer s (0 :: s.totals.counter.bytes)
      | 1 =>
        match ofOrdinal 32 (natAt p 1 1) with
        | some c => totalsAnswer s (1 :: (s.totals.clerks.get c).bytes)
        | none => refuse s .badValue
      | 2 =>
        match ofOrdinal 12 (natAt p 1 1) with
        | some n => totalsAnswer s (2 :: (s.totals.stations.get n).bytes)
        | none => refuse s .badValue
      | 3 =>
        match ofOrdinal 16 (natAt p 1 1) with
        | some d => totalsAnswer s (3 :: (s.totals.departments.get d).bytes)
        | none => refuse s .badValue
      | 4 => totalsAnswer s (totalsRecord s.totals .grand)
      | _ => refuse s .badValue := by
  unfold totalsReadRequest decodeTotals
  generalize natAt p 0 1 = category
  rcases category with _ | _ | _ | _ | _ | category
  · rfl
  · cases ofOrdinal 32 (natAt p 1 1) <;> rfl
  · cases ofOrdinal 12 (natAt p 1 1) <;> rfl
  · cases ofOrdinal 16 (natAt p 1 1) <;> rfl
  · rfl
  · rfl

end Sys2Proof.Machine

/-- Settles O39: the reads and the release. -/
theorem totalsReadsAnswered : Obligations.TotalsReadsAnswered := by
  intro s tag payload rest s1 t time
  have htime : optionalTime = time := funext optionalTime_eq
  refine ⟨fun hwaits => ?_, fun hwaits => ?_, fun hwaits => ?_⟩
  · intro k done
    refine answer_eq_replied (act := totalsReadRequest) hwaits ?_
    change totalsReadRequest payload s1 = _
    rw [totalsReadRequest_eq]
    have hdone : totalsAnswer s1 = done := by
      funext record
      rw [totalsAnswer, htime]
      rfl
    have hgrand : totalsRecord s1.totals .grand
        = 4 :: (be 6 t.gt ++ be 6 t.gtLast ++ be 2 t.z ++ time t.periodStart ++ be 1 t.openOrders
          ++ [if t.report = none then 0 else 1]) := by
      rw [← be_bufferCode, ← htime]
      rfl
    rw [hdone, hgrand]
    generalize natAt payload 0 1 = category
    rcases category with _ | _ | _ | _ | _ | category
    · rfl
    · cases ofOrdinal 32 k <;> rfl
    · cases ofOrdinal 12 k <;> rfl
    · cases ofOrdinal 16 k <;> rfl
    · rfl
    · rfl
  · intro i
    exact answer_eq_replied (act := reportReadRequest) hwaits rfl
  · refine answer_eq_replied (act := reportReleaseRequest) hwaits ?_
    have hz : optional 2 (t.report.map fun r => be 2 r.z) = match t.report with | some r => 1 :: be 2 r.z | none => [0, 0, 0] := by
      cases t.report <;> rfl
    exact congrArg (fun x => (({ s1 with totals := { t with report := none } } : State), okReply x)) hz

end

section
/-! Settings and status, enrolment, the beat and the clock (08). -/

open Sys2Proof Sys2Proof.Machine

namespace Sys2Proof.Machine

/-! ## Settings, profiles and status (R144, R145, R157) -/

theorem settingsWriteRequest_eq (p : List Byte) (s : State) :
    settingsWriteRequest p s =
      if s.counter.state = .opened ∨ s.counter.state = .draining then refuse s .refusedState
      else
        match decodeSettings p with
        | none => refuse s .badValue
        | some r => (s.writeSettings r, okReply []) := by
  simp only [settingsWriteRequest, trading_iff] <;> rfl

theorem profileWriteRequest_eq (p : List Byte) (s : State) :
    profileWriteRequest p s =
      if s.counter.state = .opened ∨ s.counter.state = .draining then refuse s .refusedState
      else
        match decodeProfile p with
        | none => refuse s .badValue
        | some (n, r) => (s.writeProfile n r, okReply []) := by
  simp only [profileWriteRequest, trading_iff] <;> rfl

theorem Profile.bytes_eq (r : Profile) :
    r.bytes = [if r.mode = .labelEach then 0 else 1, if r.autoClear then 1 else 0] := by
  rw [Profile.bytes, flagByte_eq_ite]
  cases r.mode <;> rfl

theorem optional_stationRecord (x : Option StationRecord) :
    optional 3 (x.map StationRecord.bytes)
      = match x with
        | some r => [1, if r.printer then 1 else 0, BitVec.ofNat 8 r.width, BitVec.ofNat 8 r.digits]
        | none => [0, 0, 0, 0] := by
  cases x with
  | none => rfl
  | some r =>
    rw [Option.map_some, optional_some, StationRecord.bytes, flagByte_eq_ite]
    simp only [be_one]
    rfl

end Sys2Proof.Machine

/-- Settles O42: the two writes and the two reads. -/
theorem settingsAndStatusAnswered : Obligations.SettingsAndStatusAnswered := by
  intro s tag payload rest s1
  refine ⟨fun hwaits => ?_, fun hwaits => ?_, fun hwaits => ?_, fun p hwaits => ?_⟩
  · refine answer_eq_replied (act := settingsWriteRequest) hwaits ?_
    change settingsWriteRequest payload s1 = _
    rw [settingsWriteRequest_eq]
    refine if_congr Iff.rfl rfl ?_
    cases decodeSettings payload <;> rfl
  · exact answer_eq_replied (act := settingsReadRequest) hwaits rfl
  · refine answer_eq_replied (act := profileWriteRequest) hwaits ?_
    change profileWriteRequest payload s1 = _
    rw [profileWriteRequest_eq]
    refine if_congr Iff.rfl rfl ?_
    cases decodeProfile payload <;> rfl
  · refine answer_eq_replied (act := statusReadRequest) hwaits ?_
    have hstation : stationStatus (s.freed p rest) = fun n =>
        be 1 (s.link n).code
          ++ (match (s.station n).record with
              | some r => [1, if r.printer then 1 else 0, BitVec.ofNat 8 r.width, BitVec.ofNat 8 r.digits]
              | none => [0, 0, 0, 0])
          ++ [if (s.profile n).mode = .labelEach then 0 else 1, if (s.profile n).autoClear then 1 else 0] := by
      funext n
      rw [← optional_stationRecord, ← Profile.bytes_eq]
      rfl
    rw [statusReadRequest, hstation, be_bufferCode]
    rfl

namespace Sys2Proof.Machine

/-! ## Enrolment (R152, R153) -/

theorem decodeEnrol_eq (p : List Byte) :
    decodeEnrol p =
      if 1 < natAt p 0 1 ∨ (natAt p 1 1 ≠ 40 ∧ natAt p 1 1 ≠ 60) ∨ natAt p 2 1 < 6 ∨ 8 < natAt p 2 1 then none
      else some ⟨natAt p 0 1 == 1, natAt p 1 1, natAt p 2 1⟩ := by
  have hrange : ((natAt p 1 1 == 40 || natAt p 1 1 == 60) && 6 ≤ natAt p 2 1 && natAt p 2 1 ≤ 8) = true ↔
      ¬((natAt p 1 1 ≠ 40 ∧ natAt p 1 1 ≠ 60) ∨ natAt p 2 1 < 6 ∨ 8 < natAt p 2 1) := by
    simp only [Bool.and_eq_true, Bool.or_eq_true, beq_iff_eq, decide_eq_true_eq]
    omega
  by_cases hflag : 1 < natAt p 0 1
  · have hnone : flagAt p 0 = none := by
      unfold flagAt
      split
      · omega
      · omega
      · rfl
    rw [decodeEnrol, hnone, if_pos (.inl hflag)]
  · have hsome : flagAt p 0 = some (natAt p 0 1 == 1) := by
      refine flagAt_of_natAt ?_
      rcases (by omega : natAt p 0 1 = 0 ∨ natAt p 0 1 = 1) with h | h
      · rw [h]
        rfl
      · rw [h]
        rfl
    rw [decodeEnrol, hsome]
    simp only [hrange, hflag, false_or, ite_not]

theorem State.sessionOn_iff (s : State) (n : StationNo) :
    s.enrolledLink n =
      match s.lock.session with
      | .opened m _ _ => if m = n then .service else .enrolled
      | _ => .enrolled := by
  unfold State.enrolledLink State.sessionOn
  cases s.lock.session <;> simp

theorem enrolRequest_eq (n : StationNo) (p : List Byte) (s : State) :
    enrolRequest n p s =
      if 1 < natAt p 0 1 ∨ (natAt p 1 1 ≠ 40 ∧ natAt p 1 1 ≠ 60) ∨ natAt p 2 1 < 6 ∨ 8 < natAt p 2 1 then
        refuse s .badValue
      else
        (s.enrolStation n ⟨natAt p 0 1 == 1, natAt p 1 1, natAt p 2 1⟩,
          okReply (be 1 (s.enrolledLink n).code ++ be 1 s.counter.state.code ++ s.clock.bytes ++ be 4 s.generation
            ++ flagByte s.markdownActive ++ (s.profile n).bytes)) := by
  rw [enrolRequest, decodeEnrol_eq]
  split_ifs <;> rfl

/-- The loss of a station leaves the session and the calibrations. -/
theorem detach_lock (s : State) (n : StationNo) : (s.detach n).lock = s.lock := by
  have hrecords := detach_changesOnly s n .records (by simp)
  have hprofiles := detach_changesOnly s n .profiles (by simp)
  have hsession := detach_changesOnly s n .session (by simp)
  change (s.detach n).lock.records = s.lock.records at hrecords
  change (s.detach n).lock.profiles = s.lock.profiles at hprofiles
  change { (s.detach n).lock with records := s.lock.records, profiles := s.lock.profiles } = s.lock at hsession
  rw [← hrecords, ← hprofiles] at hsession
  exact hsession

end Sys2Proof.Machine

/-- Settles O44: the fields' tests, and the enrolment after the loss. -/
theorem enrolAnswered : Obligations.EnrolAnswered := by
  intro s n tag payload rest hwaits s1 s2 width digits link
  refine answer_eq_replied (act := enrolRequest n) hwaits ?_
  change enrolRequest n payload s1 = _
  rw [enrolRequest_eq]
  refine if_congr Iff.rfl rfl ?_
  have hs2 : (if s1.link n = .absent then s1 else s1.detach n) = s2 := rfl
  have hlock : s2.lock = s.lock := by
    rw [← hs2]
    split
    · rfl
    · exact detach_lock s1 n
  have hlink : s2.enrolledLink n = link := by
    rw [State.sessionOn_iff, hlock] <;> simp only [link] <;> cases s.lock.session <;> rfl
  have hcalibration : s2.calibration n = s.calibration n := by
    unfold State.calibration
    rw [hlock]
  have hlink1 : s1.enrolledLink n = link := by
    have hsame : s1.lock = s.lock := rfl
    rw [State.sessionOn_iff, hsame] <;> simp only [link] <;> cases s.lock.session <;> rfl
  rw [State.enrolStation, hs2, State.enrolAbsent, hlink, hlink1, flagByte_eq_ite, Profile.bytes_eq, State.clearContext,
    State.setStation_calibration, hcalibration]
  refine Prod.ext ?_ ?_
  · rfl
  · simp only [List.append_assoc]
    rfl

namespace Sys2Proof.Machine

/-! ## The beat (R151) -/

/-- A beat touches its station's port alone. -/
theorem State.beatTo_port (s : State) (n : StationNo) (p : Port) :
    (s.beatTo n).port p
      = if p = .s n ∧ s.link n ≠ .absent then (s.port p).pushState ⟨beatKind, 0, beatPayload s n⟩ else s.port p := by
  unfold State.beatTo State.pushToStation
  by_cases hlink : s.link n = .absent
  · rw [if_pos hlink, if_neg fun h => h.2 hlink]
  · rw [if_neg hlink, State.onPort_port]
    by_cases hp : p = .s n
    · rw [if_pos hp, if_pos ⟨hp, hlink⟩, hp]
    · rw [if_neg hp, if_neg fun h => hp h.1]

theorem State.beatTo_ports (s : State) (n : StationNo) : ∃ x, s.beatTo n = { s with ports := x } := by
  unfold State.beatTo
  split
  · exact ⟨s.ports, rfl⟩
  · exact ⟨_, rfl⟩

theorem foldl_beatTo_ports (ns : List StationNo) (s : State) :
    ∃ x, ns.foldl State.beatTo s = { s with ports := x } := by
  induction ns generalizing s with
  | nil => exact ⟨s.ports, rfl⟩
  | cons n ns ih =>
    obtain ⟨x, hx⟩ := s.beatTo_ports n
    obtain ⟨y, hy⟩ := ih (s.beatTo n)
    refine ⟨y, ?_⟩
    rw [List.foldl_cons, hy, hx]

/-- The beats of several stations, each in its own port. -/
theorem foldl_beatTo_port {ns : List StationNo} (hns : ns.Nodup) (s : State) (m : StationNo) :
    (ns.foldl State.beatTo s).port (.s m)
      = if m ∈ ns ∧ s.link m ≠ .absent then (s.port (.s m)).pushState ⟨beatKind, 0, beatPayload s m⟩
        else s.port (.s m) := by
  induction ns generalizing s with
  | nil => simp
  | cons n ns ih =>
    obtain ⟨hn, hns⟩ := List.nodup_cons.mp hns
    obtain ⟨x, hx⟩ := s.beatTo_ports n
    have hlink : (s.beatTo n).link m = s.link m := by
      rw [hx]
      rfl
    have hpayload : beatPayload (s.beatTo n) m = beatPayload s m := by
      rw [hx]
      rfl
    rw [List.foldl_cons, ih hns, hlink, hpayload, State.beatTo_port]
    by_cases hm : m = n
    · subst hm
      simp [hn]
    · simp [hm]

theorem foldl_beatTo_otherPort {p : Port} (hp : ∀ n, p ≠ .s n) (ns : List StationNo) (s : State) :
    (ns.foldl State.beatTo s).port p = s.port p := by
  induction ns generalizing s with
  | nil => rfl
  | cons n ns ih => rw [List.foldl_cons, ih, State.beatTo_port, if_neg fun h => hp n h.1]

theorem State.beatAll_eq {s t : State} (h : (List.finRange 12).foldl State.beatTo s = t) :
    s.beatAll = { t with counter := { t.counter with beat := some 1000 } } := by
  rw [State.beatAll, h]
  rfl

theorem State.beatAll_port (s : State) (p : Port) :
    s.beatAll.port p = ((List.finRange 12).foldl State.beatTo s).port p := by
  rw [State.beatAll_eq rfl]
  generalize (List.finRange 12).foldl State.beatTo s = t
  rfl

theorem exec_beatExpiry {s : State} (h : s.resetLow = false) :
    exec .beatExpiry s = .next (if s.counter.beat.isSome then s.beatAll else s).startAll :=
  unlessReset_high (fun s => if s.counter.beat.isSome then s.beatAll else s) h

end Sys2Proof.Machine

/-- Settles O45: the beats station by station. -/
theorem beatReachesStations : Obligations.BeatReachesStations := by
  intro s hlow
  refine ⟨fun hstopped => ?_, fun hrunning => ?_⟩
  · rw [exec_beatExpiry hlow, hstopped]
    rfl
  · obtain ⟨x, hx⟩ := foldl_beatTo_ports (List.finRange 12) s
    have hall : s.beatAll = { s with ports := x, counter := { s.counter with beat := some 1000 } } :=
      s.beatAll_eq hx
    refine ⟨s.beatAll, ?_, ?_, ?_, fun p => ?_⟩
    · rw [exec_beatExpiry hlow, if_pos (Option.isSome_iff_ne_none.mpr hrunning)]
    · rw [hall]
    · rw [hall]
    · rw [State.beatAll_port]
      cases p with
      | s n =>
        rw [foldl_beatTo_port (List.nodup_finRange 12)]
        dsimp only
        by_cases hlink : s.link n = .absent
        · rw [if_neg fun h => h.2 hlink, if_pos hlink]
        · rw [if_pos ⟨List.mem_finRange n, hlink⟩, if_neg hlink, LinkPort.pushState, beatPayload, flagByte_eq_ite,
            optional_ordinal]
          cases s.boundClerk n <;> rfl
      | q => exact foldl_beatTo_otherPort (fun n => by simp) _ s
      | b => exact foldl_beatTo_otherPort (fun n => by simp) _ s
      | v => exact foldl_beatTo_otherPort (fun n => by simp) _ s

end

section
/-! The clock (08 section 8.4). -/

open Sys2Proof Sys2Proof.Machine

namespace Sys2Proof.Machine

/-! ## Dates and times as numbers (R148) -/

/-- The days of a date's year before it. -/
def Date.dayOfYear (d : Date) : Nat := ((monthLengths d.year).take (d.month - 1)).sum + (d.day - 1)

theorem Date.dayNumber_eq (d : Date) :
    d.dayNumber = (d.year - 2000) * 365 + (d.year - 2000 + 3) / 4 + d.dayOfYear := by
  rw [Date.dayNumber, Date.dayOfYear]
  omega

theorem sum_monthLengths (y : Nat) : (monthLengths y).sum = if y % 4 = 0 then 366 else 365 := by
  unfold monthLengths isLeap
  by_cases hleap : y % 4 = 0
  · simp [hleap]
  · simp [hleap]

/-- The months before a month take no more days than the months before a later one. -/
theorem sum_take_mono {i j : Nat} (y : Nat) (h : i ≤ j) :
    ((monthLengths y).take i).sum ≤ ((monthLengths y).take j).sum :=
  (List.take_sublist_take_left h).sum_le_sum fun _ _ => Nat.zero_le _

theorem Date.valid_bounds {d : Date} (h : d.valid = true) :
    2000 ≤ d.year ∧ 1 ≤ d.month ∧ d.month ≤ 12 ∧ 1 ≤ d.day ∧ d.day ≤ daysInMonth d.year d.month := by
  simp only [Date.valid, Bool.and_eq_true, decide_eq_true_eq] at h
  obtain ⟨⟨⟨⟨⟨hy, -⟩, hm1⟩, hm2⟩, hd1⟩, hd2⟩ := h
  exact ⟨hy, hm1, hm2, hd1, hd2⟩

/-- A date comes before the end of its month. -/
theorem Date.dayOfYear_lt {d : Date} (h : d.valid = true) :
    d.dayOfYear < ((monthLengths d.year).take d.month).sum := by
  obtain ⟨-, hm1, hm2, hd1, hd2⟩ := Date.valid_bounds h
  rw [Date.dayOfYear, sum_take_month d.year hm1 hm2]
  omega

theorem Date.dayOfYear_lt_year {d : Date} (h : d.valid = true) :
    d.dayOfYear < if d.year % 4 = 0 then 366 else 365 := by
  rw [← sum_monthLengths]
  exact (Date.dayOfYear_lt h).trans_le ((List.take_sublist _ _).sum_le_sum fun _ _ => Nat.zero_le _)

/-- An earlier month of the same year. -/
theorem Date.dayOfYear_lt_of_month {d e : Date} (hd : d.valid = true) (hyear : d.year = e.year)
    (hmonth : d.month < e.month) : d.dayOfYear < e.dayOfYear := by
  have hmono := sum_take_mono d.year (Nat.le_sub_one_of_lt hmonth)
  have hlt := Date.dayOfYear_lt hd
  have he : e.dayOfYear = ((monthLengths d.year).take (e.month - 1)).sum + (e.day - 1) := by rw [hyear, Date.dayOfYear]
  omega

/-- An earlier year. -/
theorem Date.dayNumber_lt_of_year {d e : Date} (hd : d.valid = true) (hyear : d.year < e.year) :
    d.dayNumber < e.dayNumber := by
  obtain ⟨hy, -⟩ := Date.valid_bounds hd
  have hlt := Date.dayOfYear_lt_year hd
  rw [d.dayNumber_eq, e.dayNumber_eq]
  split_ifs at hlt
  · omega
  · omega

theorem Date.dayNumber_inj {d e : Date} (hd : d.valid = true) (he : e.valid = true)
    (h : d.dayNumber = e.dayNumber) : d = e := by
  have hyear : d.year = e.year := by
    rcases lt_trichotomy d.year e.year with hlt | heq | hlt
    · exact absurd h (Date.dayNumber_lt_of_year hd hlt).ne
    · exact heq
    · exact absurd h (Date.dayNumber_lt_of_year he hlt).ne'
  have hday : d.dayOfYear = e.dayOfYear := by
    rw [d.dayNumber_eq, e.dayNumber_eq, hyear] at h
    omega
  have hmonth : d.month = e.month := by
    rcases lt_trichotomy d.month e.month with hlt | heq | hlt
    · exact absurd hday (Date.dayOfYear_lt_of_month hd hyear hlt).ne
    · exact heq
    · exact absurd hday (Date.dayOfYear_lt_of_month he hyear.symm hlt).ne'
  have hd1 := (Date.valid_bounds hd).2.2.2.1
  have he1 := (Date.valid_bounds he).2.2.2.1
  rw [Date.dayOfYear, Date.dayOfYear, hyear, hmonth] at hday
  obtain ⟨y, m, k⟩ := d
  obtain ⟨y', m', k'⟩ := e
  simp only [Date.mk.injEq] at *
  omega

theorem DateTime.valid_bounds_time {t : DateTime} (h : t.valid = true) :
    t.date.valid = true ∧ t.hour ≤ 23 ∧ t.minute ≤ 59 ∧ t.second ≤ 59 := by
  simp only [DateTime.valid, Bool.and_eq_true, decide_eq_true_eq] at h
  obtain ⟨⟨⟨hdate, hhour⟩, hminute⟩, hsecond⟩ := h
  exact ⟨hdate, hhour, hminute, hsecond⟩

theorem DateTime.seconds_inj {t u : DateTime} (ht : t.valid = true) (hu : u.valid = true)
    (h : t.seconds = u.seconds) : t = u := by
  obtain ⟨htd, hth, htm, hts⟩ := DateTime.valid_bounds_time ht
  obtain ⟨hud, huh, hum, hus⟩ := DateTime.valid_bounds_time hu
  simp only [DateTime.seconds, DateTime.secondOfDay] at h
  have hdate : t.date = u.date := Date.dayNumber_inj htd hud (by omega)
  obtain ⟨d, a, b, c⟩ := t
  obtain ⟨e, a', b', c'⟩ := u
  simp only [DateTime.mk.injEq] at *
  subst hdate
  exact ⟨rfl, by omega, by omega, by omega⟩

/-- The clock's second is one second, short of the calendar's end. -/
theorem DateTime.seconds_tick {t : DateTime} (h : t.valid = true) (hend : t ≠ clockEnd) :
    t.tick.seconds = t.seconds + 1 := by
  obtain ⟨hdate, hhour, hminute, hsecond⟩ := DateTime.valid_bounds_time h
  rw [DateTime.tick, if_neg hend]
  split
  · simp only [DateTime.seconds, DateTime.secondOfDay]
    omega
  · split
    · simp only [DateTime.seconds, DateTime.secondOfDay]
      omega
    · split
      · simp only [DateTime.seconds, DateTime.secondOfDay]
        omega
      · simp only [DateTime.seconds, DateTime.secondOfDay, Date.dayNumber_next hdate]
        omega

/-! ## What follows a move of the clock (R58, R150, R164) -/

theorem State.dayCheck_eq_ite (s : State) :
    s.dayCheck =
      if s.counter.clock.date = s.counter.lastDate then s
      else
        { s with
          counter := { s.counter with lastDate := s.counter.clock.date }
          lock :=
            { s.lock with
              failures := 0
              session := match s.lock.session with | .lockedOut => .idle | x => x } } := by
  have hsession : s.lock.session.afterDay = match s.lock.session with | .lockedOut => .idle | x => x := by
    cases s.lock.session <;> rfl
  rw [State.dayCheck, State.changeDay, hsession]

theorem State.activateIfDue_eq (s : State) :
    s.activateIfDue =
      if s.pricing.batch = .armed ∧ ∃ t, s.pricing.instant = some t ∧ t.seconds ≤ s.counter.clock.seconds then s.activate
      else s := by
  rw [State.activateIfDue]
  exact if_congr (activationDue_iff s) rfl rfl

theorem exec_clockTick_high {s : State} (h : s.resetLow = false) :
    exec .clockTick s = .next (s.setClock s.clock.tick).dayCheck.activateIfDue.startAll := by
  change (if s.resetLow then _ else _) = _
  rw [h]
  rfl

theorem exec_clockTick_low {s : State} (h : s.resetLow = true) :
    exec .clockTick s = .next (s.setClock s.clock.tick) := by
  change (if s.resetLow then _ else _) = _
  rw [h]
  rfl

theorem timeSetRequest_eq (p : List Byte) (s : State) :
    timeSetRequest p s =
      match decodeTime p with
      | none => refuse s .badValue
      | some t =>
        if 120 < (timeStep s t).natAbs ∧ (s.counter.state = .opened ∨ s.counter.state = .draining) then
          refuse s .refusedState
        else (s.stepTime t, okReply (t.bytes ++ beInt 6 (timeStep s t))) := by
  simp only [timeSetRequest, trading_iff] <;> rfl

end Sys2Proof.Machine

/-- Settles O46: the tick, the numbering of the instants, and what follows each move of the clock. -/
theorem clockMoves : Obligations.ClockMoves := by
  refine ⟨fun t ht => ⟨fun hend => if_pos hend, fun hend => ⟨tick_valid ht, DateTime.seconds_tick ht hend⟩⟩,
    fun t u ht hu => DateTime.seconds_inj ht hu, ?_⟩
  intro follow
  have hfollow (s : State) : s.dayCheck.activateIfDue = follow s := by
    rw [State.activateIfDue_eq, State.dayCheck_eq_ite] <;> rfl
  refine ⟨fun s hhigh => ?_, fun s hlow => ?_, fun s tag payload rest hwaits => ?_⟩
  · rw [exec_clockTick_high hhigh, hfollow]
    rfl
  · rw [exec_clockTick_low hlow]
    rfl
  · intro s1
    refine answer_eq_replied (act := timeSetRequest) hwaits ?_
    change timeSetRequest payload s1 = _
    rw [timeSetRequest_eq]
    cases decodeTime payload with
    | none => rfl
    | some t =>
      refine if_congr Iff.rfl rfl ?_
      rw [State.stepTime, hfollow]
      rfl

end

section
/-! A station's loss (08 section 8.6): what it does to its label, its order, its clerk and the rest. -/

open Sys2Proof Sys2Proof.Machine

namespace Sys2Proof.Machine

/-! ## The label in flight at a station (R72, R100) -/

theorem Order.labelInFlight_iff (o : Order) :
    o.labelInFlight = true ↔ (∃ i ∈ o.items, i.state = .pending) ∨ o.state = .closing := by
  simp [Order.labelInFlight, Order.hasPending]

theorem Order.labelInFlight_eq_false_iff (o : Order) :
    o.labelInFlight = false ↔ (∀ i ∈ o.items, i.state ≠ .pending) ∧ o.state = .opened := by
  rw [← Bool.not_eq_true, Order.labelInFlight_iff, not_or]
  cases o.state <;> simp

/-- Clerks whose orders a station holds are one. -/
theorem State.OrdersOk.holder_unique {s : State} (h : s.OrdersOk) {n : StationNo} {c d : ClerkNo} {o u : Order}
    (ho : s.order c = some o) (hu : s.order d = some u) (hn : o.holder = some n) (hm : u.holder = some n) : c = d := by
  obtain ⟨hbound, hunique, -⟩ := h
  exact hunique c d n ((hbound c o ho).2 n hn) ((hbound d u hu).2 n hm)

theorem State.OrdersOk.holding_eq {s : State} (h : s.OrdersOk) {n : StationNo} {c : ClerkNo} {o : Order}
    (ho : s.order c = some o) (hn : o.holder = some n) : s.holding n = some c := by
  cases hh : s.holding n with
  | none => exact absurd hn (s.holding_eq_none.mp hh c o ho)
  | some d =>
    obtain ⟨u, hu, hm⟩ := s.holding_held hh
    rw [h.holder_unique hu ho hm hn]

/-- Items of an order with the same number are the same item. -/
theorem Order.Ok.item_unique {o : Order} (h : o.Ok) {i j : Item} (hi : i ∈ o.items) (hj : j ∈ o.items)
    (hnumber : i.number = j.number) : i = j := by
  obtain ⟨-, -, -, -, -, -, hpairwise, -⟩ := h
  exact List.inj_on_of_nodup_map (hpairwise.imp fun hlt => ne_of_lt hlt) hi hj hnumber

/-- The order of an ITEM label in a station's slot: its one PENDING item is the label's, and it is OPEN. -/
theorem State.LabelsOk.of_itemSlot {s : State} (hl : s.LabelsOk) (h : s.OrdersOk) {n : StationNo} {x : PrintSlot}
    {b : ItemLabel} (hx : (s.printer n).slot = some x) (hkind : x.record.kind = .item) (hbody : x.record.body = .item b) :
    ∃ o, s.order x.record.clerk = some o ∧ o.holder = some n ∧ o.state = .opened
      ∧ (∃ i ∈ o.items, i.state = .pending) ∧ ∀ i ∈ o.items, i.number = b.itemNumber ↔ i.state = .pending := by
  obtain ⟨hslots, horders⟩ := hl
  obtain ⟨-, hslot⟩ := hslots n x hx
  rw [State.SlotOk, hkind, hbody] at hslot
  obtain ⟨o, ho, hholder, i, hi, hnumber, hpending, -⟩ := hslot
  obtain ⟨hitems, hclosing⟩ := horders _ o ho
  obtain ⟨hok, -⟩ := h
  refine ⟨o, ho, hholder, ?_, ⟨i, hi, hpending⟩, fun j hj => ⟨fun hj' => ?_, fun hj' => ?_⟩⟩
  · cases hstate : o.state with
    | opened => rfl
    | closing =>
      obtain ⟨m, hm, y, hy, htotal, -⟩ := hclosing hstate
      rw [Option.mem_def, hholder] at hm
      cases hm
      rw [Option.mem_def, hx] at hy
      cases hy
      rw [hkind] at htotal
      cases htotal
  · rw [(hok _ o ho).1.item_unique hj hi (hj'.trans hnumber.symm)]
    exact hpending
  · obtain ⟨hstation, y, hy, -, -, hof⟩ := hitems j hj hj'
    rw [hholder] at hstation
    rw [← Option.some_injective _ hstation, Option.mem_def, hx] at hy
    cases hy
    rw [LabelRecord.ofItem, hbody] at hof
    exact hof.symm

/-- The order of a TOTAL label in a station's slot: it is CLOSING, and has no PENDING item. -/
theorem State.LabelsOk.of_totalSlot {s : State} (hl : s.LabelsOk) {n : StationNo} {x : PrintSlot}
    (hx : (s.printer n).slot = some x) (hkind : x.record.kind = .total) :
    ∃ o, s.order x.record.clerk = some o ∧ o.holder = some n ∧ o.state = .closing
      ∧ ∀ i ∈ o.items, i.state ≠ .pending := by
  obtain ⟨hslots, horders⟩ := hl
  obtain ⟨-, hslot⟩ := hslots n x hx
  rw [State.SlotOk, hkind] at hslot
  cases hbody : x.record.body with
  | item b =>
    rw [hbody] at hslot
    exact hslot.elim
  | total b =>
    rw [hbody] at hslot
    obtain ⟨o, ho, hholder, hclosing⟩ := hslot
    refine ⟨o, ho, hholder, hclosing, fun i hi hpending => ?_⟩
    obtain ⟨hstation, y, hy, hitem, -⟩ := (horders _ o ho).1 i hi hpending
    rw [hholder] at hstation
    rw [← Option.some_injective _ hstation, Option.mem_def, hx] at hy
    cases hy
    rw [hkind] at hitem
    cases hitem

/-- A station whose slot is FREE, or holds a REPRINT, holds no order with a label in flight. -/
theorem State.LabelsOk.of_otherSlot {s : State} (hl : s.LabelsOk) {n : StationNo}
    (hslot : ∀ x, (s.printer n).slot = some x → x.record.kind = .reprint) {c : ClerkNo} {o : Order}
    (ho : s.order c = some o) (hholder : o.holder = some n) : o.labelInFlight = false := by
  obtain ⟨-, horders⟩ := hl
  obtain ⟨hitems, hclosing⟩ := horders c o ho
  rw [← Bool.not_eq_true, Order.labelInFlight_iff]
  rintro (⟨i, hi, hpending⟩ | hstate)
  · obtain ⟨hstation, y, hy, hitem, -⟩ := hitems i hi hpending
    rw [hholder] at hstation
    rw [← Option.some_injective _ hstation] at hy
    rw [hslot y hy] at hitem
    cases hitem
  · obtain ⟨m, hm, y, hy, htotal, -⟩ := hclosing hstate
    rw [Option.mem_def, hholder] at hm
    cases hm
    rw [hslot y hy] at htotal
    cases htotal

/-- What the labels' law leaves in a station's slot. -/
theorem State.LabelsOk.slot_cases {s : State} (hl : s.LabelsOk) {n : StationNo} {x : PrintSlot}
    (hx : (s.printer n).slot = some x) :
    (∃ b, x.record.kind = .item ∧ x.record.body = .item b) ∨ x.record.kind = .total ∨ x.record.kind = .reprint := by
  obtain ⟨hslots, -⟩ := hl
  obtain ⟨-, hslot⟩ := hslots n x hx
  rw [State.SlotOk] at hslot
  cases hkind : x.record.kind with
  | item =>
    cases hbody : x.record.body with
    | item b => exact .inl ⟨b, rfl, rfl⟩
    | total b =>
      rw [hkind, hbody] at hslot
      exact hslot.elim
  | total => exact .inr (.inl rfl)
  | reprint => exact .inr (.inr rfl)

end Sys2Proof.Machine

end

section
/-! What a station's loss leaves, block by block (08 section 8.6). -/

open Sys2Proof Sys2Proof.Machine

namespace Sys2Proof.Machine

/-! ## The order a lost station holds (R84, R100, R102) -/

/-- An order as the loss of its label leaves it: OPEN, without its PENDING item. -/
def Order.settled (o : Order) : Order :=
  { o with
    state := .opened, items := o.items.filter fun i => i.state != .pending
    revision := (o.revision + if o.labelInFlight then 1 else 0) % 65536 }

theorem Order.settled_of_free {o : Order} (hok : o.Ok) (h : o.labelInFlight = false) : o.settled = o := by
  obtain ⟨-, -, hrevision, -⟩ := hok
  obtain ⟨hitems, hstate⟩ := o.labelInFlight_eq_false_iff.mp h
  have hfilter : (o.items.filter fun i => i.state != .pending) = o.items :=
    List.filter_eq_self.mpr fun i hi => bne_iff_ne.mpr (hitems i hi)
  have hsame : (o.revision + 0) % 65536 = o.revision := Nat.mod_eq_of_lt hrevision
  unfold Order.settled
  rw [hfilter, h, if_neg Bool.false_ne_true, hsame, ← hstate]

theorem Order.settled_of_item {o : Order} {k : Nat} (hstate : o.state = .opened)
    (hpending : ∃ i ∈ o.items, i.state = .pending) (hitems : ∀ i ∈ o.items, i.number = k ↔ i.state = .pending) :
    { o with items := o.items.filter fun i => i.number ≠ k, revision := (o.revision + 1) % 65536 } = o.settled := by
  have hfilter : (o.items.filter fun i => i.number ≠ k) = o.items.filter fun i => i.state != .pending := by
    refine List.filter_congr fun i hi => ?_
    rw [Bool.eq_iff_iff, decide_eq_true_iff, bne_iff_ne]
    exact not_congr (hitems i hi)
  have hflight : o.labelInFlight = true := o.labelInFlight_iff.mpr (.inl hpending)
  unfold Order.settled
  rw [hfilter, hflight, if_pos rfl, ← hstate]

theorem Order.settled_of_closing {o : Order} (hstate : o.state = .closing) (hitems : ∀ i ∈ o.items, i.state ≠ .pending) :
    { o with state := .opened, revision := (o.revision + 1) % 65536 } = o.settled := by
  have hfilter : (o.items.filter fun i => i.state != .pending) = o.items :=
    List.filter_eq_self.mpr fun i hi => bne_iff_ne.mpr (hitems i hi)
  have hflight : o.labelInFlight = true := o.labelInFlight_iff.mpr (.inr hstate)
  unfold Order.settled
  rw [hfilter, hflight, if_pos rfl]

theorem failLabel_order_of_item {r : LabelRecord} {b : ItemLabel} (h : r.kind = .item) (hb : r.body = .item b)
    (s : State) (n : StationNo) (cause : FailCause) (c : ClerkNo) :
    (s.failLabel n r cause).order c
      = if c = r.clerk then
          (s.order r.clerk).map fun o =>
            { o with
              items := o.items.filter fun i => i.number ≠ b.itemNumber, revision := (o.revision + 1) % 65536 }
        else s.order c := by
  rw [failLabel_eq, h, hb]
  exact State.setOrder_order ..

theorem failLabel_order_of_total {r : LabelRecord} (h : r.kind = .total) (s : State) (n : StationNo)
    (cause : FailCause) (c : ClerkNo) :
    (s.failLabel n r cause).order c
      = if c = r.clerk then
          (s.order r.clerk).map fun o => { o with state := .opened, revision := (o.revision + 1) % 65536 }
        else s.order c := by
  rw [failLabel_eq, h]
  exact State.setOrder_order ..

theorem failLabel_order_of_reprint {r : LabelRecord} (h : r.kind = .reprint) (s : State) (n : StationNo)
    (cause : FailCause) (c : ClerkNo) : (s.failLabel n r cause).order c = s.order c := by
  rw [failLabel_eq, h]
  rfl

theorem loseLabels_of_slot {s : State} {n : StationNo} {x : PrintSlot} (h : (s.printer n).slot = some x) :
    s.loseLabels n
      = (s.failLabel n x.record .lost).setPrinter n { (s.failLabel n x.record .lost).printer n with last := none } := by
  rw [State.loseLabels, h]

theorem loseLabels_of_free {s : State} {n : StationNo} (h : (s.printer n).slot = none) :
    s.loseLabels n = (s.freeSlot n).setPrinter n { (s.freeSlot n).printer n with last := none } := by
  rw [State.loseLabels, h]

/-- The loss of a station's label settles the order that the station holds, and no other. -/
theorem loseLabels_order {s : State} (h : s.OrdersOk) (hl : s.LabelsOk) (n : StationNo) (c : ClerkNo) :
    (s.loseLabels n).order c = if some c = s.holding n then (s.order c).map Order.settled else s.order c := by
  have hkept (hslot : ∀ x, (s.printer n).slot = some x → x.record.kind = .reprint) :
      s.order c = if some c = s.holding n then (s.order c).map Order.settled else s.order c := by
    split
    · next hc =>
      obtain ⟨o, ho, hholder⟩ := s.holding_held hc.symm
      have hok := (h.1 c o ho).1
      rw [ho, Option.map_some, Order.settled_of_free hok (hl.of_otherSlot hslot ho hholder)]
    · rfl
  cases hx : (s.printer n).slot with
  | none =>
    rw [loseLabels_of_free hx]
    exact hkept fun x hx' => by rw [hx] at hx'; cases hx'
  | some x =>
    rw [loseLabels_of_slot hx]
    change (s.failLabel n x.record .lost).order c = _
    rcases hl.slot_cases hx with ⟨b, hkind, hbody⟩ | hkind | hkind
    · obtain ⟨o, ho, hholder, hstate, hpending, hitems⟩ := hl.of_itemSlot h hx hkind hbody
      rw [failLabel_order_of_item hkind hbody, h.holding_eq ho hholder, ho, Option.map_some,
        Order.settled_of_item hstate hpending hitems]
      by_cases hc : c = x.record.clerk
      · rw [if_pos hc, if_pos (congrArg some hc), hc, ho, Option.map_some]
      · rw [if_neg hc, if_neg fun e => hc (Option.some_injective _ e)]
    · obtain ⟨o, ho, hholder, hstate, hitems⟩ := hl.of_totalSlot hx hkind
      rw [failLabel_order_of_total hkind, h.holding_eq ho hholder, ho, Option.map_some,
        Order.settled_of_closing hstate hitems]
      by_cases hc : c = x.record.clerk
      · rw [if_pos hc, if_pos (congrArg some hc), hc, ho, Option.map_some]
      · rw [if_neg hc, if_neg fun e => hc (Option.some_injective _ e)]
    · rw [failLabel_order_of_reprint hkind]
      exact hkept fun y hy => by rw [hx] at hy; cases hy; exact hkind

/-- Whom a station holds an order of depends on the orders' holders alone. -/
theorem holding_of_holders {s t : State} (h : ∀ c, (t.order c).map (·.holder) = (s.order c).map (·.holder))
    (n : StationNo) : t.holding n = s.holding n := by
  unfold State.holding
  refine congrArg (List.find? · _) (funext fun c => ?_)
  have hc := h c
  cases ht : t.order c with
  | none =>
    rw [ht] at hc
    cases hs : s.order c with
    | none => rfl
    | some o => rw [hs] at hc; cases hc
  | some u =>
    rw [ht] at hc
    cases hs : s.order c with
    | none => rw [hs] at hc; cases hc
    | some o =>
      rw [hs, Option.map_some, Option.map_some] at hc
      simp only [Option.some_injective _ hc]

theorem parkHeld_order (s : State) (n : StationNo) (c : ClerkNo) :
    (s.parkHeld n).order c
      = if some c = s.holding n then
          (s.order c).map fun o => { o with holder := none, revision := stepRevision o.revision }
        else s.order c := by
  unfold State.parkHeld
  cases hh : s.holding n with
  | none => rw [if_neg (by simp)]
  | some d =>
    dsimp only
    rw [State.park, State.onOrder, State.setOrder_order]
    by_cases hc : c = d
    · rw [if_pos hc, if_pos (congrArg some hc), hc]
    · rw [if_neg hc, if_neg fun e => hc (Option.some_injective _ e)]

/-- The order that a lost station held: settled, and parked. -/
theorem lost_order {s : State} (h : s.OrdersOk) (hl : s.LabelsOk) (n : StationNo) (c : ClerkNo) :
    ((s.loseLabels n).parkHeld n).order c
      = if some c = s.holding n then
          (s.order c).map fun o =>
            { o with
              holder := none, state := .opened, items := o.items.filter fun i => i.state != .pending
              revision := (o.revision + if o.labelInFlight then 2 else 1) % 65536 }
        else s.order c := by
  have hholding : (s.loseLabels n).holding n = s.holding n := by
    refine holding_of_holders (fun d => ?_) n
    rw [loseLabels_order h hl]
    split
    · cases s.order d <;> rfl
    · rfl
  rw [parkHeld_order, hholding, loseLabels_order h hl]
  split
  · rw [Option.map_map]
    refine congrArg (Option.map · (s.order c)) (funext fun o => ?_)
    have hrevision : stepRevision o.settled.revision = (o.revision + if o.labelInFlight then 2 else 1) % 65536 := by
      change ((o.revision + if o.labelInFlight then 1 else 0) % 65536 + 1) % 65536 = _
      split <;> omega
    simp only [Function.comp_apply, hrevision]
    rfl
  · rfl

/-! ## The label composer, the links and the notices at a loss -/

/-- What the notices are once a lost station's label has failed. -/
def State.lostNotices (s : State) (n : StationNo) : NoticeUnit :=
  match (s.printer n).slot with
  | some x => (s.raise .printFailed (failedFields n x.record .lost)).notices
  | none => s.notices

/-- A failed label that the labels' law allows changes the orders besides the slot and the notices. -/
theorem failLabel_form (s : State) (n : StationNo) (r : LabelRecord) (cause : FailCause) :
    ∃ x, s.failLabel n r cause
      = { (s.freeSlot n).raise .printFailed (failedFields n r cause) with orders := { s.orders with orders := x } } := by
  unfold State.failLabel State.handFailure
  split
  · exact ⟨_, rfl⟩
  · exact ⟨_, rfl⟩
  · exact ⟨s.orders.orders, rfl⟩

theorem loseLabels_form (s : State) (n : StationNo) :
    ∃ x, s.loseLabels n
      = { s.freedSlot n none with notices := s.lostNotices n, orders := { s.orders with orders := x } } := by
  unfold State.lostNotices
  cases hslot : (s.printer n).slot with
  | none =>
    rw [loseLabels_of_free hslot, State.freeSlot_setLast]
    exact ⟨s.orders.orders, rfl⟩
  | some p =>
    obtain ⟨x, hx⟩ := failLabel_form s n p.record .lost
    have hset := s.freeSlot_setLast n none
    refine ⟨x, ?_⟩
    rw [loseLabels_of_slot hslot, hx, ← hset]
    rfl

theorem parkHeld_form (s : State) (n : StationNo) :
    ∃ x, s.parkHeld n = { s with orders := { s.orders with orders := x } } := by
  unfold State.parkHeld
  cases s.holding n with
  | none => exact ⟨s.orders.orders, rfl⟩
  | some c => exact ⟨_, rfl⟩

/-- What the queue is once a station's clerk has been unbound. -/
def State.releasedQueue (s : State) (n : StationNo) : QueueUnit :=
  match s.boundClerk n with
  | none => s.queue
  | some c =>
    match s.serving c with
    | none => s.queue
    | some r =>
      let q : QueueUnit := { s.queue with serving := s.queue.serving.put c none }
      if r.hadGoods then q
      else { q with missed := ⟨r.number, r.issued, r.called⟩ :: s.queue.missed.take 7 }

theorem unbindRelease_form (s : State) (n : StationNo) :
    s.unbindRelease n = { s.unbindKeep n with queue := s.releasedQueue n } := by
  unfold State.unbindRelease State.unbindKeep State.releasedQueue
  cases s.boundClerk n with
  | none => rfl
  | some c =>
    dsimp only
    rw [State.releaseServing_eq]
    have hserving : (s.bind c none).serving c = s.serving c := rfl
    rw [hserving]
    cases s.serving c with
    | none => rfl
    | some r =>
      dsimp only
      split <;> rfl

/-- What unbinding a station's clerk leaves of each clerk. -/
theorem unbindKeep_clerk_eq (s : State) (n : StationNo) (c : ClerkNo) :
    (s.unbindKeep n).clerk c
      = if some c = s.boundClerk n then { s.clerk c with bound := none } else s.clerk c := by
  unfold State.unbindKeep
  cases s.boundClerk n with
  | none => rw [if_neg (by simp)]
  | some d =>
    dsimp only
    rw [State.bind, State.setClerk_clerk]
    by_cases hc : c = d
    · rw [if_pos hc, if_pos (congrArg some hc), hc]
    · rw [if_neg hc, if_neg fun e => hc (Option.some_injective _ e)]

/-- All that a station's loss leaves, with the orders and the clerks as the lemmas above say them. -/
theorem detach_form (s : State) (n : StationNo) :
    ∃ x k, s.detach n
        = (((({ s.freedSlot n none with
                notices := s.lostNotices n, queue := s.releasedQueue n
                orders := { s.orders with orders := x, clerks := k } } : State).clearContext n).setStation n
              absentEntry).onPort (.s n) LinkPort.drop)
      ∧ ((s.loseLabels n).parkHeld n).orders.orders = x ∧ (s.unbindKeep n).orders.clerks = k := by
  obtain ⟨x1, h1⟩ := loseLabels_form s n
  obtain ⟨x2, h2⟩ := parkHeld_form (s.loseLabels n) n
  rw [h1] at h2
  have hclerks (x : Table 32 (Option Order)) (u : State) (hu : u.orders.clerks = s.orders.clerks) :
      (u.unbindKeep n) = { u with orders := { u.orders with clerks := (s.unbindKeep n).orders.clerks } } := by
    have hbound : u.boundClerk n = s.boundClerk n := by
      unfold State.boundClerk State.clerk
      rw [hu]
    unfold State.unbindKeep
    rw [hbound]
    cases s.boundClerk n with
    | none =>
      dsimp only
      rw [← hu]
    | some c =>
      dsimp only
      unfold State.bind State.setClerk State.clerk
      rw [hu]
  refine ⟨x2, (s.unbindKeep n).orders.clerks, ?_, ?_, rfl⟩
  · rw [State.detach, h1, h2, unbindRelease_form, hclerks x2]
    · rfl
    · rfl
  · rw [h1, h2]

end Sys2Proof.Machine

end

section
/-! A station's loss and what makes one (08 section 8.6). -/

open Sys2Proof Sys2Proof.Machine

namespace Sys2Proof.Machine

/-! ## The loss does not read the roster -/

/-- A state with another roster. -/
def State.withRoster (s : State) (x : Table 12 RosterEntry) : State :=
  { s with counter := { s.counter with roster := x } }

theorem loseLabels_withRoster (s : State) (x : Table 12 RosterEntry) (n : StationNo) :
    (s.withRoster x).loseLabels n = (s.loseLabels n).withRoster x := by
  have hprinter : (s.withRoster x).printer n = s.printer n := rfl
  cases hslot : (s.printer n).slot with
  | none =>
    rw [loseLabels_of_free hslot, loseLabels_of_free (hprinter ▸ hslot)]
    rfl
  | some p =>
    have hfail : (s.withRoster x).failLabel n p.record .lost = (s.failLabel n p.record .lost).withRoster x := by
      unfold State.failLabel State.handFailure
      split <;> rfl
    rw [loseLabels_of_slot hslot, loseLabels_of_slot (hprinter ▸ hslot), hfail]
    rfl

theorem parkHeld_withRoster (s : State) (x : Table 12 RosterEntry) (n : StationNo) :
    (s.withRoster x).parkHeld n = (s.parkHeld n).withRoster x := by
  have hholding : (s.withRoster x).holding n = s.holding n := rfl
  unfold State.parkHeld
  rw [hholding]
  cases s.holding n <;> rfl

theorem unbindRelease_withRoster (s : State) (x : Table 12 RosterEntry) (n : StationNo) :
    (s.withRoster x).unbindRelease n = (s.unbindRelease n).withRoster x := by
  have hbound : (s.withRoster x).boundClerk n = s.boundClerk n := rfl
  have hqueue : (s.withRoster x).releasedQueue n = s.releasedQueue n := rfl
  rw [unbindRelease_form, unbindRelease_form, hqueue]
  unfold State.unbindKeep
  rw [hbound]
  cases s.boundClerk n <;> rfl

/-- A good frame first does not change what the loss leaves. -/
theorem detach_setStation (s : State) (n : StationNo) (e : RosterEntry) : (s.setStation n e).detach n = s.detach n := by
  have hroster : s.setStation n e = s.withRoster (s.counter.roster.put n e) := rfl
  have hkept : ((((s.loseLabels n).parkHeld n).unbindRelease n).clearContext n).counter.roster = s.counter.roster :=
    ((((loseLabels_changesOnly s n).mono (by simp : _ ⊆ [Part.labels, .ports, .notices, .orders, .clerks, .queue, .weighing])).andThen
      (parkHeld_changesOnly _ n) (by simp)).andThen (unbindRelease_changesOnly _ n) (by simp)).andThen
        (clearContext_changesOnly _ n) (by simp) .roster (by simp)
  unfold State.detach
  rw [hroster, loseLabels_withRoster, parkHeld_withRoster, unbindRelease_withRoster]
  generalize ((s.loseLabels n).parkHeld n).unbindRelease n = t at hkept ⊢
  have hclear : (t.withRoster (s.counter.roster.put n e)).clearContext n
      = (t.clearContext n).withRoster (s.counter.roster.put n e) := rfl
  rw [hclear]
  have hset : ((t.clearContext n).withRoster (s.counter.roster.put n e)).setStation n absentEntry
      = (t.clearContext n).setStation n absentEntry := by
    unfold State.setStation State.withRoster
    rw [hkept]
    simp only [Table.put_put]
  rw [hset]

theorem loseStation_setStation (s : State) (n : StationNo) (e : RosterEntry) :
    (s.setStation n e).loseStation n = s.loseStation n := by
  unfold State.loseStation
  rw [detach_setStation]
  rfl

/-! ## What makes a loss (R154, R155) -/

theorem exec_linkReset {s : State} (h : s.resetLow = false) (n : StationNo) :
    exec (.linkReset n) s = .next ((s.goodFrame (.s n)).loseIfPresent n).startAll :=
  unlessReset_high (fun s => (s.goodFrame (.s n)).loseIfPresent n) h

theorem exec_silenceExpiry {s : State} (h : s.resetLow = false) (n : StationNo) :
    exec (.silenceExpiry n) s = .next (if (s.station n).silence.isSome then s.loseIfPresent n else s).startAll :=
  unlessReset_high (fun s => if (s.station n).silence.isSome then s.loseIfPresent n else s) h

theorem linkReset_of_absent {s : State} {n : StationNo} (h : s.link n = .absent) :
    (s.goodFrame (.s n)).loseIfPresent n = s := by
  rw [goodFrame_of_absent h, State.loseIfPresent, if_pos h]

theorem linkReset_of_present {s : State} {n : StationNo} (h : s.link n ≠ .absent) :
    (s.goodFrame (.s n)).loseIfPresent n = s.loseStation n := by
  have hlink := setSilence_link s n (some 2000)
  rw [goodFrame_of_present h, State.loseIfPresent, if_neg (hlink ▸ h), loseStation_setStation]

theorem releasedQueue_eq (s : State) (n : StationNo) :
    s.releasedQueue n =
      match s.boundClerk n with
      | none => s.queue
      | some c =>
        match s.serving c with
        | none => s.queue
        | some r =>
          let q : QueueUnit := { s.queue with serving := s.queue.serving.put c none }
          if r.hadGoods then q
          else { q with missed := ⟨r.number, r.issued, r.called⟩ :: s.queue.missed.take 7 } := rfl

theorem lostNotices_eq (s : State) (n : StationNo) :
    s.lostNotices n =
      match (s.printer n).slot with
      | some x =>
        (s.raise .printFailed
          { station := some n
            clerk := if x.record.kind = .reprint then none else some x.record.clerk
            order := if x.record.kind = .reprint then none else some x.record.order
            plu := match x.record.kind, x.record.body with | .item, .item b => some b.plu | _, _ => none
            variant := .print x.record.number .lost }).notices
      | none => s.notices := by
  unfold State.lostNotices
  cases (s.printer n).slot <;> rfl

end Sys2Proof.Machine

/-- Settles O43: the loss block by block, and what makes one. -/
theorem stationLossActsOnEveryBlock : Obligations.StationLossActsOnEveryBlock := by
  intro s n h hl bound held t
  obtain ⟨x, k, ht, hx, hk⟩ := detach_form s n
  have ht : t = _ := ht
  have horders : ∀ c, t.order c = ((s.loseLabels n).parkHeld n).order c := by
    intro c
    rw [ht]
    unfold State.order
    rw [hx]
    rfl
  have hclerks : ∀ c, t.clerk c = (s.unbindKeep n).clerk c := by
    intro c
    rw [ht]
    unfold State.clerk
    rw [hk]
    rfl
  refine ⟨?_, fun p => ?_, ?_, fun m => ?_, fun m => ?_, fun m => ?_, ?_, fun c => ?_, ?_, fun c => ?_, ?_, ?_⟩
  · rw [ht]
    rfl
  · have hfreed (q : Port) : (s.freedSlot n none).port q = if q = .s n then { s.port (.s n) with labelLane := [] } else s.port q :=
      State.onPort_port _ (.s n) q _
    rw [ht, State.onPort_port]
    change (if p = .s n then ((s.freedSlot n none).port (.s n)).drop else (s.freedSlot n none).port p) = _
    rw [hfreed, hfreed, if_pos rfl]
    by_cases hp : p = .s n
    · rw [if_pos hp, if_pos hp, hp]
      rfl
    · rw [if_neg hp, if_neg hp, if_neg hp]
  · rw [ht]
    exact lostNotices_eq s n
  · rw [ht]
    exact (State.setPrinter_printer _ n _ m)
  · rw [ht]
    exact (State.setContext_context _ n _ m)
  · rw [ht]
    exact (State.setStation_station _ n _ m)
  · rw [ht]
    rfl
  · rw [hclerks, unbindKeep_clerk_eq]
  · rw [ht]
    rfl
  · rw [horders, lost_order h hl]
  · rw [ht]
    exact releasedQueue_eq s n
  · intro lost hhigh
    refine ⟨fun hlink => ?_, fun hlink => ⟨?_, fun hsilence => ?_⟩, fun hsilence => ?_⟩
    · rw [exec_linkReset hhigh, linkReset_of_absent hlink]
    · rw [exec_linkReset hhigh, linkReset_of_present hlink]
      rfl
    · rw [exec_silenceExpiry hhigh, if_pos (Option.isSome_iff_ne_none.mpr hsilence), State.loseIfPresent, if_neg hlink]
      rfl
    · rw [exec_silenceExpiry hhigh, hsilence]
      rfl

end

section
/-! The law of labels in flight, said by what is PENDING and what is CLOSING, and how it is kept (04, 05). -/

namespace Sys2Proof.Machine

/-! ## What is in flight -/

/-- An item PENDING in a clerk's order, with the order's holder. -/
def State.Pending (s : State) (c : ClerkNo) (m : Option StationNo) (i : Item) : Prop :=
  ∃ o, s.order c = some o ∧ o.holder = m ∧ i ∈ o.items ∧ i.state = .pending

/-- A clerk's order CLOSING, with its holder. -/
def State.Closing (s : State) (c : ClerkNo) (m : Option StationNo) : Prop :=
  ∃ o, s.order c = some o ∧ o.holder = m ∧ o.state = .closing

/-- The record of the label in a station's slot. -/
def State.slotRecord (s : State) (n : StationNo) : Option LabelRecord := (s.printer n).slot.map (·.record)

/-- What a label in a station's slot stands for. -/
def State.StandsFor (s : State) (n : StationNo) (r : LabelRecord) : Prop :=
  match r.kind, r.body with
  | .item, .item b =>
    ∃ i, s.Pending r.clerk (some n) i ∧ i.number = b.itemNumber ∧ i.station = n ∧ i.label = some r.number
  | .total, .total _ => s.Closing r.clerk (some n)
  | .reprint, _ => True
  | _, _ => False

theorem State.standsFor_iff {s : State} {n : StationNo} {r : LabelRecord} : s.StandsFor n r ↔ s.SlotOk n r := by
  unfold State.StandsFor State.SlotOk State.Pending State.Closing
  cases r.kind <;> cases r.body
  all_goals simp only [Option.mem_def]
  constructor
  · rintro ⟨i, ⟨o, ho, hholder, hi, hpending⟩, hnumber, hstation, hlabel⟩
    exact ⟨o, ho, hholder, i, hi, hnumber, hpending, hstation, hlabel⟩
  · rintro ⟨o, ho, hholder, i, hi, hnumber, hpending, hstation, hlabel⟩
    exact ⟨i, ⟨o, ho, hholder, hi, hpending⟩, hnumber, hstation, hlabel⟩

theorem State.slotHas_iff {s : State} {n : StationNo} {k : LabelKind} {c : ClerkNo} {p : LabelRecord → Prop} :
    s.SlotHas n k c p ↔ ∃ r, s.slotRecord n = some r ∧ r.kind = k ∧ r.clerk = c ∧ p r := by
  unfold State.SlotHas State.slotRecord
  cases (s.printer n).slot <;> simp

theorem State.labelsOk_iff {s : State} :
    s.LabelsOk ↔
      (∀ n r, s.slotRecord n = some r → s.link n = .enrolled ∧ s.StandsFor n r)
        ∧ (∀ c m i, s.Pending c m i →
          m = some i.station
            ∧ ∃ r, s.slotRecord i.station = some r ∧ r.kind = .item ∧ r.clerk = c ∧ LabelRecord.ofItem i.number r)
        ∧ ∀ c m, s.Closing c m → ∃ n, m = some n ∧ ∃ r, s.slotRecord n = some r ∧ r.kind = .total ∧ r.clerk = c := by
  have hslots : (∀ n : StationNo, ∀ x ∈ (s.printer n).slot, s.link n = .enrolled ∧ s.SlotOk n x.record)
      ↔ ∀ n r, s.slotRecord n = some r → s.link n = .enrolled ∧ s.StandsFor n r := by
    refine forall_congr' fun n => ?_
    unfold State.slotRecord
    simp only [State.standsFor_iff]
    cases (s.printer n).slot <;> simp
  unfold State.LabelsOk
  rw [hslots]
  simp only [State.slotHas_iff]
  refine and_congr_right fun _ => ⟨fun h => ⟨?_, ?_⟩, fun h c o ho => ⟨fun i hi hpending => ?_, fun hclosing => ?_⟩⟩
  · rintro c _ i ⟨o, ho, rfl, hi, hpending⟩
    exact (h c o ho).1 i hi hpending
  · rintro c _ ⟨o, ho, rfl, hclosing⟩
    obtain ⟨n, hn, r, hr, hkind, hclerk, -⟩ := (h c o ho).2 hclosing
    exact ⟨n, hn, r, hr, hkind, hclerk⟩
  · exact h.1 c o.holder i ⟨o, ho, rfl, hi, hpending⟩
  · obtain ⟨n, hn, r, hr, hkind, hclerk⟩ := h.2 c o.holder ⟨o, ho, rfl, hclosing⟩
    exact ⟨n, hn, r, hr, hkind, hclerk, trivial⟩

/-- A label stands for what is in flight, in whatever state that is so. -/
theorem State.StandsFor.mono {s t : State} {n : StationNo} {r : LabelRecord} (h : s.StandsFor n r)
    (hpending : ∀ i, s.Pending r.clerk (some n) i → t.Pending r.clerk (some n) i)
    (hclosing : s.Closing r.clerk (some n) → t.Closing r.clerk (some n)) : t.StandsFor n r := by
  unfold State.StandsFor at *
  split at h
  · obtain ⟨i, hi, hrest⟩ := h
    exact ⟨i, hpending i hi, hrest⟩
  · exact hclosing h
  · trivial
  · exact h

namespace State.LabelsOk

/-! ## Changes that leave what is in flight -/

/-- What is in flight the same, the slots' records the same, their stations ENROLLED. -/
theorem of_same {s t : State} (h : s.LabelsOk) (hpending : ∀ c m i, t.Pending c m i ↔ s.Pending c m i)
    (hclosing : ∀ c m, t.Closing c m ↔ s.Closing c m) (hslot : ∀ n, t.slotRecord n = s.slotRecord n)
    (hlink : ∀ n r, s.slotRecord n = some r → s.link n = .enrolled → t.link n = .enrolled) : t.LabelsOk := by
  rw [State.labelsOk_iff] at *
  obtain ⟨h1, h2, h3⟩ := h
  refine ⟨fun n r hr => ?_, fun c m i hi => ?_, fun c m hc => ?_⟩
  · rw [hslot] at hr
    obtain ⟨hn, hstands⟩ := h1 n r hr
    exact ⟨hlink n r hr hn, hstands.mono (fun i hi => (hpending _ _ i).mpr hi) ((hclosing _ _).mpr ·)⟩
  · rw [hslot]
    exact h2 c m i ((hpending c m i).mp hi)
  · obtain ⟨n, hn, hr⟩ := h3 c m ((hclosing c m).mp hc)
    refine ⟨n, hn, ?_⟩
    rw [hslot]
    exact hr

theorem of_changesOnly {bs : List Part} {s t : State} (h : s.LabelsOk) (hc : ChangesOnly bs s t)
    (hb : Part.orders ∉ bs ∧ Part.labels ∉ bs ∧ Part.roster ∉ bs) : t.LabelsOk := by
  have horders : t.orders.orders = s.orders.orders := congrArg Prod.fst (hc .orders hb.1)
  have hlabels : t.labels = s.labels := hc .labels hb.2.1
  have hroster : t.counter.roster = s.counter.roster := hc .roster hb.2.2
  refine h.of_same (fun c m i => ?_) (fun c m => ?_) (fun n => ?_) fun n _ _ hn => ?_
  · unfold State.Pending State.order
    rw [horders]
  · unfold State.Closing State.order
    rw [horders]
  · unfold State.slotRecord State.printer
    rw [hlabels]
  · unfold State.link State.station at *
    rw [hroster]
    exact hn

/-! ## A label composed, and a label ended -/

variable {s t : State} (h : s.LabelsOk) {n : StationNo} (hothers : ∀ m, m ≠ n → t.slotRecord m = s.slotRecord m)
  (hlinks : ∀ m r, m ≠ n → s.slotRecord m = some r → s.link m = .enrolled → t.link m = .enrolled)

include h hothers hlinks

/-- A label put into a FREE slot of an ENROLLED station, with what it stands for. -/
theorem composed (hfree : s.slotRecord n = none) {r : LabelRecord} (hr : t.slotRecord n = some r)
    (hn : t.link n = .enrolled) (hstands : t.StandsFor n r)
    (hpending : ∀ c m i, t.Pending c m i ↔ s.Pending c m i
      ∨ (c = r.clerk ∧ m = some n ∧ i.station = n ∧ r.kind = .item ∧ LabelRecord.ofItem i.number r ∧ t.Pending c m i))
    (hclosing : ∀ c m, t.Closing c m ↔ s.Closing c m ∨ (c = r.clerk ∧ m = some n ∧ r.kind = .total ∧ t.Closing c m)) :
    t.LabelsOk := by
  rw [State.labelsOk_iff] at *
  obtain ⟨h1, h2, h3⟩ := h
  have hkept (m : StationNo) (r' : LabelRecord) (hm : s.slotRecord m = some r') : t.slotRecord m = some r' := by
    rw [hothers m fun e => by rw [e, hfree] at hm; cases hm]
    exact hm
  refine ⟨fun m r' hr' => ?_, fun c m i hi => ?_, fun c m hc => ?_⟩
  · by_cases hm : m = n
    · subst hm
      rw [hr] at hr'
      cases hr'
      exact ⟨hn, hstands⟩
    · rw [hothers m hm] at hr'
      obtain ⟨hlink, hstands'⟩ := h1 m r' hr'
      exact ⟨hlinks m r' hm hr' hlink,
        hstands'.mono (fun i hi => (hpending _ _ i).mpr (.inl hi)) fun hc => (hclosing _ _).mpr (.inl hc)⟩
  · rcases (hpending c m i).mp hi with hi | ⟨hc, hm, hstation, hkind, hof, -⟩
    · obtain ⟨hm, r', hr', hrest⟩ := h2 c m i hi
      exact ⟨hm, r', hkept _ r' hr', hrest⟩
    · exact ⟨hstation ▸ hm, r, hstation ▸ hr, hkind, hc.symm, hof⟩
  · rcases (hclosing c m).mp hc with hc | ⟨hc, hm, hkind, -⟩
    · obtain ⟨k, hk, r', hr', hrest⟩ := h3 c m hc
      exact ⟨k, hk, r', hkept k r' hr', hrest⟩
    · exact ⟨n, hm, r, hr, hkind, hc.symm⟩

/-- A label gone from a slot, with what it stood for. -/
theorem ended (hfree : t.slotRecord n = none) (hpending : ∀ c m i, t.Pending c m i ↔ s.Pending c m i ∧ m ≠ some n)
    (hclosing : ∀ c m, t.Closing c m ↔ s.Closing c m ∧ m ≠ some n) : t.LabelsOk := by
  rw [State.labelsOk_iff] at *
  obtain ⟨h1, h2, h3⟩ := h
  refine ⟨fun m r hr => ?_, fun c m i hi => ?_, fun c m hc => ?_⟩
  · by_cases hm : m = n
    · rw [hm, hfree] at hr
      cases hr
    · have hne : some m ≠ some n := fun e => hm (Option.some_injective _ e)
      rw [hothers m hm] at hr
      obtain ⟨hlink, hstands⟩ := h1 m r hr
      exact ⟨hlinks m r hm hr hlink,
        hstands.mono (fun i hi => (hpending _ _ i).mpr ⟨hi, hne⟩) fun hc => (hclosing _ _).mpr ⟨hc, hne⟩⟩
  · obtain ⟨hi, hm⟩ := (hpending c m i).mp hi
    obtain ⟨hstation, r, hr, hrest⟩ := h2 c m i hi
    exact ⟨hstation, r, (hothers _ fun e => hm (hstation.trans (congrArg some e))).trans hr, hrest⟩
  · obtain ⟨hc, hm⟩ := (hclosing c m).mp hc
    obtain ⟨k, hk, r, hr, hrest⟩ := h3 c m hc
    exact ⟨k, hk, r, (hothers k fun e => hm (hk.trans (congrArg some e))).trans hr, hrest⟩

end State.LabelsOk

end Sys2Proof.Machine

end

section
/-! How the orders' changes leave the labels in flight, and the ends of a label (04, 05). -/

namespace Sys2Proof.Machine

/-! ## Orders without a label in flight -/

/-- A clerk has no order with a label in flight. -/
def State.Quiet (s : State) (c : ClerkNo) : Prop := ∀ o, s.order c = some o → o.labelInFlight = false

theorem State.Quiet.not_pending {s : State} {c : ClerkNo} (h : s.Quiet c) (m : Option StationNo) (i : Item) :
    ¬s.Pending c m i := by
  rintro ⟨o, ho, -, hi, hpending⟩
  exact (o.labelInFlight_eq_false_iff.mp (h o ho)).1 i hi hpending

theorem State.Quiet.not_closing {s : State} {c : ClerkNo} (h : s.Quiet c) (m : Option StationNo) : ¬s.Closing c m := by
  rintro ⟨o, ho, -, hclosing⟩
  have hopened := (o.labelInFlight_eq_false_iff.mp (h o ho)).2
  rw [hclosing] at hopened
  cases hopened

/-- A change of an order that leaves its holder, its state and its PENDING items. -/
structure Order.SameFlight (o u : Order) : Prop where
  holder : u.holder = o.holder
  state : u.state = o.state
  items : ∀ i : Item, i.state = .pending → (i ∈ u.items ↔ i ∈ o.items)

theorem State.pending_congr {s t : State} {c : ClerkNo} (h : t.order c = s.order c) (m : Option StationNo) (i : Item) :
    t.Pending c m i ↔ s.Pending c m i := by
  unfold State.Pending
  rw [h]

theorem State.closing_congr {s t : State} {c : ClerkNo} (h : t.order c = s.order c) (m : Option StationNo) :
    t.Closing c m ↔ s.Closing c m := by
  unfold State.Closing
  rw [h]

namespace State.LabelsOk

variable {s t : State} (h : s.LabelsOk) {c : ClerkNo} (horders : ∀ d, d ≠ c → t.order d = s.order d)

include h horders

/-- A clerk's order changed while no label is in flight, before and after. -/
theorem of_quiet (hlabels : t.labels = s.labels) (hlink : ∀ n, t.link n = s.link n) (hs : s.Quiet c) (ht : t.Quiet c) :
    t.LabelsOk := by
  refine h.of_same (fun d m i => ?_) (fun d m => ?_) (fun n => ?_) fun n _ _ hn => (hlink n).trans hn
  · by_cases hd : d = c
    · subst hd
      exact iff_of_false (ht.not_pending m i) (hs.not_pending m i)
    · exact State.pending_congr (horders d hd) m i
  · by_cases hd : d = c
    · subst hd
      exact iff_of_false (ht.not_closing m) (hs.not_closing m)
    · exact State.closing_congr (horders d hd) m
  · unfold State.slotRecord State.printer
    rw [hlabels]

/-- A clerk's order changed but for what is in flight. -/
theorem of_sameFlight (hlabels : t.labels = s.labels) (hlink : ∀ n, t.link n = s.link n) {o u : Order}
    (ho : s.order c = some o) (hu : t.order c = some u) (hsame : o.SameFlight u) : t.LabelsOk := by
  refine h.of_same (fun d m i => ?_) (fun d m => ?_) (fun n => ?_) fun n _ _ hn => (hlink n).trans hn
  · by_cases hd : d = c
    · subst hd
      constructor
      · rintro ⟨v, hv, hm, hi, hpending⟩
        cases hu.symm.trans hv
        exact ⟨o, ho, hsame.holder ▸ hm, (hsame.items i hpending).mp hi, hpending⟩
      · rintro ⟨v, hv, hm, hi, hpending⟩
        cases ho.symm.trans hv
        exact ⟨u, hu, hsame.holder.trans hm, (hsame.items i hpending).mpr hi, hpending⟩
    · exact State.pending_congr (horders d hd) m i
  · by_cases hd : d = c
    · subst hd
      constructor
      · rintro ⟨v, hv, hm, hclosing⟩
        cases hu.symm.trans hv
        exact ⟨o, ho, hsame.holder ▸ hm, hsame.state ▸ hclosing⟩
      · rintro ⟨v, hv, hm, hclosing⟩
        cases ho.symm.trans hv
        exact ⟨u, hu, hsame.holder.trans hm, hsame.state.trans hclosing⟩
    · exact State.closing_congr (horders d hd) m
  · unfold State.slotRecord State.printer
    rw [hlabels]

end State.LabelsOk

/-! ## A label gone -/

/-- A clerk whose order a station holds with an item PENDING is the clerk of the label there. -/
theorem State.LabelsOk.pending_clerk {s : State} (h : s.LabelsOk) {n : StationNo} {c : ClerkNo} {i : Item}
    (hi : s.Pending c (some n) i) : ∃ r, s.slotRecord n = some r ∧ r.kind = .item ∧ r.clerk = c := by
  obtain ⟨-, h2, -⟩ := State.labelsOk_iff.mp h
  obtain ⟨hn, r, hr, hkind, hclerk, -⟩ := h2 c _ i hi
  exact ⟨r, Option.some_injective _ hn ▸ hr, hkind, hclerk⟩

theorem State.LabelsOk.closing_clerk {s : State} (h : s.LabelsOk) {n : StationNo} {c : ClerkNo}
    (hc : s.Closing c (some n)) : ∃ r, s.slotRecord n = some r ∧ r.kind = .total ∧ r.clerk = c := by
  obtain ⟨-, -, h3⟩ := State.labelsOk_iff.mp h
  obtain ⟨k, hk, r, hr, hkind, hclerk⟩ := h3 c _ hc
  exact ⟨r, Option.some_injective _ hk ▸ hr, hkind, hclerk⟩

/-- The order of the clerk of an ITEM or TOTAL label is held where the label's slot is. -/
theorem State.LabelsOk.slot_holder {s : State} (h : s.LabelsOk) {n : StationNo} {r : LabelRecord}
    (hr : s.slotRecord n = some r) (hkind : r.kind ≠ .reprint) {o : Order} (ho : s.order r.clerk = some o) :
    o.holder = some n := by
  obtain ⟨h1, -, -⟩ := State.labelsOk_iff.mp h
  obtain ⟨-, hstands⟩ := h1 n r hr
  unfold State.StandsFor at hstands
  split at hstands
  · obtain ⟨i, ⟨u, hu, hholder, -⟩, -⟩ := hstands
    cases ho.symm.trans hu
    exact hholder
  · obtain ⟨u, hu, hholder, -⟩ := hstands
    cases ho.symm.trans hu
    exact hholder
  · next hreprint => exact absurd hreprint hkind
  · exact hstands.elim

/-- A slot freed: the order of the label's clerk has no label in flight any more, and no other order changes. -/
theorem State.LabelsOk.labelGone {s t : State} (h : s.LabelsOk) {n : StationNo}
    (hothers : ∀ m, m ≠ n → t.slotRecord m = s.slotRecord m)
    (hlinks : ∀ m r, m ≠ n → s.slotRecord m = some r → s.link m = .enrolled → t.link m = .enrolled)
    (hfree : t.slotRecord n = none)
    (horders : ∀ d, (∀ r, s.slotRecord n = some r → r.kind ≠ .reprint → d ≠ r.clerk) → t.order d = s.order d)
    (hquiet : ∀ r, s.slotRecord n = some r → r.kind ≠ .reprint → t.Quiet r.clerk) : t.LabelsOk := by
  refine h.ended hothers hlinks hfree (fun d m i => ?_) fun d m => ?_
  · by_cases hd : ∀ r, s.slotRecord n = some r → r.kind ≠ .reprint → d ≠ r.clerk
    · rw [State.pending_congr (horders d hd)]
      refine (and_iff_left_of_imp fun hi hm => ?_).symm
      obtain ⟨r, hr, hkind, hclerk⟩ := h.pending_clerk (hm ▸ hi)
      exact hd r hr (by rw [hkind]; simp) hclerk.symm
    · push Not at hd
      obtain ⟨r, hr, hkind, rfl⟩ := hd
      refine iff_of_false ((hquiet r hr hkind).not_pending m i) ?_
      rintro ⟨⟨o, ho, hholder, -⟩, hm⟩
      exact hm (hholder.symm.trans (h.slot_holder hr hkind ho))
  · by_cases hd : ∀ r, s.slotRecord n = some r → r.kind ≠ .reprint → d ≠ r.clerk
    · rw [State.closing_congr (horders d hd)]
      refine (and_iff_left_of_imp fun hc hm => ?_).symm
      obtain ⟨r, hr, hkind, hclerk⟩ := h.closing_clerk (hm ▸ hc)
      exact hd r hr (by rw [hkind]; simp) hclerk.symm
    · push Not at hd
      obtain ⟨r, hr, hkind, rfl⟩ := hd
      refine iff_of_false ((hquiet r hr hkind).not_closing m) ?_
      rintro ⟨⟨o, ho, hholder, -⟩, hm⟩
      exact hm (hholder.symm.trans (h.slot_holder hr hkind ho))

/-! ## The orders after a label's end -/

theorem Order.settled_quiet (o : Order) : o.settled.labelInFlight = false := by
  rw [Order.labelInFlight_eq_false_iff]
  refine ⟨fun i hi => ?_, rfl⟩
  exact bne_iff_ne.mp (List.mem_filter.mp hi).2

theorem State.slotRecord_eq_some {s : State} {n : StationNo} {r : LabelRecord} :
    s.slotRecord n = some r ↔ ∃ x, (s.printer n).slot = some x ∧ x.record = r := by
  unfold State.slotRecord
  exact Option.map_eq_some_iff

/-- A failed label leaves the order it was for without one, and every other order as it was. -/
theorem failLabel_orders {s : State} (h : s.OrdersOk) (hl : s.LabelsOk) {n : StationNo} {x : PrintSlot}
    (hx : (s.printer n).slot = some x) (cause : FailCause) :
    (∀ d, (x.record.kind ≠ .reprint → d ≠ x.record.clerk) →
        (s.failLabel n x.record cause).order d = s.order d)
      ∧ (x.record.kind ≠ .reprint → (s.failLabel n x.record cause).Quiet x.record.clerk) := by
  rcases hl.slot_cases hx with ⟨b, hkind, hbody⟩ | hkind | hkind
  · have hne : x.record.kind ≠ .reprint := by rw [hkind]; simp
    obtain ⟨o, ho, -, hstate, hpending, hitems⟩ := hl.of_itemSlot h hx hkind hbody
    refine ⟨fun d hd => ?_, fun _ u hu => ?_⟩
    · rw [failLabel_order_of_item hkind hbody, if_neg (hd hne)]
    · rw [failLabel_order_of_item hkind hbody, if_pos rfl, ho, Option.map_some,
        Order.settled_of_item hstate hpending hitems] at hu
      cases hu
      exact o.settled_quiet
  · have hne : x.record.kind ≠ .reprint := by rw [hkind]; simp
    obtain ⟨o, ho, -, hstate, hitems⟩ := hl.of_totalSlot hx hkind
    refine ⟨fun d hd => ?_, fun _ u hu => ?_⟩
    · rw [failLabel_order_of_total hkind, if_neg (hd hne)]
    · rw [failLabel_order_of_total hkind, if_pos rfl, ho, Option.map_some, Order.settled_of_closing hstate hitems] at hu
      cases hu
      exact o.settled_quiet
  · exact ⟨fun d _ => failLabel_order_of_reprint hkind s n cause d, fun hne => absurd hkind hne⟩

/-- An item confirmed: its order has no item PENDING any more. -/
theorem Order.setItem_quiet {o : Order} {k : Nat} (hstate : o.state = .opened)
    (hitems : ∀ i ∈ o.items, i.number = k ↔ i.state = .pending) : (o.setItem k .confirmed).labelInFlight = false := by
  rw [Order.labelInFlight_eq_false_iff]
  refine ⟨fun i hi => ?_, hstate⟩
  obtain ⟨j, hj, rfl⟩ := List.mem_map.mp hi
  by_cases hk : j.number = k
  · rw [if_pos hk]
    simp
  · rw [if_neg hk]
    exact mt (hitems j hj).mpr hk

theorem reportClosing_order (s : State) (c : ClerkNo) : s.reportClosing.order c = s.order c := by
  have horders : s.reportClosing.orders.orders = s.orders.orders :=
    congrArg Prod.fst (reportClosing_changesOnly s .orders (by simp))
  unfold State.order
  rw [horders]

theorem goodsConfirmed_order (s : State) (c d : ClerkNo) (k : Option Nat) :
    (s.goodsConfirmed c k).order d = s.order d := by
  have horders : (s.goodsConfirmed c k).orders.orders = s.orders.orders :=
    congrArg Prod.fst (goodsConfirmed_changesOnly s c k .orders (by simp))
  unfold State.order
  rw [horders]

theorem accumulate_order (s : State) (c d : ClerkNo) (n : StationNo) (o : Order) :
    (s.accumulate c n o).order d = s.order d := by
  have horders : (s.accumulate c n o).orders.orders = s.orders.orders :=
    congrArg Prod.fst (accumulate_changesOnly s c n o .orders (by simp))
  unfold State.order
  rw [horders]

/-- A printed label leaves the order it was for without one, and every other order as it was. -/
theorem finishLabel_orders {s : State} (h : s.OrdersOk) (hl : s.LabelsOk) {n : StationNo} {x : PrintSlot}
    (hx : (s.printer n).slot = some x) :
    (∀ d, (x.record.kind ≠ .reprint → d ≠ x.record.clerk) → (s.finishLabel n x.record).order d = s.order d)
      ∧ (x.record.kind ≠ .reprint → (s.finishLabel n x.record).Quiet x.record.clerk) := by
  rcases hl.slot_cases hx with ⟨b, hkind, hbody⟩ | hkind | hkind
  · have hne : x.record.kind ≠ .reprint := by rw [hkind]; simp
    obtain ⟨o, ho, -, hstate, -, hitems⟩ := hl.of_itemSlot h hx hkind hbody
    have hkept : ((s.freedSlot n (some x.record)).countLabel n).order x.record.clerk = some o := ho
    have horder (d : ClerkNo) : (s.finishLabel n x.record).order d
        = if d = x.record.clerk then some (o.setItem b.itemNumber .confirmed) else s.order d := by
      rw [finishLabel_item hkind hbody, confirmItem_of_some hkept, goodsConfirmed_order]
      exact State.setOrder_order ..
    refine ⟨fun d hd => ?_, fun _ u hu => ?_⟩
    · rw [horder, if_neg (hd hne)]
    · rw [horder, if_pos rfl] at hu
      cases hu
      exact Order.setItem_quiet hstate hitems
  · have hne : x.record.kind ≠ .reprint := by rw [hkind]; simp
    obtain ⟨o, ho, -⟩ := hl.of_totalSlot hx hkind
    have hkept : ((s.freedSlot n (some x.record)).countLabel n).order x.record.clerk = some o := ho
    have horder (d : ClerkNo) : (s.finishLabel n x.record).order d = if d = x.record.clerk then none else s.order d := by
      rw [finishLabel_total hkind, closePrinted_of_some hkept, reportClosing_order, State.setOrder_order,
        accumulate_order]
      rfl
    refine ⟨fun d hd => ?_, fun _ u hu => ?_⟩
    · rw [horder, if_neg (hd hne)]
    · rw [horder, if_pos rfl] at hu
      cases hu
  · refine ⟨fun d _ => ?_, fun hne => absurd hkind hne⟩
    rw [finishLabel_reprint hkind]
    rfl

end Sys2Proof.Machine

end

section
/-! The order manager's laws and the law of labels in flight together: what keeps both (04, 05, 07, 08). -/

namespace Sys2Proof.Machine

/-- The order manager's laws and the law of labels in flight. -/
def State.TradeOk (s : State) : Prop := s.OrdersOk ∧ s.LabelsOk

/-! ## The order manager's laws -/

namespace State.OrdersOk

theorem of_changesOnly {bs : List Part} {s t : State} (h : s.OrdersOk) (hc : ChangesOnly bs s t)
    (hb : Part.orders ∉ bs ∧ Part.clerks ∉ bs ∧ Part.roster ∉ bs ∧ Part.openOrders ∉ bs ∧ Part.mode ∉ bs) :
    t.OrdersOk := by
  obtain ⟨horders, hclerks, hroster, hcount, hmode⟩ := hb
  rw [State.ordersOk_iff] at *
  obtain ⟨h1, h2, h3⟩ := h
  exact ⟨h1.of_changesOnly hc horders, h2.of_changesOnly hc ⟨horders, hclerks, hroster⟩,
    h3.of_changesOnly hc ⟨horders, hcount, hmode⟩⟩

variable {s : State} (h : s.OrdersOk)
include h

theorem onOrder {c : ClerkNo} {f : Order → Order} (hf : ∀ o, s.order c = some o → o.Tame (f o)) :
    (s.onOrder c f).OrdersOk := by
  rw [State.ordersOk_iff] at *
  obtain ⟨h1, h2, h3⟩ := h
  exact ⟨h1.onOrder hf, h2.onOrder hf, h3.onOrder c f⟩

/-- An order ended and counted off; the counter leaves DRAINING when it was the last. -/
theorem closeOrder {t : State} {c : ClerkNo} {o : Order} (ho : s.order c = some o)
    (hcount : t.totals.openOrders = s.totals.openOrders - 1) (horders : t.orders = s.orders)
    (hcounter : t.counter = s.counter) : (t.setOrder c none).reportClosing.OrdersOk := by
  rw [State.ordersOk_iff] at *
  obtain ⟨h1, h2, h3⟩ := h
  have h1' : t.OrderListOk := by
    unfold State.OrderListOk State.poolUsed State.openOrders State.order
    rw [horders]
    exact h1
  have h2' : t.BindingsOk := by
    unfold State.BindingsOk State.order State.clerk State.link State.station
    rw [horders, hcounter]
    exact h2
  exact ⟨(h1'.endOrder c).of_changesOnly (reportClosing_changesOnly _) (by simp),
    (h2'.setOrder (c := c) (x := none) (by simp)).of_changesOnly (reportClosing_changesOnly _) (by simp),
    (h3.ended ho hcount (by rw [horders]) (by rw [hcounter])).reportClosing⟩

end State.OrdersOk

namespace State.TradeOk

/-! ## Changes that leave what the laws speak of -/

theorem of_changesOnly {bs : List Part} {s t : State} (h : s.TradeOk) (hc : ChangesOnly bs s t)
    (hb : Part.orders ∉ bs ∧ Part.clerks ∉ bs ∧ Part.roster ∉ bs ∧ Part.openOrders ∉ bs ∧ Part.mode ∉ bs
      ∧ Part.labels ∉ bs) : t.TradeOk := by
  obtain ⟨horders, hclerks, hroster, hcount, hmode, hlabels⟩ := hb
  exact ⟨h.1.of_changesOnly hc ⟨horders, hclerks, hroster, hcount, hmode⟩,
    h.2.of_changesOnly hc ⟨horders, hlabels, hroster⟩⟩

/-- The orders, the counts and the slots' records as they were, and every ENROLLED station still so. -/
theorem of_kept {s t : State} (h : s.TradeOk) (horders : t.orders = s.orders)
    (hcount : t.totals.openOrders = s.totals.openOrders) (hmode : t.counter.state = s.counter.state)
    (hslot : ∀ n, t.slotRecord n = s.slotRecord n) (hlink : ∀ n, s.link n = .enrolled → t.link n = .enrolled) :
    t.TradeOk := by
  obtain ⟨hord, hlab⟩ := h
  refine ⟨?_, ?_⟩
  · unfold State.OrdersOk State.poolUsed State.openOrderCount State.openOrders State.order State.clerk State.trading at *
    rw [horders, hcount, hmode]
    obtain ⟨h1, h2, h3, h4, h5, h6, h7, h8⟩ := hord
    exact ⟨h1, h2, h3, h4, h5, h6, fun c n hn => hlink n (h7 c n hn), h8⟩
  · refine hlab.of_same (fun c m i => ?_) (fun c m => ?_) hslot fun n _ _ hn => hlink n hn
    · refine State.pending_congr ?_ m i
      unfold State.order
      rw [horders]
    · refine State.closing_congr ?_ m
      unfold State.order
      rw [horders]

/-- The entry to a state of trading, or with no order open. -/
theorem enterState {s : State} (h : s.TradeOk) {m : CounterState}
    (hidle : m = .loading ∨ m = .closed → s.openOrderCount = 0) : (s.enterState m).TradeOk := by
  obtain ⟨hord, hlab⟩ := h
  rw [State.ordersOk_iff] at hord
  obtain ⟨h1, h2, h3⟩ := hord
  refine ⟨State.ordersOk_iff.mpr ⟨h1.of_changesOnly (enterState_changesOnly _ _) (by simp),
    h2.of_changesOnly (enterState_changesOnly _ _) (by simp), h3.enterState hidle⟩,
    hlab.of_changesOnly (enterState_changesOnly _ _) (by simp)⟩

variable {s : State} (h : s.TradeOk)
include h

/-- A station that is not ENROLLED has no label in its slot. -/
theorem slot_free {n : StationNo} (hn : s.link n ≠ .enrolled) : s.slotRecord n = none := by
  obtain ⟨h1, -⟩ := State.labelsOk_iff.mp h.2
  by_contra hslot
  obtain ⟨r, hr⟩ := Option.ne_none_iff_exists'.mp hslot
  exact hn (h1 n r hr).1

/-- A roster entry changed where no clerk is bound and no label stands, or for one that is ENROLLED. -/
theorem setStation {n : StationNo} {x : RosterEntry}
    (hx : x.link = .enrolled ∨ ((∀ d, (s.clerk d).bound ≠ some n) ∧ s.slotRecord n = none)) :
    (s.setStation n x).TradeOk := by
  obtain ⟨hord, hlab⟩ := h
  rw [State.ordersOk_iff] at hord
  obtain ⟨h1, h2, h3⟩ := hord
  refine ⟨State.ordersOk_iff.mpr ⟨h1.of_changesOnly (setStation_changesOnly _ n x) (by simp),
    h2.setStation (hx.imp_right fun hx => hx.1), h3.of_changesOnly (setStation_changesOnly _ n x) (by simp)⟩, ?_⟩
  refine hlab.of_same (fun c m i => Iff.rfl) (fun c m => Iff.rfl) (fun m => rfl) fun m r hr hm => ?_
  rw [State.link, State.setStation_station]
  split
  · next e =>
    rcases hx with hx | ⟨-, hfree⟩
    · exact hx
    · rw [e, hfree] at hr
      cases hr
  · exact hm

theorem goodFrame (p : Port) : (s.goodFrame p).TradeOk := by
  unfold State.goodFrame
  split
  · next n =>
    split
    · exact h
    · refine h.of_kept rfl rfl rfl (fun _ => rfl) fun m hm => ?_
      rw [State.link, State.setStation_station]
      split
      · next e => exact e ▸ hm
      · exact hm
  · exact h

theorem leaveService (st : StationNo) : (s.leaveService st).TradeOk := by
  unfold State.leaveService
  split
  · exact h.setStation (.inl rfl)
  · exact h

/-- A clerk's order parked while no label is in flight. -/
theorem park {c : ClerkNo} (hquiet : s.Quiet c) : (s.park c).TradeOk := by
  refine ⟨h.1.onOrder fun o _ => o.tame_release, h.2.of_quiet (c := c) (fun d hd => ?_) rfl (fun _ => rfl) hquiet ?_⟩
  · exact (State.setOrder_order _ c _ d).trans (if_neg hd)
  · intro u hu
    rw [State.park, State.onOrder, State.setOrder_order_same] at hu
    obtain ⟨o, ho, rfl⟩ := Option.map_eq_some_iff.mp hu
    exact hquiet o ho

/-- A station's clerk unbound, where the clerk's order is held nowhere. -/
theorem unbindRelease {n : StationNo} (ho : ∀ c, s.boundClerk n = some c → ∀ o ∈ s.order c, o.holder = none) :
    (s.unbindRelease n).TradeOk := by
  obtain ⟨hord, hlab⟩ := h
  rw [State.ordersOk_iff] at hord
  obtain ⟨h1, h2, h3⟩ := hord
  exact ⟨State.ordersOk_iff.mpr ⟨h1.of_changesOnly (unbindRelease_changesOnly _ n) (by simp), h2.unbindRelease ho,
    h3.of_changesOnly (unbindRelease_changesOnly _ n) (by simp)⟩,
    hlab.of_changesOnly (unbindRelease_changesOnly _ n) (by simp)⟩

end State.TradeOk

/-! ## The ends of a label -/

theorem freedSlot_slotRecord (s : State) (n : StationNo) (last : Option LabelRecord) (m : StationNo) :
    (s.freedSlot n last).slotRecord m = if m = n then none else s.slotRecord m := by
  have hprinter : (s.freedSlot n last).printer m = if m = n then ⟨none, (s.printer n).nextNumber, last⟩ else s.printer m :=
    State.setPrinter_printer _ n _ m
  rw [State.slotRecord, hprinter]
  split <;> rfl

theorem slotRecord_of_labels {s t : State} (h : t.labels = s.labels) (n : StationNo) :
    t.slotRecord n = s.slotRecord n := by
  unfold State.slotRecord State.printer
  rw [h]

theorem link_of_roster {s t : State} (h : t.counter.roster = s.counter.roster) (n : StationNo) : t.link n = s.link n := by
  unfold State.link State.station
  rw [h]

/-- A change of labels, ports, notices and orders frees the slot and touches no other. -/
theorem failLabel_labels (s : State) (n : StationNo) (r : LabelRecord) (cause : FailCause) :
    (s.failLabel n r cause).labels = (s.freedSlot n (s.printer n).last).labels := by
  obtain ⟨x, hx⟩ := failLabel_form s n r cause
  rw [hx, s.freeSlot_eq]
  rfl

theorem finishLabel_labels {s : State} (hl : s.LabelsOk) {n : StationNo} {x : PrintSlot}
    (hx : (s.printer n).slot = some x) :
    ∃ last, (s.finishLabel n x.record).labels = (s.freedSlot n last).labels := by
  rcases hl.slot_cases hx with ⟨b, hkind, hbody⟩ | hkind | hkind
  · refine ⟨some x.record, ?_⟩
    rw [finishLabel_item hkind hbody]
    exact (confirmItem_changesOnly _ _ _ .labels (by simp))
  · refine ⟨some x.record, ?_⟩
    rw [finishLabel_total hkind]
    exact (closePrinted_changesOnly _ _ _ .labels (by simp))
  · refine ⟨(s.printer n).last, ?_⟩
    rw [finishLabel_reprint hkind]
    rfl

namespace State.TradeOk

variable {s : State} (h : s.TradeOk)
include h

theorem failLabel {n : StationNo} {x : PrintSlot} (hx : (s.printer n).slot = some x) (cause : FailCause) :
    (s.failLabel n x.record cause).TradeOk := by
  obtain ⟨hord, hlab⟩ := h
  have hrecord : s.slotRecord n = some x.record := State.slotRecord_eq_some.mpr ⟨x, hx, rfl⟩
  constructor
  · have hfreed : ((s.freeSlot n).raise .printFailed (failedFields n x.record cause)).OrdersOk :=
      (hord.of_changesOnly (freeSlot_changesOnly s n) (by simp)).of_changesOnly (raise_changesOnly _ _ _) (by simp)
    unfold State.failLabel State.handFailure
    split
    · exact hfreed.onOrder fun o _ => o.tame_removeItem _
    · exact hfreed.onOrder fun o _ => o.tame_setState _
    · exact hfreed
  · obtain ⟨horders, hquiet⟩ := failLabel_orders hord hlab hx cause
    have hslot (m : StationNo) : (s.failLabel n x.record cause).slotRecord m = if m = n then none else s.slotRecord m :=
      (slotRecord_of_labels (failLabel_labels s n x.record cause) m).trans (freedSlot_slotRecord s n _ m)
    refine hlab.labelGone (n := n) (fun m hm => ?_) (fun m r hm _ hlink => ?_) ?_ (fun d hd => ?_) fun r hr hne => ?_
    · rw [hslot, if_neg hm]
    · rw [link_of_roster (failLabel_changesOnly s n x.record cause .roster (by simp))]
      exact hlink
    · rw [hslot, if_pos rfl]
    · exact horders d (hd _ hrecord)
    · rw [hrecord] at hr
      cases hr
      exact hquiet hne

theorem finishLabel {n : StationNo} {x : PrintSlot} (hx : (s.printer n).slot = some x) :
    (s.finishLabel n x.record).TradeOk := by
  obtain ⟨hord, hlab⟩ := h
  have hrecord : s.slotRecord n = some x.record := State.slotRecord_eq_some.mpr ⟨x, hx, rfl⟩
  constructor
  · have hfreed (last : Option LabelRecord) : (s.freedSlot n last).OrdersOk := hord
    rcases hlab.slot_cases hx with ⟨b, hkind, hbody⟩ | hkind | hkind
    · have hcounted : ((s.freedSlot n (some x.record)).countLabel n).OrdersOk := hord
      rw [finishLabel_item hkind hbody]
      exact (hcounted.onOrder fun o _ => o.tame_setItem _ _).of_changesOnly (goodsConfirmed_changesOnly _ _ _) (by simp)
    · obtain ⟨o, ho, -⟩ := hlab.of_totalSlot hx hkind
      have hcounted : ((s.freedSlot n (some x.record)).countLabel n).OrdersOk := hord
      have hkept : ((s.freedSlot n (some x.record)).countLabel n).order x.record.clerk = some o := ho
      rw [finishLabel_total hkind, closePrinted_of_some hkept]
      obtain ⟨u, ds, hu⟩ := foldl_accumulateItem_frame (o.inState .confirmed) ((s.freedSlot n (some x.record)).countLabel n)
      refine hcounted.closeOrder hkept ?_ ?_ ?_
      · rw [State.accumulate, hu]
        rfl
      · rw [State.accumulate, hu]
        rfl
      · rw [State.accumulate, hu]
        rfl
    · rw [finishLabel_reprint hkind]
      exact hord
  · obtain ⟨horders, hquiet⟩ := finishLabel_orders hord hlab hx
    obtain ⟨last, hlabels⟩ := finishLabel_labels hlab hx
    have hslot (m : StationNo) : (s.finishLabel n x.record).slotRecord m = if m = n then none else s.slotRecord m :=
      (slotRecord_of_labels hlabels m).trans (freedSlot_slotRecord s n _ m)
    refine hlab.labelGone (n := n) (fun m hm => ?_) (fun m r hm _ hlink => ?_) ?_ (fun d hd => ?_) fun r hr hne => ?_
    · rw [hslot, if_neg hm]
    · rw [link_of_roster (finishLabel_changesOnly s n x.record .roster (by simp))]
      exact hlink
    · rw [hslot, if_pos rfl]
    · exact horders d (hd _ hrecord)
    · rw [hrecord] at hr
      cases hr
      exact hquiet hne

end State.TradeOk

end Sys2Proof.Machine

end

section
/-! The laws of orders and labels through reports, losses, enrolments, sessions and the lines (05, 08, 09). -/

namespace Sys2Proof.Machine

/-- Unbinding a station's clerk and changing a roster entry, in either order. -/
theorem unbindRelease_setStation (s : State) (n m : StationNo) (x : RosterEntry) :
    (s.setStation m x).unbindRelease n = (s.unbindRelease n).setStation m x := by
  have hroster : (s.unbindRelease n).counter.roster = s.counter.roster :=
    unbindRelease_changesOnly s n .roster (by simp)
  have hset : s.setStation m x = s.withRoster (s.counter.roster.put m x) := rfl
  rw [hset, unbindRelease_withRoster, State.setStation, hroster]
  rfl

/-- A session is opened where no label stands and no order is held. -/
theorem openTests_free {s : State} {st : StationNo} (h : firstOf (openTests s st) = none) :
    s.slotRecord st = none ∧ s.holding st = none := by
  have hbusy : s.slotBusy st = false ∧ s.holding st = none := by
    simpa using firstOf_eq_none.mp h (s.slotBusy st || (s.holding st).isSome, .stationBusy) (by simp [openTests])
  refine ⟨?_, hbusy.2⟩
  have hslot : (s.printer st).slot = none := Option.isSome_eq_false_iff.mp hbusy.1 |> Option.isNone_iff_eq_none.mp
  rw [State.slotRecord, hslot]
  rfl

/-- A station whose slot is FREE holds no order with a label in flight. -/
theorem State.LabelsOk.quiet_of_free {s : State} (h : s.LabelsOk) {n : StationNo} (hfree : s.slotRecord n = none)
    {c : ClerkNo} {o : Order} (ho : s.order c = some o) (hn : o.holder = some n) : s.Quiet c := by
  intro u hu
  cases ho.symm.trans hu
  refine h.of_otherSlot (fun x hx => ?_) ho hn
  rw [State.slotRecord_eq_some.mpr ⟨x, hx, rfl⟩] at hfree
  cases hfree

/-- A hub with no order, no binding and no label. -/
theorem State.TradeOk.of_empty {s : State} (horder : ∀ c, s.order c = none) (hbound : ∀ c, (s.clerk c).bound = none)
    (hcount : s.totals.openOrders = 0) (hlast : s.orders.lastOrderNumber = 0) (hslot : ∀ n, s.slotRecord n = none) :
    s.TradeOk := by
  have hopen : s.openOrderCount = 0 := openOrderCount_eq_zero.mpr horder
  have hnone {c : ClerkNo} {o : Order} (ho : o ∈ s.order c) : False := by
    rw [horder] at ho
    cases ho
  have hunbound {c : ClerkNo} {n : StationNo} (hn : n ∈ (s.clerk c).bound) : False := by
    rw [hbound] at hn
    cases hn
  have hpool : s.poolUsed = 0 := by
    rw [State.poolUsed, List.length_eq_zero_iff.mp hopen]
    rfl
  refine ⟨⟨fun c o ho => (hnone ho).elim, fun c d n hn => (hunbound hn).elim, fun c d o ho => (hnone ho).elim, ?_, ?_,
    fun _ => hopen, fun c n hn => (hunbound hn).elim, ?_⟩, ?_⟩
  · rw [hpool]
    exact Nat.zero_le _
  · rw [hcount, hopen]
  · rw [hlast]
    exact Nat.zero_le _
  · refine State.labelsOk_iff.mpr ⟨fun n r hr => ?_, fun c m i hi => ?_, fun c m hc => ?_⟩
    · rw [hslot] at hr
      cases hr
    · obtain ⟨o, ho, -⟩ := hi
      exact (hnone ho).elim
    · obtain ⟨o, ho, -⟩ := hc
      exact (hnone ho).elim

namespace State.TradeOk

theorem ite {s t : State} {c : Prop} [Decidable c] (h : s.TradeOk) (k : t.TradeOk) : (if c then s else t).TradeOk := by
  split
  · exact h
  · exact k

/-! ## Reports and deadlines (R98 to R101) -/

theorem matching_slot {s : State} {n : StationNo} {k : Nat} {r : LabelRecord} (hr : s.matching n k = some r) :
    ∃ x, (s.printer n).slot = some x ∧ x.record = r := by
  cases hx : (s.printer n).slot with
  | none =>
    rw [matching_of_free k hx] at hr
    cases hr
  | some x =>
    rw [matching_of_slot k hx] at hr
    split at hr
    · exact ⟨x, rfl, Option.some_injective _ hr⟩
    · cases hr

variable {s : State} (h : s.TradeOk)
include h

theorem printDone (n : StationNo) (k : Nat) : (s.printDone n k).TradeOk := by
  unfold State.printDone
  split
  · next r hr =>
    obtain ⟨x, hx, rfl⟩ := matching_slot hr
    exact h.finishLabel hx
  · exact h

theorem printFail (n : StationNo) (k : Nat) : (s.printFail n k).TradeOk := by
  unfold State.printFail
  split
  · next r hr =>
    obtain ⟨x, hx, rfl⟩ := matching_slot hr
    exact h.failLabel hx .fail
  · exact h

theorem deadlineExpired (n : StationNo) : (s.deadlineExpired n).TradeOk := by
  unfold State.deadlineExpired
  split
  · next x hx => exact ite (h.failLabel hx .timeout) h
  · exact h

/-- A station's composer changed but for the record in its slot. -/
theorem setPrinter {n : StationNo} {x : LabelStation} (hx : x.slot.map (·.record) = s.slotRecord n) :
    (s.setPrinter n x).TradeOk := by
  refine h.of_kept rfl rfl rfl (fun m => ?_) fun _ hm => hm
  rw [State.slotRecord, State.setPrinter_printer]
  split
  · next e => rw [hx, e]
  · rfl

theorem setDeadline (n : StationNo) (f : TxFrame) : (s.setDeadline n f).TradeOk := by
  unfold State.setDeadline
  split
  · exact h
  · next x hx =>
    refine ite (h.setPrinter ?_) h
    rw [State.slotRecord, hx]
    rfl

/-! ## Loss and enrolment (R152 to R156) -/

theorem onPort (p : Port) (f : LinkPort → LinkPort) : (s.onPort p f).TradeOk :=
  h.of_changesOnly (changesOnly_ports s _) (by simp)

theorem loseLabels (n : StationNo) : (s.loseLabels n).TradeOk ∧ (s.loseLabels n).slotRecord n = none := by
  have hslot : (s.loseLabels n).slotRecord n = none := by
    obtain ⟨x, hx⟩ := loseLabels_form s n
    rw [slotRecord_of_labels (s := s.freedSlot n none) (by rw [hx]), freedSlot_slotRecord, if_pos rfl]
  refine ⟨?_, hslot⟩
  cases hx : (s.printer n).slot with
  | none =>
    rw [loseLabels_of_free hx]
    have hfreed : (s.freeSlot n).TradeOk := (h.setPrinter (by rw [State.slotRecord, hx])).onPort _ _
    exact hfreed.setPrinter rfl
  | some x =>
    rw [loseLabels_of_slot hx]
    exact (h.failLabel hx .lost).setPrinter rfl

theorem parkHeld {n : StationNo} (hfree : s.slotRecord n = none) : (s.parkHeld n).TradeOk := by
  unfold State.parkHeld
  split
  · exact h
  · next c hc =>
    obtain ⟨o, ho, hn⟩ := s.holding_held hc
    exact h.park (h.2.quiet_of_free hfree ho hn)

/-- A station's clerk unbound, where the station holds no order. -/
theorem unbindRelease_of_held {n : StationNo} (hheld : ∀ c, ∀ o ∈ s.order c, o.holder ≠ some n) :
    (s.unbindRelease n).TradeOk := by
  obtain ⟨-, hbindings, -⟩ := State.ordersOk_iff.mp h.1
  exact h.unbindRelease fun c hc o ho => hbindings.holder_none (.inl (s.boundClerk_bound hc)) ho (hheld c o ho)

theorem detach (n : StationNo) : (s.detach n).TradeOk := by
  obtain ⟨hlost, hfree⟩ := h.loseLabels n
  have hparked := hlost.parkHeld hfree
  have hparkedFree : ((s.loseLabels n).parkHeld n).slotRecord n = none :=
    (slotRecord_of_labels (parkHeld_changesOnly _ n .labels (by simp)) n).trans hfree
  obtain ⟨-, hlostBindings, -⟩ := State.ordersOk_iff.mp hlost.1
  obtain ⟨-, hbindings, -⟩ := State.ordersOk_iff.mp hparked.1
  have hunbound := hparked.unbindRelease_of_held (n := n) fun c o ho => hlostBindings.parkHeld_held n c o ho
  refine (setStation ?_ (.inr ⟨fun d => ?_, ?_⟩)).onPort _ _
  · exact hunbound.of_changesOnly (clearContext_changesOnly _ n) (by simp)
  · exact hbindings.unbindRelease_bound n d
  · exact (slotRecord_of_labels (unbindRelease_changesOnly _ n .labels (by simp)) n).trans hparkedFree

theorem loseIfPresent (n : StationNo) : (s.loseIfPresent n).TradeOk :=
  ite h ((h.detach n).of_changesOnly (raise_changesOnly _ _ _) (by simp))

theorem enrolAbsent {n : StationNo} (hn : s.link n = .absent) (r : StationRecord) : (s.enrolAbsent n r).TradeOk := by
  have hne : s.link n ≠ .enrolled := by rw [hn]; simp
  obtain ⟨-, hbindings, -⟩ := State.ordersOk_iff.mp h.1
  exact (h.setStation (.inr ⟨hbindings.unbound_of_link hne, h.slot_free hne⟩)).of_changesOnly
    (clearContext_changesOnly _ n) (by simp)

theorem enrolRequest (n : StationNo) (p : List Byte) : (enrolRequest n p s).1.TradeOk := by
  unfold Machine.enrolRequest
  split
  · exact h
  · next r _ =>
    change (State.enrolAbsent _ n r).TradeOk
    split
    · next hn => exact h.enrolAbsent hn r
    · exact (h.detach n).enrolAbsent (State.setStation_link_same _ n absentEntry) r

/-! ## Service sessions (R163, R170, R171) -/

theorem openSession {st : StationNo} (ht : firstOf (openTests s st) = none) : (s.openSession st).TradeOk := by
  obtain ⟨hslot, hholding⟩ := openTests_free ht
  unfold State.openSession
  dsimp only
  rw [unbindRelease_setStation]
  refine of_changesOnly (setStation (unbindRelease_of_held ?_ ?_) (.inr ⟨fun d => ?_, ?_⟩))
    (emptyWindow_changesOnly _ st) (by simp)
  · exact h
  · exact fun c o ho => s.holding_eq_none.mp hholding c o ho
  · obtain ⟨-, hbindings, -⟩ := State.ordersOk_iff.mp h.1
    exact State.BindingsOk.unbindRelease_bound (s := State.onLock s _) hbindings st d
  · exact (slotRecord_of_labels (unbindRelease_changesOnly _ st .labels (by simp)) st).trans hslot

theorem serviceKeyRequest (p : List Byte) : (serviceKeyRequest p s).1.TradeOk := by
  have hjudged (st : StationNo) (ws : List Word32) : (judgeKey s st ws).1.TradeOk := by
    unfold judgeKey
    split
    · split
      · exact h
      · next hopen => exact h.openSession hopen
    · exact h.of_changesOnly (failKey_changesOnly s st) (by simp)
  dsimp only [Machine.serviceKeyRequest]
  split
  · exact h
  · exact h
  · exact h
  · split
    · exact h
    · exact hjudged _ _

theorem endUnchanged (st : StationNo) : (s.endUnchanged st).TradeOk :=
  have hidle : s.idleSession.TradeOk := h
  ite ((hidle.leaveService st).of_changesOnly (emptyWindow_changesOnly _ st) (by simp)) hidle

theorem closeSession (st : StationNo) (f : CalFields) (key : Option (List Word32)) :
    (s.closeSession st f key).TradeOk := by
  refine ite (leaveService ?_ st) (endUnchanged ?_ st)
  · exact ((h.of_changesOnly (commitCal_changesOnly s st f) (by simp)).of_changesOnly (commitKey_changesOnly _ key)
      (by simp)).of_changesOnly (idleSession_changesOnly _) (by simp)
  · exact h.of_changesOnly (commitKey_changesOnly s key) (by simp)

theorem serviceCloseRequest (p : List Byte) : (serviceCloseRequest p s).1.TradeOk := by
  unfold Machine.serviceCloseRequest inOpen
  split
  · dsimp only
    split
    · exact h
    · split
      · exact h
      · exact closeSession (s := s.restartInactivity) h _ _ _
  all_goals exact h

theorem serviceAbandonRequest (p : List Byte) : (serviceAbandonRequest p s).1.TradeOk := by
  unfold Machine.serviceAbandonRequest
  split
  · exact h
  · exact h
  · exact h
  · exact h.endUnchanged _

theorem inactivityExpired : s.inactivityExpired.TradeOk := by
  unfold State.inactivityExpired
  split
  · exact ite (h.endUnchanged _) h
  all_goals exact h

/-! ## The counter and the lines (R139 to R147) -/

omit h in
/-- Right after the power-on handling there is no order, no binding and no label. -/
theorem powerOn (s : State) : s.powerOn.TradeOk := by
  have horder (c : ClerkNo) : s.checkMarker.initVolatile.countLost.order c = none := by
    have hnone (t : State) : t.initVolatile.order c = none := Table.get_fill _ _
    rw [State.countLost_eq]
    exact hnone s.checkMarker
  have hclerk (t : State) (c : ClerkNo) : t.initVolatile.clerk c = { t.clerk c with bound := none } :=
    Table.get_each t.orders.clerks (fun e => { e with bound := none }) c
  have hprinter (t : State) (n : StationNo) : t.initVolatile.printer n = { t.printer n with slot := none, last := none } :=
    Table.get_each t.labels (fun x => { x with slot := none, last := none }) n
  have hinit : s.checkMarker.initVolatile.countLost.TradeOk := by
    generalize s.checkMarker = t at *
    have hsame : t.initVolatile.countLost.orders = t.initVolatile.orders
        ∧ t.initVolatile.countLost.labels = t.initVolatile.labels ∧ t.initVolatile.countLost.totals.openOrders = 0 := by
      rw [State.countLost_eq]
      exact ⟨rfl, rfl, rfl⟩
    obtain ⟨horders, hlabels, hcount⟩ := hsame
    refine of_empty horder (fun c => ?_) hcount ?_ fun n => ?_
    · rw [State.clerk, horders]
      exact congrArg (·.bound) (hclerk t c)
    · rw [horders]
      rfl
    · rw [slotRecord_of_labels hlabels, State.slotRecord, hprinter]
      rfl
  have hopen : s.checkMarker.initVolatile.countLost.dayCheck.openOrderCount = 0 := by
    refine openOrderCount_eq_zero.mpr fun c => ?_
    have horders : s.checkMarker.initVolatile.countLost.dayCheck.orders.orders
        = s.checkMarker.initVolatile.countLost.orders.orders :=
      congrArg Prod.fst (dayCheck_changesOnly _ .orders (by simp))
    rw [State.order, horders]
    exact horder c
  exact ((hinit.of_changesOnly (dayCheck_changesOnly _) (by simp)).enterState fun _ => hopen).of_changesOnly
    (changesOnly_beat _ _) (by simp)

theorem enterReset : s.enterReset.TradeOk := by
  refine h.of_kept rfl rfl rfl (fun n => ?_) fun n hn => ?_
  · have hprinter : s.enterReset.printer n = (s.printer n).stopped := Table.get_each s.labels LabelStation.stopped n
    rw [State.slotRecord, hprinter, State.slotRecord, LabelStation.stopped, Option.map_map]
    rfl
  · have hstation : s.enterReset.station n = { s.station n with silence := none } :=
      Table.get_each s.counter.roster (fun r => { r with silence := none }) n
    rw [State.link, hstation]
    exact hn

theorem openCounterRequest (p : List Byte) : (openCounterRequest p s).1.TradeOk := by
  unfold Machine.openCounterRequest
  split
  · exact h.enterState (by simp)
  all_goals exact h

theorem closeCounterRequest (p : List Byte) : (closeCounterRequest p s).1.TradeOk := by
  unfold Machine.closeCounterRequest
  split
  · exact h
  · change s.closeCounter.TradeOk
    unfold State.closeCounter
    split
    · split
      · next hnone => exact h.enterState fun _ => hnone
      · exact h.enterState (by simp)
    all_goals exact h

theorem holdReleased : s.holdReleased.TradeOk := by
  have hline : State.TradeOk { s with loadHold := false } := h
  unfold State.holdReleased State.closeFromLoading
  split
  · exact hline
  · split
    · next hloading =>
      obtain ⟨-, -, hcount⟩ := State.ordersOk_iff.mp h.1
      refine hline.enterState fun _ => hcount.2 ?_
      have hl : s.counter.state = .loading := hloading
      rw [State.trading, hl]
      rfl
    · exact hline

end State.TradeOk

end Sys2Proof.Machine

end

section
/-! The laws of orders and labels through the requests about clerks and orders (04). -/

namespace Sys2Proof.Machine

theorem Order.tame_refl (o : Order) : o.Tame o := ⟨rfl, id, le_rfl, .inr rfl⟩

theorem Order.tame_leaving (b : Option StationNo) (n : StationNo) (o : Order) : o.Tame (o.leaving b n) := by
  unfold Order.leaving
  split
  · exact o.tame_release
  · exact o.tame_refl

theorem Order.leaving_labelInFlight (b : Option StationNo) (n : StationNo) (o : Order) :
    (o.leaving b n).labelInFlight = o.labelInFlight := by
  unfold Order.leaving
  split <;> rfl

theorem Order.SameFlight.refl (o : Order) : o.SameFlight o := ⟨rfl, rfl, fun _ _ => Iff.rfl⟩

/-- Moving a clerk's binding changes the clerks alone. -/
theorem moved_changesOnly (s : State) (c : ClerkNo) (n : StationNo) : ChangesOnly [.clerks] s (s.moved c n) := by
  obtain ⟨k, hk⟩ := s.moved_clerks c n
  rw [hk]
  exact changesOnly_clerks s k

/-- Outside trading no order is open. -/
theorem State.OrdersOk.order_none {s : State} (h : s.OrdersOk) (ht : s.trading = false) (c : ClerkNo) :
    s.order c = none := by
  obtain ⟨-, -, -, -, -, hidle, -⟩ := h
  exact openOrderCount_eq_zero.mp (hidle ht) c

/-- Voiding an item that is not PENDING leaves what is in flight. -/
theorem Order.sameFlight_void {o : Order} {k : Nat} (hk : ∀ i ∈ o.items, i.number = k → i.state ≠ .pending) :
    o.SameFlight (o.setItem k .voided) where
  holder := rfl
  state := rfl
  items i hpending := by
    constructor
    · intro hi
      obtain ⟨j, hj, hji⟩ := List.mem_map.mp hi
      split at hji
      · rw [← hji] at hpending
        cases hpending
      · exact hji ▸ hj
    · intro hi
      refine List.mem_map.mpr ⟨i, hi, if_neg fun hnumber => hk i hi hnumber hpending⟩

/-- What a sign-on leaves of the clerk's order is held at the station of the sign-on, or nowhere. -/
theorem State.BindingsOk.leaving_holder {s : State} (h : s.BindingsOk) {c : ClerkNo} {n : StationNo} {o : Order}
    (ho : s.order c = some o) : ∀ m ∈ (o.leaving (s.clerk c).bound n).holder, m = n := by
  intro m hm
  obtain ⟨hbound, -⟩ := h
  unfold Order.leaving at hm
  split at hm
  · cases hm
  · next hstays =>
    have hbm := hbound c o ho m hm
    by_contra hmn
    refine hstays ⟨fun e => hmn (Option.some_injective _ (hbm.symm.trans e)), ?_, hm.trans hbm.symm⟩
    rw [hbm]
    simp

/-- A sign-on past its tests leaves an order with a label in flight as it is. -/
theorem State.leaving_of_inFlight {s : State} {c : ClerkNo} {n : StationNo} {o : Order} (h : ¬s.heldInFlight c n = true)
    (ho : s.order c = some o) (hin : o.labelInFlight = true) : o.leaving (s.clerk c).bound n = o := by
  refine if_neg ?_
  rintro ⟨hne, hsome, hholder⟩
  obtain ⟨m, hm⟩ := Option.ne_none_iff_exists'.mp hsome
  refine h ((s.heldInFlight_iff c n).mpr ⟨m, o, hm, ?_, ho, hholder.trans hm, hin⟩)
  rintro rfl
  exact hne hm

namespace State.TradeOk

variable {s : State} (h : s.TradeOk)
include h

/-! ## CLERK ON, CLERK OFF and CLERK WRITE (R63 to R66) -/

theorem signOn {c : ClerkNo} {n : StationNo} (hn : s.link n = .enrolled)
    (hbusy : ¬((s.holding n).isSome && s.holding n != some c) = true) (hflight : ¬s.heldInFlight c n = true) :
    (s.signOn c n).TradeOk := by
  obtain ⟨hord, hlab⟩ := h
  have hheld (d : ClerkNo) (hd : d ≠ c) (o : Order) (ho : o ∈ s.order d) : o.holder ≠ some n := fun hon =>
    hbusy ((hord.busyElsewhere_iff n c).mpr ⟨d, o, hd, ho, hon⟩)
  obtain ⟨h1, h2, h3⟩ := State.ordersOk_iff.mp hord
  have horder (d : ClerkNo) : (s.signOn c n).order d
      = if d = c then (s.order c).map (Order.leaving (s.clerk c).bound n) else s.order d := by
    rw [s.signOn_eq, State.moved_order]
    exact State.setOrder_order ..
  have hmoved := moved_changesOnly (s.onOrder c (Order.leaving (s.clerk c).bound n)) c n
  have hroster : (s.signOn c n).counter.roster = s.counter.roster := signOn_changesOnly s c n .roster (by simp)
  have hlabels : (s.signOn c n).labels = s.labels := signOn_changesOnly s c n .labels (by simp)
  refine ⟨State.ordersOk_iff.mpr ⟨?_, ?_, ?_⟩, ?_⟩
  · rw [s.signOn_eq]
    exact (h1.onOrder fun o _ => o.tame_leaving _ n).of_changesOnly hmoved (by simp)
  · refine h2.rebound hn hheld (fun d => ?_) (fun d hd => ?_) (fun u hu m hm => ?_) (link_of_roster hroster)
    · obtain ⟨-, hunique, -⟩ := h2
      rw [s.signOn_eq, State.moved_clerk (s := s.setOrder c _) hunique]
      rfl
    · rw [horder, if_neg hd]
    · rw [horder, if_pos rfl] at hu
      obtain ⟨o, ho, rfl⟩ := Option.map_eq_some_iff.mp hu
      exact h2.leaving_holder ho m hm
  · rw [s.signOn_eq]
    exact (h3.onOrder c _).of_changesOnly hmoved (by simp)
  · have hothers (d : ClerkNo) (hd : d ≠ c) : (s.signOn c n).order d = s.order d := by rw [horder, if_neg hd]
    have hc : (s.signOn c n).order c = (s.order c).map (Order.leaving (s.clerk c).bound n) := by rw [horder, if_pos rfl]
    by_cases hquiet : s.Quiet c
    · refine hlab.of_quiet hothers hlabels (link_of_roster hroster) hquiet fun u hu => ?_
      rw [hc] at hu
      obtain ⟨o, ho, rfl⟩ := Option.map_eq_some_iff.mp hu
      rw [o.leaving_labelInFlight]
      exact hquiet o ho
    · unfold State.Quiet at hquiet
      push Not at hquiet
      obtain ⟨o, ho, hin⟩ := hquiet
      refine hlab.of_sameFlight hothers hlabels (link_of_roster hroster) ho ?_ (.refl o)
      rw [hc, ho, Option.map_some, State.leaving_of_inFlight hflight ho (by simpa using hin)]

theorem clerkOnRequest (n : StationNo) (p : List Byte) : (clerkOnRequest n p s).1.TradeOk := by
  cases hl : s.link n with
  | absent =>
    rw [clerkOnRequest_of_absent p hl]
    exact h
  | service =>
    rw [clerkOnRequest_of_service p hl]
    exact h
  | enrolled =>
    cases hp : decodeClerkOn p with
    | none =>
      rw [clerkOnRequest_of_badValue hl hp]
      exact h
    | some x =>
      rw [clerkOnRequest_of_clerk hl hp]
      split_ifs with _ hbusy hflight
      · exact h
      · exact h
      · exact h
      · exact h.signOn hl hbusy hflight

theorem parkIfHeld {c : ClerkNo} {n : StationNo}
    (hquiet : ∀ o, s.order c = some o → o.holder = some n → o.labelInFlight = false) :
    (s.parkIfHeld c n).TradeOk := by
  unfold State.parkIfHeld
  split
  · next o ho =>
    split
    · next hn =>
      refine h.park fun u hu => ?_
      cases ho.symm.trans hu
      exact hquiet o ho hn
    · exact h
  · exact h

theorem clerkOffRequest (n : StationNo) (p : List Byte) : (clerkOffRequest n p s).1.TradeOk := by
  unfold Machine.clerkOffRequest
  split
  · exact h
  · exact h
  · next c _ hc =>
    split
    · exact h
    · next hflight =>
      have hparked := h.parkIfHeld (c := c) (n := n) fun o ho hn => by
        by_contra hin
        exact hflight ((s.holds_and_inFlight_iff n c).mpr ⟨o, ho, hn, by simpa using hin⟩)
      refine hparked.unbindRelease fun d hd u hu => ?_
      have hbound : (s.parkIfHeld c n).boundClerk n = s.boundClerk n := by
        rw [State.parkIfHeld_eq]
        rfl
      obtain ⟨-, hbindings, -⟩ := State.ordersOk_iff.mp hparked.1
      refine hbindings.holder_none (.inl (State.boundClerk_bound _ hd)) hu ?_
      rw [hbound, hc] at hd
      cases hd
      rw [Option.mem_def, State.parkIfHeld_eq, State.setOrder_order_same] at hu
      obtain ⟨o, -, rfl⟩ := Option.map_eq_some_iff.mp hu
      unfold Order.letGo
      split
      · simp
      · assumption

/-- A clerk's entry changed, with the bindings' laws kept. -/
theorem setClerk {c : ClerkNo} {x : ClerkEntry} (hbindings : (s.setClerk c x).BindingsOk) : (s.setClerk c x).TradeOk := by
  obtain ⟨hord, hlab⟩ := h
  obtain ⟨h1, -, h3⟩ := State.ordersOk_iff.mp hord
  have hclerks : ChangesOnly [.clerks] s (s.setClerk c x) := changesOnly_clerks s _
  exact ⟨State.ordersOk_iff.mpr ⟨h1.of_changesOnly hclerks (by simp), hbindings, h3.of_changesOnly hclerks (by simp)⟩,
    hlab.of_changesOnly hclerks (by simp)⟩

/-- The binding of a clerk without an order ended as CLERK OFF ends one. -/
theorem unboundClerk {c : ClerkNo} (ho : s.order c = none) (n : StationNo) :
    (((s.parkIfHeld c n).bind c none).releaseServing c).TradeOk := by
  have hkept : s.parkIfHeld c n = s := by
    unfold State.parkIfHeld
    rw [ho]
  obtain ⟨-, h2, -⟩ := State.ordersOk_iff.mp h.1
  rw [hkept]
  exact (h.setClerk (h2.unbind fun o hc => by rw [ho] at hc; cases hc)).of_changesOnly (releaseServing_changesOnly _ c)
    (by simp)

theorem writeClerk (hidle : s.trading = false) (c : ClerkNo) (code : Nat) (enabled : Bool) :
    (s.writeClerk c code enabled).TradeOk := by
  have hnone := h.1.order_none hidle
  have hwritten : (s.setClerk c { s.clerk c with code := code, enabled := enabled }).TradeOk := by
    obtain ⟨-, h2, -⟩ := State.ordersOk_iff.mp h.1
    refine h.setClerk (h2.of_bound (fun d => ?_) (fun _ => rfl) fun _ => rfl)
    rw [State.setClerk_clerk]
    split
    · next e => rw [e]
    · rfl
  unfold State.writeClerk
  split
  · exact ite hwritten (hwritten.unboundClerk (hnone c) _)
  · exact hwritten

theorem clerkWriteRequest (p : List Byte) : (clerkWriteRequest p s).1.TradeOk := by
  unfold Machine.clerkWriteRequest
  split
  · exact h
  · next hidle =>
    split
    · exact h
    · exact h.writeClerk (by simpa using hidle) _ _ _

/-! ## VOID ITEM, PARK ORDER and CLAIM ORDER (R75 to R78) -/

theorem voidItemRequest (n : StationNo) (p : List Byte) : (voidItemRequest n p s).1.TradeOk := by
  dsimp only [Machine.voidItemRequest]
  split
  · exact h
  · exact h
  · next c _ _ =>
    split
    · exact h
    · next o ho =>
      split
      · exact h
      · next htests =>
        obtain ⟨hord, hlab⟩ := h
        have hnoItem := firstOf_eq_none.mp htests
          ((o.find (natAt p 0 1)).map (·.state) == none || (o.find (natAt p 0 1)).map (·.state) == some .voided, .noItem)
          (by simp [voidTests])
        have hbusy := firstOf_eq_none.mp htests ((o.find (natAt p 0 1)).map (·.state) == some .pending, .busy)
          (by simp [voidTests])
        have hpending (i : Item) (hi : i ∈ o.items) (hnumber : i.number = natAt p 0 1) : i.state ≠ .pending := by
          intro hp
          cases hfind : o.find (natAt p 0 1) with
          | none => simp [hfind] at hnoItem
          | some j =>
            have hj : j ∈ o.items := List.mem_of_find?_eq_some hfind
            have hjk : j.number = natAt p 0 1 := by simpa using List.find?_some hfind
            obtain ⟨hok, -⟩ := hord
            rw [(hok c o ho).1.item_unique hi hj (hnumber.trans hjk.symm)] at hp
            simp [hfind, hp] at hbusy
        refine ⟨hord.onOrder fun u _ => u.tame_setItem _ _, ?_⟩
        refine hlab.of_sameFlight (c := c) (fun d hd => ?_) rfl (fun _ => rfl) ho ?_ (o.sameFlight_void hpending)
        · exact (State.setOrder_order _ c _ d).trans (if_neg hd)
        · rw [State.onOrder_of_some ho, State.setOrder_order_same]

theorem parkOrderRequest (n : StationNo) (p : List Byte) : (parkOrderRequest n p s).1.TradeOk := by
  unfold Machine.parkOrderRequest
  split
  · exact h
  · exact h
  · next c _ _ =>
    split
    · exact h
    · next o ho =>
      split
      · exact h
      · next htests =>
        refine h.park fun u hu => ?_
        cases ho.symm.trans hu
        exact firstOf_eq_none.mp htests (o.labelInFlight, .orderBusy) (by simp)

theorem claim {c : ClerkNo} {n : StationNo} {o : Order} (hn : s.link n = .enrolled)
    (hbusy : ¬((s.holding n).isSome && s.holding n != some c) = true) (ho : s.order c = some o)
    (hflight : o.labelInFlight = false) : (s.claim c n).TradeOk := by
  obtain ⟨hord, hlab⟩ := h
  have hheld (d : ClerkNo) (hd : d ≠ c) (u : Order) (hu : u ∈ s.order d) : u.holder ≠ some n := fun hon =>
    hbusy ((hord.busyElsewhere_iff n c).mpr ⟨d, u, hd, hu, hon⟩)
  obtain ⟨h1, h2, h3⟩ := State.ordersOk_iff.mp hord
  have hmoved := moved_changesOnly s c n
  have horder (d : ClerkNo) : (s.claim c n).order d
      = if d = c then some { o with holder := some n, revision := (o.revision + 1) % 65536 } else s.order d := by
    rw [State.claim_eq ho, State.setOrder_order, State.moved_order]
  have hroster : (s.claim c n).counter.roster = s.counter.roster := claim_changesOnly s c n .roster (by simp)
  refine ⟨State.ordersOk_iff.mpr ⟨?_, ?_, ?_⟩, ?_⟩
  · have hcurrent : (s.moved c n).order c = some o := (s.moved_order c n c).trans ho
    have hlist := h1.of_changesOnly hmoved (by simp)
    rw [State.claim_eq ho]
    refine hlist.setOrder ?_ ?_ ?_
    · rintro _ ⟨⟩
      obtain ⟨hok, -⟩ := h1
      obtain ⟨ha, hb, -, hd, he, hf, hg, hi⟩ := hok c o ho
      exact ⟨ha, hb, stepRevision_lt _, hd, he, hf, hg, hi⟩
    · rintro _ ⟨⟩ d hd u hu
      exact hlist.number_ne hcurrent d hd u hu
    · obtain ⟨-, -, hpool, -⟩ := hlist
      rw [hcurrent]
      exact Nat.add_le_add_right hpool _
  · refine h2.rebound hn hheld (fun d => ?_) (fun d hd => ?_) (fun u hu m hm => ?_) (link_of_roster hroster)
    · obtain ⟨-, hunique, -⟩ := h2
      rw [State.claim_eq ho, State.setOrder_clerk, State.moved_clerk hunique]
    · rw [horder, if_neg hd]
    · rw [horder, if_pos rfl] at hu
      cases hu
      exact (Option.some_injective _ hm).symm
  · exact (h3.of_changesOnly hmoved (by simp)).onOrder c _
  · refine hlab.of_quiet (c := c) (fun d hd => ?_) (claim_changesOnly s c n .labels (by simp)) (link_of_roster hroster)
      (fun u hu => ?_) fun u hu => ?_
    · rw [horder, if_neg hd]
    · cases ho.symm.trans hu
      exact hflight
    · rw [horder, if_pos rfl] at hu
      cases hu
      exact hflight

theorem claimOrderRequest (n : StationNo) (p : List Byte) : (claimOrderRequest n p s).1.TradeOk := by
  cases hl : s.link n with
  | absent =>
    rw [claimOrderRequest_of_absent p hl]
    exact h
  | service =>
    rw [claimOrderRequest_of_service p hl]
    exact h
  | enrolled =>
    cases hp : decodeClaim p with
    | none =>
      rw [claimOrderRequest_of_badValue hl hp]
      exact h
    | some x =>
      obtain ⟨c, holder, revision⟩ := x
      cases ho : s.order c with
      | none =>
        rw [claimOrderRequest_of_noOrder hl hp ho]
        exact h
      | some o =>
        rw [claimOrderRequest_of_order hl hp ho]
        split_ifs with hbusy _ hflight
        · exact h
        · exact h
        · exact h
        · exact h.claim hl hbusy ho (by simpa using hflight)

end State.TradeOk

end Sys2Proof.Machine

end

section
/-! The laws of orders and labels through sales, closes and reprints (03, 04, 05). -/

namespace Sys2Proof.Machine

/-- Composing puts the record of the next number into the slot of its station. -/
theorem compose_slotRecord (s : State) (n : StationNo) (mk : Nat → LabelRecord) (m : StationNo) :
    (s.compose n mk).slotRecord m = if m = n then some (mk (s.printer n).nextNumber) else s.slotRecord m := by
  have hprinter : (s.compose n mk).printer m
      = if m = n then { s.printer n with
          slot := some ⟨mk (s.printer n).nextNumber, none⟩, nextNumber := nextLabel (s.printer n).nextNumber }
        else s.printer m := State.setPrinter_printer s n _ m
  rw [State.slotRecord, hprinter]
  split <;> rfl

/-- Opening the order that a sale joins takes no slot of the pool. -/
theorem withOrder_poolUsed (s : State) (c : ClerkNo) (n : StationNo) : (s.withOrder c n).poolUsed = s.poolUsed := by
  unfold State.withOrder
  split
  · next ho =>
    have hset := (openOrders_setOrder s c (some (newOrder s.nextOrderNumber n s.clock ((s.serving c).map (·.number))))).2
    rw [Option.isNone_iff_eq_none.mp ho] at hset
    exact hset
  · rfl

/-- An item with the next number taken into an order with room, the pool not full. -/
theorem State.OrdersOk.allocate {s : State} (h : s.OrdersOk) {c : ClerkNo} {o : Order} {i : Item} (ho : s.order c = some o)
    (hnumber : i.number = o.nextItem) (hroom : o.items.length < Config.itemsPerOrder)
    (hnext : o.nextItem < Config.itemNumbersEnd) (hpool : s.poolUsed < Config.poolSlots) :
    (s.onOrder c (·.allocate i)).OrdersOk := by
  rw [State.ordersOk_iff] at *
  obtain ⟨h1, h2, h3⟩ := h
  refine ⟨h1.allocate ho hnumber hroom hnext hpool, ?_, h3.onOrder c _⟩
  rw [State.onOrder_of_some ho]
  refine h2.setOrder ?_
  rintro _ ⟨⟩ m hm
  obtain ⟨hbound, -⟩ := h2
  exact hbound c o ho m hm

/-! ## What an allocated item brings in flight -/

section
variable {s t : State} {c : ClerkNo} {o : Order} {i : Item} (ho : s.order c = some o)
  (hown : t.order c = some (o.allocate i)) (hothers : ∀ d, d ≠ c → t.order d = s.order d)
include ho hown hothers

theorem State.pending_allocate (d : ClerkNo) (m : Option StationNo) (j : Item) :
    t.Pending d m j ↔ s.Pending d m j ∨ (d = c ∧ o.holder = m ∧ j = i ∧ i.state = .pending) := by
  by_cases hd : d = c
  · subst hd
    constructor
    · rintro ⟨u, hu, hm, hmem, hp⟩
      cases hown.symm.trans hu
      rcases List.mem_append.mp hmem with hmem | hmem
      · exact .inl ⟨o, ho, hm, hmem, hp⟩
      · obtain rfl := List.mem_singleton.mp hmem
        exact .inr ⟨rfl, hm, rfl, hp⟩
    · rintro (⟨u, hu, hm, hmem, hp⟩ | ⟨-, hm, rfl, hp⟩)
      · cases ho.symm.trans hu
        exact ⟨_, hown, hm, List.mem_append_left _ hmem, hp⟩
      · exact ⟨_, hown, hm, List.mem_append_right _ (List.mem_singleton_self j), hp⟩
  · rw [State.pending_congr (hothers d hd)]
    exact (or_iff_left fun hdc => hd hdc.1).symm

theorem State.closing_allocate (d : ClerkNo) (m : Option StationNo) : t.Closing d m ↔ s.Closing d m := by
  by_cases hd : d = c
  · subst hd
    constructor
    · rintro ⟨u, hu, hm, hclosing⟩
      cases hown.symm.trans hu
      exact ⟨o, ho, hm, hclosing⟩
    · rintro ⟨u, hu, hm, hclosing⟩
      cases ho.symm.trans hu
      exact ⟨_, hown, hm, hclosing⟩
  · exact State.closing_congr (hothers d hd) m

end

namespace State.TradeOk

variable {s : State} (h : s.TradeOk)
include h

/-! ## LABEL and ADD ITEM (R49 to R52, R70, R72) -/

/-- A clerk's order, opened when there is none. -/
theorem withOrder {c : ClerkNo} {n : StationNo} (hc : (s.clerk c).bound = some n) (ht : s.trading = true) :
    (s.withOrder c n).TradeOk := by
  unfold State.withOrder
  split
  · next hnone =>
    have ho : s.order c = none := Option.isNone_iff_eq_none.mp hnone
    obtain ⟨hord, hlab⟩ := h
    obtain ⟨h1, h2, h3⟩ := State.ordersOk_iff.mp hord
    refine ⟨State.ordersOk_iff.mpr ⟨h1.openOrder ho n, ?_, h3.openOrder ho ht n⟩, ?_⟩
    · refine h2.setOrder (c := c) (x := some (newOrder _ n _ _)) ?_
      rintro _ ⟨⟩ m hm
      cases hm
      exact hc
    · refine hlab.of_quiet (c := c) (fun d hd => ?_) rfl (fun _ => rfl) (fun o hs => ?_) fun o hs => ?_
      · exact (State.setOrder_order _ c _ d).trans (if_neg hd)
      · rw [ho] at hs
        cases hs
      · have hnew : (s.openOrder c n).order c
            = some (newOrder s.nextOrderNumber n s.clock ((s.serving c).map (·.number))) :=
          State.setOrder_order_same ..
        rw [hnew] at hs
        cases hs
        rfl
  · exact h

variable {c : ClerkNo} {n : StationNo} {o : Order} (ho : s.order c = some o) (hholder : o.holder = some n)
include ho

/-- An item accepted CONFIRMED. -/
theorem acceptItem (hroom : o.items.length < Config.itemsPerOrder) (hnext : o.nextItem < Config.itemNumbersEnd)
    (hpool : s.poolUsed < Config.poolSlots) (r : Priced) : (s.acceptItem c n r o).TradeOk := by
  obtain ⟨hord, hlab⟩ := h
  have hallocated : (s.onOrder c (·.allocate (saleItem s n o r none))).TradeOk := by
    refine ⟨hord.allocate ho rfl hroom hnext hpool, ?_⟩
    refine hlab.of_sameFlight (c := c) (u := o.allocate (saleItem s n o r none)) (fun d hd => ?_) rfl (fun _ => rfl) ho ?_
      ⟨rfl, rfl, fun i hpending => ?_⟩
    · exact (State.setOrder_order _ c _ d).trans (if_neg hd)
    · rw [State.onOrder_of_some ho, State.setOrder_order_same]
    · refine List.mem_append.trans (or_iff_left fun hi => ?_)
      rw [List.mem_singleton.mp hi] at hpending
      cases hpending
  exact (hallocated.of_changesOnly (goodsConfirmed_changesOnly _ c _) (by simp)).of_changesOnly
    (useTare_changesOnly _ n _) (by simp)

include hholder

/-- An item accepted PENDING, with its label in the FREE slot. -/
theorem acceptLabel (hroom : o.items.length < Config.itemsPerOrder) (hnext : o.nextItem < Config.itemNumbersEnd)
    (hpool : s.poolUsed < Config.poolSlots) (hlink : s.link n = .enrolled) (hfree : s.slotRecord n = none) (r : Priced) :
    (s.acceptLabel c n r o).TradeOk := by
  obtain ⟨hord, hlab⟩ := h
  unfold State.acceptLabel
  dsimp only
  generalize hi : saleItem s n o r (some (s.printer n).nextNumber) = i
  have hnumber : i.number = o.nextItem := by rw [← hi]; rfl
  have hpendingItem : i.state = .pending := by rw [← hi]; rfl
  have hstation : i.station = n := by rw [← hi]; rfl
  have hlabel : i.label = some (s.printer n).nextNumber := by rw [← hi]; rfl
  have hallocated := hord.allocate ho hnumber hroom hnext hpool
  generalize hs1 : s.onOrder c (·.allocate i) = s1 at hallocated
  have horder (d : ClerkNo) : s1.order d = if d = c then some (o.allocate i) else s.order d := by
    rw [← hs1, State.onOrder_of_some ho, State.setOrder_order]
  have hlabels : s1.labels = s.labels := by rw [← hs1]; rfl
  have hlinks (m : StationNo) : s1.link m = s.link m := by rw [← hs1]; rfl
  have hprinter : s1.printer n = s.printer n := by rw [State.printer, hlabels]; rfl
  generalize hmk : itemRecord s1 n c o.number r.record.fields i = mk
  have hslot (m : StationNo) : (s1.compose n mk).slotRecord m
      = if m = n then some (mk (s.printer n).nextNumber) else s.slotRecord m := by
    rw [compose_slotRecord, hprinter, slotRecord_of_labels hlabels]
  have hown : (s1.compose n mk).order c = some (o.allocate i) := (horder c).trans (if_pos rfl)
  have hothers (d : ClerkNo) (hd : d ≠ c) : (s1.compose n mk).order d = s.order d := (horder d).trans (if_neg hd)
  have hpending := State.pending_allocate ho hown hothers
  have hclosing := State.closing_allocate ho hown hothers
  have hinFlight : (s1.compose n mk).Pending c (some n) i := (hpending c _ i).mpr (.inr ⟨rfl, hholder, rfl, hpendingItem⟩)
  refine of_changesOnly ⟨hallocated.of_changesOnly (compose_changesOnly s1 n mk) (by simp), ?_⟩
    (useTare_changesOnly _ n _) (by simp)
  subst hmk
  refine hlab.composed (n := n) (r := itemRecord s1 n c o.number r.record.fields i (s.printer n).nextNumber)
    (fun m hm => ?_) (fun m _ _ _ hm => (hlinks m).trans hm) hfree ?_ ((hlinks n).trans hlink)
    ⟨i, hinFlight, rfl, hstation, hlabel⟩ (fun d m j => ?_) fun d m => ?_
  · rw [hslot, if_neg hm]
  · rw [hslot, if_pos rfl]
  · constructor
    · intro hj
      refine ((hpending d m j).mp hj).imp_right ?_
      rintro ⟨rfl, hm, rfl, -⟩
      exact ⟨rfl, hm.symm.trans hholder, hstation, rfl, rfl, hj⟩
    · rintro (hj | ⟨-, -, -, -, -, hj⟩)
      · exact (hpending d m j).mpr (.inl hj)
      · exact hj
  · refine (hclosing d m).trans (or_iff_left ?_).symm
    rintro ⟨-, -, hkind, -⟩
    cases hkind

/-! ## CLOSE ORDER and REPRINT (R79, R80, R104) -/

/-- An order without a label in flight CLOSING, with its total label in the FREE slot. -/
theorem beginClose (hflight : o.labelInFlight = false) (hlink : s.link n = .enrolled) (hfree : s.slotRecord n = none) :
    (s.beginClose c n o).TradeOk := by
  obtain ⟨hord, hlab⟩ := h
  obtain ⟨hitems, hstate⟩ := o.labelInFlight_eq_false_iff.mp hflight
  have hquiet : s.Quiet c := fun u hu => by cases ho.symm.trans hu; exact hflight
  have hcomposed : (s.compose n (totalRecord s n c o)).OrdersOk := hord.of_changesOnly (compose_changesOnly s n _) (by simp)
  have horder (d : ClerkNo) : (s.beginClose c n o).order d = if d = c then some (o.setState .closing) else s.order d := by
    rw [State.beginClose_eq ho, State.setOrder_order]
    rfl
  have hown : (s.beginClose c n o).order c = some (o.setState .closing) := (horder c).trans (if_pos rfl)
  have hothers (d : ClerkNo) (hd : d ≠ c) : (s.beginClose c n o).order d = s.order d := (horder d).trans (if_neg hd)
  have hslot (m : StationNo) : (s.beginClose c n o).slotRecord m
      = if m = n then some (totalRecord s n c o (s.printer n).nextNumber) else s.slotRecord m :=
    compose_slotRecord s n _ m
  refine ⟨hcomposed.onOrder fun u _ => u.tame_setState .closing, ?_⟩
  refine hlab.composed (n := n) (r := totalRecord s n c o (s.printer n).nextNumber) (fun m hm => ?_)
    (fun m _ _ _ hm => hm) hfree ?_ hlink ?_ (fun d m j => ?_) fun d m => ?_
  · rw [hslot, if_neg hm]
  · rw [hslot, if_pos rfl]
  · exact ⟨_, hown, hholder, rfl⟩
  · refine Iff.trans ?_ (or_iff_left ?_).symm
    · by_cases hd : d = c
      · subst hd
        refine iff_of_false ?_ (hquiet.not_pending m j)
        rintro ⟨u, hu, -, hmem, hp⟩
        cases hown.symm.trans hu
        exact hitems j hmem hp
      · exact State.pending_congr (hothers d hd) m j
    · rintro ⟨-, -, -, hkind, -⟩
      cases hkind
  · by_cases hd : d = c
    · subst hd
      constructor
      · intro hclosing
        obtain ⟨u, hu, hm, -⟩ := id hclosing
        cases hown.symm.trans hu
        exact .inr ⟨rfl, hm.symm.trans hholder, rfl, hclosing⟩
      · rintro (hclosing | ⟨-, -, -, hclosing⟩)
        · exact absurd hclosing (hquiet.not_closing m)
        · exact hclosing
    · rw [State.closing_congr (hothers d hd)]
      exact (or_iff_left fun hdc => hd hdc.1).symm

end State.TradeOk

end Sys2Proof.Machine

end

section
/-! Every step keeps the laws of orders and of labels in flight (04, 05, 07, 08). -/

open Sys2Proof Sys2Proof.Machine

namespace Sys2Proof.Machine

theorem State.enrolled_of_link {s : State} {n : StationNo} (habsent : s.link n ≠ .absent) (hservice : s.link n ≠ .service) :
    s.link n = .enrolled := by
  cases hl : s.link n with
  | absent => exact absurd hl habsent
  | service => exact absurd hl hservice
  | enrolled => rfl

theorem State.trading_of_state {s : State} (h : ¬(s.counter.state = .loading ∨ s.counter.state = .closed)) :
    s.trading = true := by
  rw [← notTrading_iff, State.notTrading, Bool.not_eq_true', Bool.not_eq_false] at h
  exact h

theorem slotRecord_of_free {s : State} {n : StationNo} (h : (s.printer n).slot = none) : s.slotRecord n = none := by
  rw [State.slotRecord, h]
  rfl

namespace State.TradeOk

variable {s : State} (h : s.TradeOk)
include h

theorem acceptSale {c : ClerkNo} {n : StationNo} {o : Order} {labelled : Bool} (ho : s.order c = some o)
    (hholder : o.holder = some n) (hroom : o.items.length < Config.itemsPerOrder)
    (hnext : o.nextItem < Config.itemNumbersEnd) (hpool : s.poolUsed < Config.poolSlots) (hlink : s.link n = .enrolled)
    (hfree : labelled = true → s.slotRecord n = none) (r : Priced) : (acceptSale n c labelled r s).1.TradeOk := by
  unfold Machine.acceptSale
  rw [ho]
  cases labelled with
  | true => exact h.acceptLabel ho hholder hroom hnext hpool hlink (hfree rfl) r
  | false => exact h.acceptItem ho hroom hnext hpool r

theorem saleRequest (labelled : Bool) (n : StationNo) (p : List Byte) : (saleRequest labelled n p s).1.TradeOk := by
  rw [saleRequest_eq_tested, tested_saleTests]
  split_ifs with habsent hservice _ hidle
  · exact h
  · exact h
  · exact h
  · exact h
  · cases hc : s.boundClerk n with
    | none => exact h
    | some c =>
      dsimp only
      rw [tested_orderTests]
      split_ifs with hholder _ _ _ hslot hfull hpool
      · exact h
      · exact h
      · exact h
      · exact h
      · exact h
      · exact h
      · exact h
      · cases s.priceSale n (decodeSale p) true with
        | error e => exact h
        | ok r =>
          dsimp only
          split
          · exact h
          · have hroom : ¬40 ≤ (s.heldOrder c n).items.length ∧ ¬256 ≤ (s.heldOrder c n).nextItem := not_or.mp hfull
            have hopened := h.withOrder (s.boundClerk_bound hc) (State.trading_of_state hidle)
            refine hopened.acceptSale (s.withOrder_own c n) (not_not.mp hholder) (not_le.mp hroom.1) (not_le.mp hroom.2)
              ?_ ?_ (fun hlabelled => ?_) r
            · rw [withOrder_poolUsed]
              exact not_le.mp hpool
            · rw [link_of_roster (congrArg (·.roster) (s.withOrder_counter c n))]
              exact State.enrolled_of_link habsent hservice
            · rw [slotRecord_of_labels (s.withOrder_labels c n)]
              exact slotRecord_of_free (not_not.mp fun hbusy => hslot ⟨hlabelled, hbusy⟩)

theorem closeEmpty {c : ClerkNo} {o : Order} (ho : s.order c = some o) (hflight : o.labelInFlight = false) :
    (s.closeEmpty c).TradeOk := by
  obtain ⟨hord, hlab⟩ := h
  refine ⟨hord.closeOrder (t := s.countEmpty) ho rfl rfl rfl, ?_⟩
  have hended : (s.countEmpty.setOrder c none).LabelsOk := by
    refine hlab.of_quiet (c := c) (fun d hd => ?_) rfl (fun _ => rfl) (fun u hu => ?_) fun u hu => ?_
    · exact (State.setOrder_order _ c _ d).trans (if_neg hd)
    · cases ho.symm.trans hu
      exact hflight
    · rw [State.setOrder_order_same] at hu
      cases hu
  exact hended.of_changesOnly (reportClosing_changesOnly _) (by simp)

theorem closeOrderRequest (n : StationNo) (p : List Byte) : (closeOrderRequest n p s).1.TradeOk := by
  rw [closeOrderRequest_eq_tested, tested_linkTests]
  split_ifs with habsent hservice
  · exact h
  · exact h
  · cases s.boundClerk n with
    | none => exact h
    | some c =>
      dsimp only
      cases ho : s.order c with
      | none => exact h
      | some o =>
        dsimp only
        rw [tested_closeTests]
        split_ifs with hholder hflight _ _ hslot
        · exact h
        · exact h
        · exact h.closeEmpty ho (by simpa using hflight)
        · exact h
        · exact h
        · exact h.beginClose ho (not_not.mp hholder) (by simpa using hflight) (State.enrolled_of_link habsent hservice)
            (slotRecord_of_free (not_not.mp hslot))

/-- A copy of the last label composed into the FREE slot. -/
theorem composeReprint {n : StationNo} (hlink : s.link n = .enrolled) (hfree : s.slotRecord n = none)
    (last : LabelRecord) : (s.compose n (reprintRecord last)).TradeOk := by
  obtain ⟨hord, hlab⟩ := h
  have hslot := compose_slotRecord s n (reprintRecord last)
  refine ⟨hord.of_changesOnly (compose_changesOnly s n _) (by simp), ?_⟩
  refine hlab.composed (n := n) (r := reprintRecord last (s.printer n).nextNumber) (fun m hm => ?_) (fun m _ _ _ hm => hm)
    hfree ?_ hlink ?_ (fun d m j => ?_) fun d m => ?_
  · rw [hslot, if_neg hm]
  · rw [hslot, if_pos rfl]
  · exact State.standsFor_iff.mpr trivial
  · refine (or_iff_left ?_).symm
    rintro ⟨-, -, -, hkind, -⟩
    cases hkind
  · refine (or_iff_left ?_).symm
    rintro ⟨-, -, hkind, -⟩
    cases hkind

theorem reprintRequest (n : StationNo) (p : List Byte) : (reprintRequest n p s).1.TradeOk := by
  unfold Machine.reprintRequest
  split
  · exact h
  · exact h
  · next last htests _ =>
    rw [firstOf_reprintTests] at htests
    split_ifs at htests with habsent hservice _ hslot
    exact h.composeReprint (State.enrolled_of_link habsent hservice) (slotRecord_of_free (not_not.mp hslot)) last

/-! ## Requests and causes -/

/-- Every request's act keeps the laws of orders and labels. -/
theorem request (i : Instr) (p : List Byte) : (requestAct i p s).1.TradeOk := by
  cases i with
  | enrol n => exact h.enrolRequest n p
  | clerkOn n => exact h.clerkOnRequest n p
  | clerkOff n => exact h.clerkOffRequest n p
  | clerkWrite => exact h.clerkWriteRequest p
  | label n => exact h.saleRequest true n p
  | addItem n => exact h.saleRequest false n p
  | voidItem n => exact h.voidItemRequest n p
  | parkOrder n => exact h.parkOrderRequest n p
  | claimOrder n => exact h.claimOrderRequest n p
  | closeOrder n => exact h.closeOrderRequest n p
  | reprint n => exact h.reprintRequest n p
  | openCounter => exact h.openCounterRequest p
  | closeCounter => exact h.closeCounterRequest p
  | serviceKey => exact h.serviceKeyRequest p
  | serviceClose => exact h.serviceCloseRequest p
  | serviceAbandon => exact h.serviceAbandonRequest p
  | _ => exact h.of_changesOnly (requestAct_changesOnly _ p s) (by simp [requestParts])

/-- Every cause keeps the laws of orders and labels. -/
theorem cause (c : Cause) : (c.run s).TradeOk := by
  cases c with
  | goodFrame p => exact h.goodFrame p
  | printDone n k => exact h.printDone n k
  | printFail n k => exact h.printFail n k
  | lost n => exact h.loseIfPresent n
  | deadlineSet n f => exact h.setDeadline n f
  | deadlineExpired n => exact h.deadlineExpired n
  | inactivityExpired => exact h.inactivityExpired
  | request i payload => exact h.request i payload
  | resetAssert => exact h.enterReset
  | resetRelease => exact ite (powerOn _) h
  | holdRelease => exact h.holdReleased
  | _ => exact h.of_changesOnly (Cause.run_changesOnly _ s) (by simp [Cause.parts])

end State.TradeOk

end Sys2Proof.Machine

/-- Settles O56: the two laws together are kept by every effect of a step, a label's composition and its end with the
item or the order it stands for. -/
theorem ordersAndLabelsAreKept : Obligations.OrdersAndLabelsAreKept := by
  intro s t hord hlab hstep
  exact step_keeps_of_causes (P := State.TradeOk) (fun _ _ hc h => h.of_changesOnly hc (by simp))
    (fun c _ h => h.cause c) hstep ⟨hord, hlab⟩

end

section
/-! The sales values in the PLU records, number by number (02, 07). -/

namespace Sys2Proof.Machine

namespace PluTable

/-! ## The sum over the records as a sum over the numbers -/

/-- The sales value in the record of a number; 0 without one. -/
def valueAt (t : PluTable) (p : Nat) : Nat := ((t.find p).map (·.totals.value)).getD 0

theorem valueAt_of_none {t : PluTable} {p : Nat} (h : t.find p = none) : t.valueAt p = 0 := by
  rw [valueAt, h]
  rfl

theorem valueAt_of_some {t : PluTable} {p : Nat} {r : PluRecord} (h : t.find p = some r) : t.valueAt p = r.totals.value := by
  rw [valueAt, h]
  rfl

/-- The records of the leaf that a directory entry names. -/
def entryRecords (t : PluTable) (e : Nat × LeafNo) : List PluRecord :=
  ((t.pool.get e.2).map leafRecords).getD []

theorem records_eq (t : PluTable) : t.records = t.directory.flatMap t.entryRecords := by
  unfold records entryRecords
  refine congrArg (t.directory.flatMap ·) (funext fun e => ?_)
  cases t.pool.get e.2 <;> rfl

theorem leafRecords_eq (leaf : Leaf) : leafRecords leaf = (List.finRange 32).filterMap leaf.get := by
  unfold leafRecords Table.rows
  rw [List.filterMap_map]
  rfl

theorem mem_entryRecords {t : PluTable} {e : Nat × LeafNo} {r : PluRecord} :
    r ∈ t.entryRecords e ↔ ∃ leaf, t.pool.get e.2 = some leaf ∧ ∃ k, leaf.get k = some r := by
  unfold entryRecords
  cases t.pool.get e.2 with
  | none => simp
  | some leaf => simp [mem_leafRecords]

/-- The records' numbers differ. -/
theorem Ok.records_numbers_nodup {t : PluTable} (h : t.Ok) : (t.records.map (·.fields.number)).Nodup := by
  have hindex : t.directory.Pairwise fun e d => e.1 ≠ d.1 := by
    obtain ⟨hsorted, -⟩ := h
    exact (List.pairwise_map.mp hsorted).imp fun hlt => ne_of_lt hlt
  rw [List.Nodup, List.pairwise_map, records_eq, List.pairwise_flatMap]
  constructor
  · intro e he
    unfold entryRecords
    cases hpool : t.pool.get e.2 with
    | none => exact .nil
    | some leaf =>
      rw [Option.map_some, Option.getD_some, leafRecords_eq, List.pairwise_filterMap]
      refine (List.nodup_finRange 32).imp fun {k j} hkj r hr u hu => ?_
      rw [h.number_of_slot he hpool hr, h.number_of_slot he hpool hu]
      exact fun heq => hkj (Fin.ext (Nat.add_left_cancel heq))
  · refine hindex.imp_of_mem fun {e d} he hd hed r hr u hu => ?_
    obtain ⟨leaf, hpool, k, hk⟩ := mem_entryRecords.mp hr
    obtain ⟨leaf', hpool', j, hj⟩ := mem_entryRecords.mp hu
    rw [h.number_of_slot he hpool hk, h.number_of_slot hd hpool' hj]
    omega

/-- The sum of the values over the records is the sum over the numbers. -/
theorem Ok.sum_records {t : PluTable} (h : t.Ok) :
    (t.records.map (·.totals.value)).sum = ∑ p ∈ Finset.range 100000, t.valueAt p := by
  have hvalues : t.records.map (·.totals.value) = (t.records.map (·.fields.number)).map t.valueAt := by
    rw [List.map_map]
    refine List.map_congr_left fun r hr => ?_
    exact (valueAt_of_some (h.find_eq_some.mpr ⟨hr, rfl⟩)).symm
  rw [hvalues, ← List.sum_toFinset _ h.records_numbers_nodup]
  refine Finset.sum_subset (fun p hp => ?_) fun p _ hp => ?_
  · obtain ⟨r, hr, rfl⟩ := List.mem_map.mp (List.mem_toFinset.mp hp)
    have hvalid := (h.valid_of_find (h.find_eq_some.mpr ⟨hr, rfl⟩)).2
    have hindex := dirIndex_le_of_valid hvalid
    unfold dirIndex at hindex
    rw [Finset.mem_range]
    omega
  · refine valueAt_of_none (Option.eq_none_iff_forall_ne_some.mpr fun r hr => hp ?_)
    obtain ⟨hmem, hnumber⟩ := h.find_eq_some.mp hr
    exact List.mem_toFinset.mpr (List.mem_map.mpr ⟨r, hmem, hnumber⟩)

/-! ## Changes of the table that leave every value -/

/-- Every number's value as it was. -/
def SameValues (t u : PluTable) : Prop := ∀ p, u.valueAt p = t.valueAt p

theorem SameValues.refl (t : PluTable) : t.SameValues t := fun _ => rfl

theorem SameValues.trans {t u v : PluTable} (h : t.SameValues u) (k : u.SameValues v) : t.SameValues v :=
  fun p => (k p).trans (h p)

theorem SameValues.sum_records {t u : PluTable} (h : t.SameValues u) (ht : t.Ok) (hu : u.Ok) :
    (u.records.map (·.totals.value)).sum = (t.records.map (·.totals.value)).sum := by
  rw [ht.sum_records, hu.sum_records]
  exact Finset.sum_congr rfl fun p _ => h p

theorem Ok.sameValues_update {t : PluTable} (h : t.Ok) (p : Nat) {f : PluRecord → PluRecord}
    (hf : ∀ r, (f r).totals = r.totals) : t.SameValues (t.update p f) := by
  intro q
  rw [valueAt, h.find_update]
  split
  · next e =>
    rw [valueAt, e, Option.map_map]
    refine congrArg (fun g => ((t.find p).map g).getD 0) (funext fun r => ?_)
    exact congrArg (·.value) (hf r)
  · rfl

theorem Ok.sameValues_place {t u : PluTable} (h : t.Ok) {r : PluRecord} (hr : r.fields.valid = true)
    (hu : t.place r = some u) (hvalue : r.totals.value = t.valueAt r.fields.number) : t.SameValues u := by
  intro q
  rw [valueAt, h.find_place hr hu]
  split
  · next e =>
    rw [e]
    exact hvalue
  · rfl

theorem Ok.sameValues_remove {t : PluTable} (h : t.Ok) {p : Nat} (hp : t.valueAt p = 0) : t.SameValues (t.remove p) := by
  intro q
  rw [valueAt, h.find_remove]
  split
  · next e =>
    rw [e, hp]
    rfl
  · rfl

theorem sameValues_mapRecords (t : PluTable) {f : PluRecord → PluRecord} (hf : ∀ r, (f r).totals = r.totals) :
    t.SameValues (t.mapRecords f) := by
  intro q
  rw [valueAt, find_mapRecords, Option.map_map]
  refine congrArg (fun g => ((t.find q).map g).getD 0) (funext fun r => ?_)
  exact congrArg (·.value) (hf r)

/-- A Z-close leaves no value. -/
theorem Ok.zClosed_valueAt {t : PluTable} (h : t.Ok) (p : Nat) : t.zClosed.valueAt p = 0 := by
  rw [valueAt, h.find_zClosed]
  cases t.find p with
  | none => rfl
  | some r =>
    dsimp only
    split <;> rfl

end PluTable

end Sys2Proof.Machine

end

section
/-! What the table's requests and a batch do to the values and to the records that items name (02, 03). -/

namespace Sys2Proof.Machine

open PluTable (SameValues)

/-! ## The removal step (R31) -/

/-- What the removal step leaves has the totals it had. -/
theorem removalStep_find {s : State} (h : s.plu.Ok) (r : PluRecord) (gen : Nat) {p : Nat} {y : PluRecord}
    (hy : (s.removalStep r gen).plu.find p = some y) : ∃ x, s.plu.find p = some x ∧ y.totals = x.totals := by
  unfold State.removalStep at hy
  dsimp only at hy
  split at hy
  · rw [h.find_remove] at hy
    split at hy
    · cases hy
    · exact ⟨y, hy, rfl⟩
  · rw [h.find_update] at hy
    split at hy
    · next e =>
      obtain ⟨x, hx, rfl⟩ := Option.map_eq_some_iff.mp hy
      exact ⟨x, e ▸ hx, rfl⟩
    · exact ⟨y, hy, rfl⟩

/-- The removal step of a record that stands in the table, or has gone from it, leaves every value. -/
theorem removalStep_sameValues {s : State} (h : s.plu.Ok) {r : PluRecord} (gen : Nat)
    (hr : ∀ x, s.plu.find r.fields.number = some x → x.totals = r.totals) : s.plu.SameValues (s.removalStep r gen).plu := by
  unfold State.removalStep
  dsimp only
  split
  · next hremovable =>
    refine h.sameValues_remove ?_
    have hzero := ((removable_iff s r).mp hremovable).1
    cases hx : s.plu.find r.fields.number with
    | none => exact PluTable.valueAt_of_none hx
    | some x => rw [PluTable.valueAt_of_some hx, hr x hx, hzero]
  · exact h.sameValues_update _ fun _ => rfl

/-- The removal step keeps every record that an item of an open order names. -/
theorem removalStep_named {s : State} (h : s.plu.Ok) (r : PluRecord) (gen : Nat) {p : Nat} (hp : s.pluReferenced p = true)
    (hfind : (s.plu.find p).isSome = true) : ((s.removalStep r gen).plu.find p).isSome = true := by
  unfold State.removalStep
  dsimp only
  split
  · next hremovable =>
    have hfree := ((removable_iff s r).mp hremovable).2
    rw [h.find_remove, if_neg]
    · exact hfind
    · rintro rfl
      rw [hfree] at hp
      cases hp
  · rw [h.find_update]
    split
    · next e => rw [Option.isSome_map, ← e]; exact hfind
    · exact hfind

/-- A wipe over records whose totals stand in the table leaves every value. -/
theorem foldl_wipeStep_sameValues {s : State} (h : s.plu.Ok) (rs : List PluRecord)
    (hrs : ∀ r ∈ rs, ∀ x, s.plu.find r.fields.number = some x → x.totals = r.totals) :
    s.plu.SameValues (rs.foldl State.wipeStep s).plu := by
  induction rs generalizing s with
  | nil => exact .refl _
  | cons r rs ih =>
    have hr := hrs r (List.mem_cons_self ..)
    have hrest (y : PluRecord) (hy : y ∈ rs) := hrs y (List.mem_cons_of_mem _ hy)
    have hstep : s.plu.SameValues (s.wipeStep r).plu ∧ ∀ p x, (s.wipeStep r).plu.find p = some x →
        ∃ x', s.plu.find p = some x' ∧ x.totals = x'.totals := by
      unfold State.wipeStep
      split
      · exact ⟨removalStep_sameValues h _ hr, fun p x hx => removalStep_find h r _ hx⟩
      · exact ⟨.refl _, fun p x hx => ⟨x, hx, rfl⟩⟩
    refine hstep.1.trans (ih (wipeStep_pluOk h r) fun y hy x hx => ?_)
    obtain ⟨x', hx', htotals⟩ := hstep.2 _ x hx
    exact htotals.trans (hrest y hy x' hx')

/-! ## The batch (R37, R59) -/

theorem applyEntry_sameValues {s t : State} {e : BatchEntry} {gen : Nat} (h : s.plu.Ok) (he : e.valid = true)
    (ht : s.applyEntry e gen = .ok t) : s.plu.SameValues t.plu := by
  unfold State.applyEntry at ht
  split at ht
  · split at ht
    · cases ht
    · cases ht
      exact h.sameValues_update _ fun _ => rfl
  · split at ht
    · cases ht
    · next f _ hnone =>
      split at ht
      · cases ht
      · next hplaced =>
        cases ht
        exact h.sameValues_place (r := writtenRecord f none gen) he hplaced (PluTable.valueAt_of_none hnone).symm
  · split at ht
    · cases ht
    · next r hr =>
      cases ht
      refine removalStep_sameValues h gen fun x hx => ?_
      rw [(h.valid_of_find hr).1, hr] at hx
      cases hx
      rfl

theorem applyEntry_named {s t : State} {e : BatchEntry} {gen : Nat} (h : s.plu.Ok) (he : e.valid = true)
    (ht : s.applyEntry e gen = .ok t) {p : Nat} (hp : s.pluReferenced p = true)
    (hfind : (s.plu.find p).isSome = true) : (t.plu.find p).isSome = true := by
  unfold State.applyEntry at ht
  split at ht
  · split at ht
    · cases ht
    · cases ht
      rw [h.find_update]
      split
      · next e => rw [Option.isSome_map, ← e]; exact hfind
      · exact hfind
  · split at ht
    · cases ht
    · next f _ _ =>
      split at ht
      · cases ht
      · next hplaced =>
        cases ht
        rw [h.find_place (r := writtenRecord f none gen) he hplaced]
        split
        · rfl
        · exact hfind
  · split at ht
    · cases ht
    · cases ht
      exact removalStep_named h _ gen hp hfind

/-- A change that leaves the orders, every value, and every record that an item of an open order names. -/
structure SoldKept (s t : State) : Prop where
  orders : t.orders.orders = s.orders.orders
  values : s.plu.SameValues t.plu
  named : ∀ p, s.pluReferenced p = true → (s.plu.find p).isSome = true → (t.plu.find p).isSome = true

theorem SoldKept.refl (s : State) : SoldKept s s := ⟨rfl, .refl _, fun _ _ h => h⟩

theorem SoldKept.trans {s t u : State} (h : SoldKept s t) (k : SoldKept t u) : SoldKept s u where
  orders := k.orders.trans h.orders
  values := h.values.trans k.values
  named p hp hfind := by
    refine k.named p ?_ (h.named p hp hfind)
    unfold State.pluReferenced State.openOrders at *
    rw [h.orders]
    exact hp

theorem applyEntry_kept {s t : State} {e : BatchEntry} {gen : Nat} (h : s.plu.Ok) (he : e.valid = true)
    (ht : s.applyEntry e gen = .ok t) : SoldKept s t :=
  ⟨congrArg Prod.fst (applyEntry_changesOnly s ht .orders (by simp)), applyEntry_sameValues h he ht,
    fun _ hp hfind => applyEntry_named h he ht hp hfind⟩

theorem applyBatch_kept {s : State} (h : s.plu.Ok) (he : ∀ e ∈ s.pricing.entries, e.valid = true) :
    SoldKept s s.applyBatch.1 := by
  have hfold (es : List BatchEntry) (hes : ∀ e ∈ es, e.valid = true) (a : Activation) (ha : a.1.plu.Ok) :
      SoldKept a.1 (es.foldl (activateEntry s.generationEnded (s.generation + 1)) a).1 := by
    induction es generalizing a with
    | nil => exact .refl _
    | cons e es ih =>
      have htail := ih fun x hx => hes x (List.mem_cons_of_mem _ hx)
      have hhead := hes e (List.mem_cons_self ..)
      rcases activateEntry_cases s.generationEnded (s.generation + 1) a e with ⟨reason, h'⟩ | ⟨-, t, ht, h'⟩
      · rw [List.foldl_cons, h']
        exact htail (a.1, a.2.skip e.plu reason) ha
      · rw [List.foldl_cons, h']
        exact (applyEntry_kept ha hhead ht).trans (htail (t, _) (applyEntry_pluOk ha hhead ht))
  exact hfold _ he (s, ⟨0, 0, none⟩) h

theorem activate_plu (s : State) : s.activate.plu = s.applyBatch.1.plu := by
  have hstepped : (if s.applyBatch.2.applied = 0 then s.applyBatch.1 else s.applyBatch.1.stepGeneration).plu
      = s.applyBatch.1.plu := by
    split <;> rfl
  exact Eq.trans (raiseBatch_changesOnly _ s.applyBatch.2 .plu (by simp)) hstepped

theorem activate_kept {s : State} (h : s.TableOk) : SoldKept s s.activate := by
  obtain ⟨hplu, -, hentries, -⟩ := h
  have hbatch := applyBatch_kept hplu hentries
  refine ⟨congrArg Prod.fst (activate_changesOnly s .orders (by simp)), ?_, ?_⟩
  · rw [activate_plu]
    exact hbatch.values
  · rw [activate_plu]
    exact hbatch.named

end Sys2Proof.Machine

end

section
/-! Every item sold names a record in the table, and none is open outside trading (02, 04, 08). -/

namespace Sys2Proof.Machine

/-- Every item of an open order names a PLU record that is in the table, and the counter is trading. -/
def State.ItemsSold (s : State) : Prop := s.AllItems fun i => s.trading = true ∧ (s.plu.find i.plu).isSome = true

/-- An item of an open order references the PLU it names. -/
theorem pluReferenced_of_item {s : State} {c : ClerkNo} {o : Order} (ho : s.order c = some o) {i : Item} (hi : i ∈ o.items) :
    s.pluReferenced i.plu = true := by
  refine List.any_eq_true.mpr ⟨o, s.mem_openOrders.mpr ⟨c, ho⟩, List.any_eq_true.mpr ⟨i, hi, ?_⟩⟩
  exact beq_self_eq_true i.plu

/-- The record of a priced sale is that of a number in the table. -/
theorem priceSale_find {s : State} (h : s.plu.Ok) {n : StationNo} {q : SaleRequest} {b : Bool} {r : Priced}
    (hr : s.priceSale n q b = .ok r) : (s.plu.find r.record.fields.number).isSome = true := by
  have hlookup (x : PluRecord) (hx : lookupForSale s.plu q.plu = .ok x) : s.plu.find x.fields.number = some x := by
    rw [lookupForSale_eq] at hx
    split at hx
    · cases hx
    · split at hx
      · cases hx
      · next y hy =>
        split at hx
        · cases hx
        · cases hx
          rw [(h.valid_of_find hy).1]
          exact hy
  unfold State.priceSale at hr
  split at hr
  · cases hr
  · next x hx =>
    split at hr
    · cases hr
    · split at hr
      · cases hr
      · dsimp only at hr
        split at hr
        · cases hr
        · cases hr
          rw [hlookup x hx]
          rfl

theorem State.trading_of_mode {s t : State} (h : t.counter.state = s.counter.state) : t.trading = s.trading := by
  rw [State.trading, h]
  rfl

namespace State.ItemsSold

theorem named {s : State} (h : s.ItemsSold) : s.ItemsNamed := fun c o ho i hi => (h c o ho i hi).2

theorem of_named {s : State} (h : s.ItemsNamed) (hidle : s.trading = false → ∀ c, s.order c = none) : s.ItemsSold := by
  intro c o ho i hi
  refine ⟨?_, h c o ho i hi⟩
  by_contra ht
  rw [hidle (by simpa using ht) c] at ho
  cases ho

theorem of_no_order {s : State} (h : ∀ c, s.order c = none) : s.ItemsSold := by
  intro c o ho
  rw [h c] at ho
  cases ho

theorem ite {s t : State} {c : Prop} [Decidable c] (h : s.ItemsSold) (k : t.ItemsSold) :
    (if c then s else t).ItemsSold := by
  split
  · exact h
  · exact k

/-- No item that was not there, the counter trading as before, and no record gone. -/
theorem of_itemsFrom {s t : State} (h : s.ItemsSold) (hitems : ItemsFrom s t)
    (htrading : s.trading = true → t.trading = true)
    (hplu : ∀ p, (s.plu.find p).isSome = true → (t.plu.find p).isSome = true) : t.ItemsSold := by
  intro c o ho i hi
  obtain ⟨ht, hp⟩ := (State.AllItems.of_itemsFrom (fun _ _ hj => hj) h hitems) c o ho i hi
  exact ⟨htrading ht, hplu _ hp⟩

theorem of_changesOnly {bs : List Part} {s t : State} (h : s.ItemsSold) (hc : ChangesOnly bs s t)
    (hb : Part.plu ∉ bs ∧ Part.mode ∉ bs) (hitems : ItemsFrom s t) : t.ItemsSold := by
  have hplu : t.plu = s.plu := hc .plu hb.1
  have hmode : t.counter.state = s.counter.state := hc .mode hb.2
  refine h.of_itemsFrom hitems (fun ht => ?_) fun p hp => ?_
  · rw [State.trading_of_mode hmode]
    exact ht
  · rw [hplu]
    exact hp

theorem same {bs : List Part} {s t : State} (h : s.ItemsSold) (hc : ChangesOnly bs s t)
    (hb : Part.plu ∉ bs ∧ Part.mode ∉ bs ∧ Part.orders ∉ bs) : t.ItemsSold :=
  h.of_changesOnly hc ⟨hb.1, hb.2.1⟩ (.of_changesOnly hc hb.2.2)

/-- Outside trading the table may change in any way: no item is open. -/
theorem of_idle {bs : List Part} {s t : State} (h : s.ItemsSold) (hidle : s.trading = false) (hc : ChangesOnly bs s t)
    (hb : Part.orders ∉ bs) : t.ItemsSold := by
  intro c o ho i hi
  have horders : t.orders.orders = s.orders.orders := congrArg Prod.fst (hc .orders hb)
  rw [State.order, horders] at ho
  obtain ⟨ht, -⟩ := h c o ho i hi
  rw [hidle] at ht
  cases ht

/-- The counter enters a state of trading, or with no order open. -/
theorem enterState {s : State} (h : s.ItemsSold) {m : CounterState}
    (hidle : m = .loading ∨ m = .closed → s.trading = false ∨ s.openOrderCount = 0) : (s.enterState m).ItemsSold := by
  have hchange := enterState_changesOnly s m
  have hplu : (s.enterState m).plu = s.plu := hchange .plu (by simp)
  have horders : (s.enterState m).orders.orders = s.orders.orders := congrArg Prod.fst (hchange .orders (by simp))
  intro c o ho i hi
  rw [State.order, horders] at ho
  obtain ⟨ht, hp⟩ := h c o ho i hi
  rw [hplu]
  refine ⟨?_, hp⟩
  have hopen : ¬(m = .loading ∨ m = .closed) := fun hm => by
    rcases hidle hm with hclosed | hnone
    · rw [hclosed] at ht
      cases ht
    · have := openOrderCount_eq_zero.mp hnone c
      rw [State.order, Option.mem_def.mp ho] at this
      cases this
  refine State.trading_of_state ?_
  rw [State.enterState_state]
  exact hopen

theorem reportClosing {s : State} (h : s.ItemsSold) : s.reportClosing.ItemsSold := by
  unfold State.reportClosing
  split
  · next hdone => exact h.enterState fun _ => .inr hdone.2
  · exact h

variable {s : State} (h : s.ItemsSold)
include h

theorem kept {t : State} (hk : SoldKept s t) (hmode : t.counter.state = s.counter.state) : t.ItemsSold := by
  intro c o ho i hi
  rw [State.order, hk.orders] at ho
  obtain ⟨ht, hp⟩ := h c o ho i hi
  refine ⟨?_, hk.named _ (pluReferenced_of_item ho hi) hp⟩
  rw [State.trading_of_mode hmode]
  exact ht

/-! ## A sale, a close, a print report -/

theorem saleRequest (htable : s.TableOk) (labelled : Bool) (n : StationNo) (p : List Byte) :
    (saleRequest labelled n p s).1.ItemsSold := by
  rw [saleRequest_eq_tested, tested_saleTests]
  split_ifs with _ _ _ hidle
  · exact h
  · exact h
  · exact h
  · exact h
  · cases s.boundClerk n with
    | none => exact h
    | some c =>
      dsimp only
      rw [tested_orderTests]
      split_ifs
      · exact h
      · exact h
      · exact h
      · exact h
      · exact h
      · exact h
      · exact h
      · cases hr : s.priceSale n (decodeSale p) true with
        | error e => exact h
        | ok r =>
          dsimp only
          split
          · exact h
          · have hsale := acceptSale_changesOnly (s.withOrder c n) n c labelled r
            have hopened := withOrder_changesOnly s c n
            have hplu : (acceptSale n c labelled r (s.withOrder c n)).1.plu = s.plu :=
              Eq.trans (hsale .plu (by simp)) (hopened .plu (by simp))
            have hmode : (acceptSale n c labelled r (s.withOrder c n)).1.counter.state = s.counter.state :=
              Eq.trans (hsale .mode (by simp)) (hopened .mode (by simp))
            unfold State.ItemsSold
            rw [State.trading_of_mode hmode, hplu]
            refine (State.AllItems.withOrder h c n).acceptSale n c labelled r fun o k => ?_
            exact ⟨State.trading_of_state hidle, priceSale_find htable.1 hr⟩

theorem closeOrderRequest (n : StationNo) (p : List Byte) : (closeOrderRequest n p s).1.ItemsSold := by
  have hempty (c : ClerkNo) : (s.closeEmpty c).ItemsSold :=
    reportClosing (s := s.countEmpty.setOrder c none) (of_itemsFrom h (.endOrder s c) id fun _ => id)
  have hbegun (c : ClerkNo) (o : Order) : (s.beginClose c n o).ItemsSold :=
    (h.same (compose_changesOnly s n _) (by simp)).of_changesOnly (onOrder_changesOnly _ c _) (by simp)
      (.onOrder _ _ (Order.noNewItem_setState _))
  dsimp only [Machine.closeOrderRequest]
  split
  · exact h
  · exact h
  · split
    · exact h
    · split
      · exact h
      · split
        · exact hempty _
        · exact hbegun _ _

theorem accumulate (hplu : s.plu.Ok) (c : ClerkNo) (n : StationNo) (o : Order) : (s.accumulate c n o).ItemsSold := by
  have hchange := accumulate_changesOnly s c n o
  refine h.of_itemsFrom (.of_changesOnly hchange (by simp)) (fun ht => ?_) fun p hp => ?_
  · rw [State.trading_of_mode (hchange .mode (by simp))]
    exact ht
  · change (((o.inState .confirmed).foldl State.accumulateItem s).plu.find p).isSome = true
    rw [foldl_accumulateItem_find hplu, Option.isSome_map]
    exact hp

theorem closePrinted (hplu : s.plu.Ok) (c : ClerkNo) (n : StationNo) : (s.closePrinted c n).ItemsSold := by
  unfold State.closePrinted
  split
  · exact h
  · exact reportClosing ((h.accumulate hplu c n _).of_changesOnly (setOrder_changesOnly _ c none) (by simp)
      (.endOrder _ c))

theorem printDone (htable : s.TableOk) (n : StationNo) (k : Nat) : (s.printDone n k).ItemsSold := by
  unfold State.printDone
  split
  · next r _ =>
    have hfree := h.same (freeSlot_changesOnly s n) (by simp)
    have hkept := (hfree.same (setPrinter_changesOnly _ n { (s.freeSlot n).printer n with last := some r })
      (by simp)).same (countLabel_changesOnly _ n) (by simp)
    have hplu := htable.1
    unfold State.finishLabel
    dsimp only
    split
    · exact (hkept.of_changesOnly (onOrder_changesOnly _ _ _) (by simp) (.onOrder _ _ (Order.noNewItem_setItem _ _))).same
        (goodsConfirmed_changesOnly _ _ _) (by simp)
    · exact hkept.closePrinted hplu _ n
    · exact hfree.same (countReprint_changesOnly _ n) (by simp)
  · exact h

end State.ItemsSold

end Sys2Proof.Machine

end

section
/-! The totals over departments and PLU records: what keeps them equal to the counter's (07). -/

namespace Sys2Proof.Machine

/-! ## Accumulating -/

/-- A value that both sums come to: that over the departments and that over the PLU records. -/
def State.GoodsAt (s : State) (m : Nat) : Prop :=
  m = sumOf s.totals.departments (·.value) % Config.valueModulus
    ∧ m = (s.plu.records.map (·.totals.value)).sum % Config.valueModulus

theorem PluTotals.addItem_value (t : PluTotals) (i : Item) : (t.addItem i).value = addValue t.value i.price := by
  rw [PluTotals.addItem_eq]
  rfl

/-- One item's price added to the record it names, and to no other. -/
theorem accumulateItem_sum {s : State} (h : s.plu.Ok) {i : Item} {r : PluRecord} (hr : s.plu.find i.plu = some r) :
    ((s.accumulateItem i).plu.records.map (·.totals.value)).sum + r.totals.value
      = (s.plu.records.map (·.totals.value)).sum + addValue r.totals.value i.price := by
  have hvalue (p : Nat) : (s.accumulateItem i).plu.valueAt p
      = if p = i.plu then addValue r.totals.value i.price else s.plu.valueAt p := by
    rw [PluTable.valueAt, accumulateItem_find h]
    by_cases hp : i.plu = p
    · rw [← hp, hr, if_pos rfl, Option.map_some, Option.map_some, if_pos rfl]
      exact PluTotals.addItem_value r.totals i
    · rw [if_neg (Ne.symm hp), PluTable.valueAt, Option.map_map]
      simp only [if_neg hp]
      rfl
  have hmem : i.plu ∈ Finset.range 100000 := by
    obtain ⟨hnumber, hvalid⟩ := h.valid_of_find hr
    have hindex := PluTable.dirIndex_le_of_valid hvalid
    rw [hnumber] at hindex
    unfold dirIndex at hindex
    rw [Finset.mem_range]
    omega
  rw [(accumulateItem_pluOk h i).sum_records, h.sum_records, ← Finset.add_sum_erase _ _ hmem,
    ← Finset.add_sum_erase _ s.plu.valueAt hmem, hvalue, if_pos rfl, PluTable.valueAt_of_some hr]
  have hrest : ∑ p ∈ (Finset.range 100000).erase i.plu, (s.accumulateItem i).plu.valueAt p
      = ∑ p ∈ (Finset.range 100000).erase i.plu, s.plu.valueAt p :=
    Finset.sum_congr rfl fun p hp => by rw [hvalue, if_neg (Finset.ne_of_mem_erase hp)]
  rw [hrest]
  omega

namespace State.GoodsAt

theorem accumulateItem {s : State} {m : Nat} (h : s.GoodsAt m) (hplu : s.plu.Ok) {i : Item}
    (hi : (s.plu.find i.plu).isSome = true) : (s.accumulateItem i).GoodsAt (addValue m i.price) := by
  obtain ⟨hdepartments, hrecords⟩ := h
  obtain ⟨r, hr⟩ := Option.isSome_iff_exists.mp hi
  refine ⟨addValue_eq_sum (a := (s.totals.departments.get r.fields.department).value) hdepartments ?_,
    addValue_eq_sum hrecords (accumulateItem_sum hplu hr)⟩
  unfold State.accumulateItem
  rw [hr]
  exact sumOf_put s.totals.departments r.fields.department (·.value) _

/-- The items of an order one after another: both sums move on by the sum of the prices. -/
theorem foldl_accumulateItem {s : State} {m : Nat} (h : s.GoodsAt m) (hplu : s.plu.Ok) (items : List Item)
    (hitems : ∀ i ∈ items, (s.plu.find i.plu).isSome = true) :
    (items.foldl State.accumulateItem s).GoodsAt (addValue m (items.map (·.price)).sum) := by
  induction items generalizing s m with
  | nil =>
    have hm : addValue m 0 = m := by
      obtain ⟨hm, -⟩ := h
      rw [hm, addValue, Nat.add_zero, Nat.mod_mod]
    rw [List.map_nil, List.sum_nil, hm]
    exact h
  | cons i items ih =>
    have hadd : addValue m ((i :: items).map (·.price)).sum = addValue (addValue m i.price) (items.map (·.price)).sum := by
      rw [List.map_cons, List.sum_cons, addValue, addValue, addValue, Nat.mod_add_mod, Nat.add_assoc]
    rw [hadd]
    refine ih (h.accumulateItem hplu (hitems i (List.mem_cons_self ..))) (accumulateItem_pluOk hplu i) fun j hj => ?_
    rw [accumulateItem_find hplu, Option.isSome_map]
    exact hitems j (List.mem_cons_of_mem _ hj)

end State.GoodsAt

namespace State.GoodsLedgerOk

theorem ite {s t : State} {c : Prop} [Decidable c] (h : s.GoodsLedgerOk) (k : t.GoodsLedgerOk) :
    (if c then s else t).GoodsLedgerOk := by
  split
  · exact h
  · exact k

theorem of_changesOnly {bs : List Part} {s t : State} (h : s.GoodsLedgerOk) (hc : ChangesOnly bs s t)
    (hb : Part.totals ∉ bs ∧ Part.plu ∉ bs) : t.GoodsLedgerOk := by
  have htotals : { t.totals with openOrders := s.totals.openOrders } = s.totals := hc .totals hb.1
  have hplu : t.plu = s.plu := hc .plu hb.2
  unfold State.GoodsLedgerOk at *
  rw [← htotals] at h
  rw [hplu]
  exact h

/-- Every period record zero, and no value in the table. -/
theorem of_zero {s : State} (hcounter : s.totals.counter.value = 0)
    (hdepartments : s.totals.departments = Table.fill 16 zeroDeptTotals) (hplu : s.plu.Ok)
    (hvalue : ∀ p, s.plu.valueAt p = 0) : s.GoodsLedgerOk := by
  have hsum : sumOf s.totals.departments (·.value) = 0 := by
    rw [hdepartments]
    exact sumOf_fill_zero (·.value) (x := zeroDeptTotals) rfl
  unfold State.GoodsLedgerOk
  rw [hcounter, hsum, hplu.sum_records, Finset.sum_eq_zero fun p _ => hvalue p]
  exact ⟨rfl, rfl⟩

variable {s : State} (h : s.GoodsLedgerOk)
include h

/-- A table with the same values. -/
theorem withPlu {t : State} (htotals : t.totals = s.totals) (hvalues : s.plu.SameValues t.plu) (hs : s.plu.Ok)
    (ht : t.plu.Ok) : t.GoodsLedgerOk := by
  unfold State.GoodsLedgerOk
  rw [htotals, hvalues.sum_records hs ht]
  exact h

theorem accumulate (hplu : s.plu.Ok) (c : ClerkNo) (n : StationNo) {o : Order}
    (hitems : ∀ i ∈ o.items, (s.plu.find i.plu).isSome = true) : (s.accumulate c n o).GoodsLedgerOk := by
  have hadded := State.GoodsAt.foldl_accumulateItem h hplu (o.inState .confirmed)
    fun i hi => hitems i (List.mem_filter.mp hi).1
  obtain ⟨u, ds, hframe⟩ := foldl_accumulateItem_frame (o.inState .confirmed) s
  unfold State.accumulate
  rw [hframe] at hadded ⊢
  exact hadded

theorem closePrinted (hplu : s.plu.Ok) (hsold : s.ItemsSold) (c : ClerkNo) (n : StationNo) :
    (s.closePrinted c n).GoodsLedgerOk := by
  unfold State.closePrinted
  split
  · exact h
  · next o ho =>
    exact ((h.accumulate hplu c n fun i hi => hsold.named c o ho i hi).of_changesOnly (setOrder_changesOnly _ c none)
      (by simp)).of_changesOnly (reportClosing_changesOnly _) (by simp)

theorem printDone (htable : s.TableOk) (hsold : s.ItemsSold) (n : StationNo) (k : Nat) :
    (s.printDone n k).GoodsLedgerOk := by
  unfold State.printDone
  split
  · next r _ =>
    have hfree := h.of_changesOnly (freeSlot_changesOnly s n) (by simp)
    have hkept : (((s.freeSlot n).setPrinter n { (s.freeSlot n).printer n with last := some r }).countLabel n).GoodsLedgerOk :=
      hfree
    have hkeptSold : (((s.freeSlot n).setPrinter n { (s.freeSlot n).printer n with last := some r }).countLabel n).ItemsSold :=
      hsold
    unfold State.finishLabel
    dsimp only
    split
    · exact hkept.of_changesOnly (confirmItem_changesOnly _ _ _) (by simp)
    · exact hkept.closePrinted htable.1 hkeptSold _ n
    · exact hfree
  · exact h

theorem activate (htable : s.TableOk) : s.activate.GoodsLedgerOk := by
  have htotals : s.activate.totals = s.totals := by
    have hopen : s.activate.totals.openOrders = s.totals.openOrders := activate_changesOnly s .openOrders (by simp)
    have hrest : { s.activate.totals with openOrders := s.totals.openOrders } = s.totals :=
      activate_changesOnly s .totals (by simp)
    rw [← hopen] at hrest
    exact hrest
  exact h.withPlu htotals (activate_kept htable).values htable.1 htable.activate.1

theorem pluWriteRequest (hplu : s.plu.Ok) (p : List Byte) : (pluWriteRequest p s).1.GoodsLedgerOk := by
  unfold Machine.pluWriteRequest
  split
  · exact h
  · split
    · exact h
    · next f hf =>
      split
      · exact h
      · next t ht =>
        split
        · exact h
        · have hvalid := pluFieldsAt_valid hf
          refine h.withPlu (t := State.stepGeneration { s with plu := t }) rfl
            (hplu.sameValues_place (r := writtenRecord f _ _) hvalid ht ?_) hplu
            (hplu.place (r := writtenRecord f _ _) hvalid ht)
          change ((s.plu.find f.number).map (·.totals) |>.getD zeroPluTotals).value = s.plu.valueAt f.number
          unfold PluTable.valueAt
          cases s.plu.find f.number <;> rfl

theorem pluRemoveRequest (hplu : s.plu.Ok) (p : List Byte) : (pluRemoveRequest p s).1.GoodsLedgerOk := by
  unfold Machine.pluRemoveRequest
  dsimp only
  split
  · exact h
  · split
    · exact h
    · split
      · exact h
      · next r hr =>
        split
        · exact h
        · refine h.withPlu (t := (s.removalStep r (s.generation + 1)).stepGeneration) rfl
            (removalStep_sameValues hplu _ fun x hx => ?_) hplu (removalStep_pluOk hplu r _)
          rw [(hplu.valid_of_find hr).1, hr] at hx
          cases hx
          rfl

theorem pluWipeRequest (hplu : s.plu.Ok) (p : List Byte) : (pluWipeRequest p s).1.GoodsLedgerOk := by
  have hwipe := ChangesOnly.foldl wipeStep_changesOnly s.plu.records s
  have hwiped : (s.plu.records.foldl State.wipeStep s).GoodsLedgerOk := by
    refine h.withPlu ?_ (foldl_wipeStep_sameValues hplu s.plu.records fun r hr x hx => ?_) hplu
      (foldl_wipeStep_pluOk hplu s.plu.records)
    · have hopen : (s.plu.records.foldl State.wipeStep s).totals.openOrders = s.totals.openOrders :=
        hwipe .openOrders (by simp)
      have hrest : { (s.plu.records.foldl State.wipeStep s).totals with openOrders := s.totals.openOrders } = s.totals :=
        hwipe .totals (by simp)
      rw [← hopen] at hrest
      exact hrest
    · rw [hplu.find_eq_some.mpr ⟨hr, rfl⟩] at hx
      cases hx
      rfl
  unfold Machine.pluWipeRequest
  dsimp only
  split
  · exact h
  · split
    · exact h
    · exact ite hwiped hwiped

omit h in
theorem zClose (hplu : s.plu.Ok) : s.zClose.GoodsLedgerOk :=
  of_zero rfl rfl hplu.zClosed fun p => hplu.zClosed_valueAt p

theorem powerOn (htable : s.TableOk) : s.powerOn.GoodsLedgerOk := by
  have hmarker : s.checkMarker.plu.Ok ∧ s.checkMarker.GoodsLedgerOk := by
    unfold State.checkMarker
    split
    · exact ⟨htable.1, h⟩
    · have hempty : (s.format).plu.Ok := ⟨.nil, .nil, by simp [State.format, emptyTable], by simp [State.format, emptyTable]⟩
      exact ⟨hempty, of_zero rfl rfl hempty fun _ => rfl⟩
  have hinit : s.checkMarker.initVolatile.GoodsLedgerOk := by
    obtain ⟨hplu, hledger⟩ := hmarker
    exact hledger.withPlu rfl (PluTable.sameValues_mapRecords _ fun _ => rfl) hplu (hplu.mapRecords fun _ => rfl)
  have hcounted (t : State) (ht : t.GoodsLedgerOk) : t.countLost.GoodsLedgerOk := ite ht ht
  exact (((hcounted _ hinit).of_changesOnly (dayCheck_changesOnly _) (by simp)).of_changesOnly
    (enterState_changesOnly _ _) (by simp)).of_changesOnly (changesOnly_beat _ _) (by simp)

end State.GoodsLedgerOk

end Sys2Proof.Machine

end

section
/-! Every step keeps the totals over departments and PLU records equal to the counter's (02, 07). -/

open Sys2Proof Sys2Proof.Machine

namespace Sys2Proof.Machine

namespace State.ItemsSold

variable {s : State} (h : s.ItemsSold)
include h

/-- What a request changes of the orders alone, the table and the counter's state as they were. -/
theorem of_request {i : Instr} (p : List Byte) (hparts : Part.plu ∉ requestParts i ∧ Part.mode ∉ requestParts i)
    (hi : ∀ n, i ≠ .label n ∧ i ≠ .addItem n) : (requestAct i p s).1.ItemsSold :=
  h.of_changesOnly (requestAct_changesOnly i p s) hparts (.request s i p hi)

theorem openCounterRequest (p : List Byte) : (openCounterRequest p s).1.ItemsSold := by
  unfold Machine.openCounterRequest
  split
  · exact h.enterState (by simp)
  all_goals exact h

theorem closeCounterRequest (p : List Byte) : (closeCounterRequest p s).1.ItemsSold := by
  unfold Machine.closeCounterRequest
  split
  · exact h
  · change s.closeCounter.ItemsSold
    unfold State.closeCounter
    split
    · split
      · next hnone => exact h.enterState fun _ => .inr hnone
      · exact h.enterState (by simp)
    all_goals exact h

theorem holdReleased : s.holdReleased.ItemsSold := by
  have hline : State.ItemsSold { s with loadHold := false } := h
  unfold State.holdReleased State.closeFromLoading
  split
  · exact hline
  · split
    · next hloading =>
      refine hline.enterState fun _ => .inl ?_
      have hl : s.counter.state = .loading := hloading
      change (s.counter.state == .opened || s.counter.state == .draining) = false
      rw [hl]
      rfl
    · exact hline

/-- The table's requests are refused while trading. -/
theorem pluRequest {i : Instr} (hi : i = .pluWrite ∨ i = .pluRemove ∨ i = .pluWipe) (p : List Byte) :
    (requestAct i p s).1.ItemsSold := by
  cases ht : s.trading with
  | true =>
    rcases hi with rfl | rfl | rfl
    · change (pluWriteRequest p s).1.ItemsSold
      rw [pluWriteRequest, if_pos ht]
      exact h
    · change (pluRemoveRequest p s).1.ItemsSold
      rw [pluRemoveRequest, if_pos ht]
      exact h
    · change (pluWipeRequest p s).1.ItemsSold
      rw [pluWipeRequest, if_pos ht]
      exact h
  | false =>
    refine h.of_idle ht (requestAct_changesOnly i p s) ?_
    rcases hi with rfl | rfl | rfl <;> simp [requestParts]

theorem zCloseRequest (p : List Byte) : (zCloseRequest p s).1.ItemsSold := by
  unfold Machine.zCloseRequest
  split
  · exact h
  · next htests =>
    have hclosed : s.counter.state = .closed := by
      simpa using firstOf_eq_none.mp htests (s.counter.state != .closed, .refusedState) (by simp)
    refine h.of_idle ?_ (zClose_changesOnly s) (by simp)
    rw [State.trading, hclosed]
    rfl

end State.ItemsSold

namespace State.GoodsLedgerOk

variable {s : State} (h : s.GoodsLedgerOk)
include h

theorem callNextRequest (n : StationNo) (p : List Byte) : (callNextRequest n p s).1.GoodsLedgerOk := by
  unfold Machine.callNextRequest
  split
  · exact h
  · exact h
  · next c _ _ =>
    have hreleased := h.of_changesOnly (releaseServing_changesOnly s c) (by simp)
    dsimp only
    split
    · exact hreleased
    · next t rest _ =>
      have hcounted (u : State) (hu : u.GoodsLedgerOk) (w : Nat) : (u.countCall w).GoodsLedgerOk := hu
      have hserving : State.GoodsLedgerOk ((({ s.releaseServing c with queue := { (s.releaseServing c).queue with
          waiting := rest } } : State).setServing c (some ⟨t.number, t.issued, (s.releaseServing c).clock, false⟩))) :=
        hreleased
      exact (hcounted _ hserving _).of_changesOnly (display_changesOnly _ _ _ _) (by simp)

theorem closeOrderRequest (n : StationNo) (p : List Byte) : (closeOrderRequest n p s).1.GoodsLedgerOk := by
  have hempty (c : ClerkNo) : (s.closeEmpty c).GoodsLedgerOk :=
    of_changesOnly (of_changesOnly (s := s.countEmpty) h (setOrder_changesOnly _ c none) (by simp))
      (reportClosing_changesOnly _) (by simp)
  have hbegun (c : ClerkNo) (o : Order) : (s.beginClose c n o).GoodsLedgerOk :=
    (h.of_changesOnly (compose_changesOnly s n _) (by simp)).of_changesOnly (onOrder_changesOnly _ c _) (by simp)
  dsimp only [Machine.closeOrderRequest]
  split
  · exact h
  · exact h
  · split
    · exact h
    · split
      · exact h
      · split
        · exact hempty _
        · exact hbegun _ _

theorem zCloseRequest (hplu : s.plu.Ok) (p : List Byte) : (zCloseRequest p s).1.GoodsLedgerOk := by
  unfold Machine.zCloseRequest
  split
  · exact h
  · exact zClose hplu

end State.GoodsLedgerOk

/-- The laws of the table and the batch, of the items sold and of the goods' totals. -/
structure State.GoodsOk (s : State) : Prop where
  table : s.TableOk
  sold : s.ItemsSold
  ledger : s.GoodsLedgerOk

namespace State.GoodsOk

theorem ite {s t : State} {c : Prop} [Decidable c] (h : s.GoodsOk) (k : t.GoodsOk) : (if c then s else t).GoodsOk := by
  split
  · exact h
  · exact k

theorem of_changesOnly {bs : List Part} {s t : State} (h : s.GoodsOk) (hc : ChangesOnly bs s t)
    (hb : Part.plu ∉ bs ∧ Part.pricing ∉ bs ∧ Part.mode ∉ bs ∧ Part.orders ∉ bs ∧ Part.totals ∉ bs) : t.GoodsOk := by
  obtain ⟨hplu, hpricing, hmode, horders, htotals⟩ := hb
  exact ⟨h.table.of_changesOnly hc ⟨hplu, hpricing⟩, h.sold.same hc ⟨hplu, hmode, horders⟩,
    h.ledger.of_changesOnly hc ⟨htotals, hplu⟩⟩

variable {s : State} (h : s.GoodsOk)
include h

/-! ## The batch and the clock -/

theorem activate : s.activate.GoodsOk where
  table := h.table.activate
  sold := h.sold.kept (activate_kept h.table) (activate_changesOnly s .mode (by simp))
  ledger := h.ledger.activate h.table

theorem activateIfDue : s.activateIfDue.GoodsOk := ite h.activate h

theorem stepTime (t : DateTime) : (s.stepTime t).GoodsOk := by
  have hclock := h.of_changesOnly (setClock_changesOnly s t) (by simp)
  exact ((ite (hclock.of_changesOnly (raise_changesOnly _ _ _) (by simp)) hclock).of_changesOnly
    (dayCheck_changesOnly _) (by simp)).activateIfDue

theorem secondPassed : s.secondPassed.GoodsOk := by
  have hclock := h.of_changesOnly (setClock_changesOnly s s.clock.tick) (by simp)
  exact ite hclock (hclock.of_changesOnly (dayCheck_changesOnly _) (by simp)).activateIfDue

theorem timeSetRequest (p : List Byte) : (timeSetRequest p s).1.GoodsOk := by
  unfold Machine.timeSetRequest
  split
  · exact h
  · split
    · exact h
    · exact h.stepTime _

theorem batchCommitRequest (p : List Byte) : (batchCommitRequest p s).1.GoodsOk := by
  unfold Machine.batchCommitRequest
  dsimp only
  split
  · exact h
  · next htests =>
    have harmed (t : DateTime) : (s.onPricing fun u => { u with batch := .armed, instant := some t }).GoodsOk :=
      ⟨h.table.armed htests t, h.sold.same (onPricing_changesOnly s _) (by simp), h.ledger⟩
    exact ite (harmed _).activate (harmed _)

/-! ## Requests and causes -/

/-- Every request's act keeps the laws of the goods. -/
theorem request (i : Instr) (p : List Byte) : (requestAct i p s).1.GoodsOk := by
  have hsame (hparts : Part.totals ∉ requestParts i ∧ Part.plu ∉ requestParts i) := h.ledger.of_changesOnly
    (requestAct_changesOnly i p s) hparts
  have htable := h.table.request i p
  cases i with
  | timeSet => exact h.timeSetRequest p
  | batchCommit => exact h.batchCommitRequest p
  | label n => exact ⟨htable, h.sold.saleRequest h.table true n p, hsame (by simp [requestParts])⟩
  | addItem n => exact ⟨htable, h.sold.saleRequest h.table false n p, hsame (by simp [requestParts])⟩
  | closeOrder n => exact ⟨htable, h.sold.closeOrderRequest n p, h.ledger.closeOrderRequest n p⟩
  | callNext n => exact ⟨htable, h.sold.of_request p (by simp [requestParts]) (by simp), h.ledger.callNextRequest n p⟩
  | openCounter => exact ⟨htable, h.sold.openCounterRequest p, hsame (by simp [requestParts])⟩
  | closeCounter => exact ⟨htable, h.sold.closeCounterRequest p, hsame (by simp [requestParts])⟩
  | pluWrite => exact ⟨htable, h.sold.pluRequest (.inl rfl) p, h.ledger.pluWriteRequest h.table.1 p⟩
  | pluRemove => exact ⟨htable, h.sold.pluRequest (.inr (.inl rfl)) p, h.ledger.pluRemoveRequest h.table.1 p⟩
  | pluWipe => exact ⟨htable, h.sold.pluRequest (.inr (.inr rfl)) p, h.ledger.pluWipeRequest h.table.1 p⟩
  | zClose => exact ⟨htable, h.sold.zCloseRequest p, h.ledger.zCloseRequest h.table.1 p⟩
  | reportRelease => exact ⟨htable, h.sold.of_request p (by simp [requestParts]) (by simp), h.ledger⟩
  | _ => exact ⟨htable, h.sold.of_request p (by simp [requestParts]) (by simp), hsame (by simp [requestParts])⟩

/-- Every cause keeps the laws of the goods. -/
theorem cause (c : Cause) : (c.run s).GoodsOk := by
  have htable := h.table.cause c
  cases c with
  | printDone n k => exact ⟨htable, h.sold.printDone h.table n k, h.ledger.printDone h.table h.sold n k⟩
  | tick => exact h.secondPassed
  | activation => exact h.activateIfDue
  | request i payload => exact h.request i payload
  | resetRelease =>
    exact ⟨htable, State.ItemsSold.ite (.of_no_order (ItemsFrom.powerOn_order _)) h.sold,
      State.GoodsLedgerOk.ite (State.GoodsLedgerOk.powerOn (s := { s with resetLow := false }) h.ledger h.table) h.ledger⟩
  | holdRelease =>
    exact ⟨htable, h.sold.holdReleased, h.ledger.of_changesOnly (Cause.run_changesOnly .holdRelease s) (by simp [Cause.parts])⟩
  | _ =>
    exact ⟨htable, h.sold.of_changesOnly (Cause.run_changesOnly _ s) (by simp [Cause.parts]) (.cause s _ (by simp)),
      h.ledger.of_changesOnly (Cause.run_changesOnly _ s) (by simp [Cause.parts])⟩

end State.GoodsOk

end Sys2Proof.Machine

/-- Settles O59: a closed order's items move the sums over departments and PLU records on by what its value moves the
counter's, as each names a record in the table; a record goes only when its totals are zero and no open order names it. -/
theorem goodsLedgerBalances : Obligations.GoodsLedgerBalances := by
  intro s t hord hplu hbatch _ hnamed hledger hstep
  have hidle : s.trading = false → ∀ c, s.order c = none := fun ht c => hord.order_none ht c
  have h := step_keeps_of_causes (P := State.GoodsOk) (fun _ _ hc h => h.of_changesOnly hc (by simp))
    (fun c _ h => h.cause c) hstep ⟨⟨hplu, hbatch⟩, .of_named hnamed hidle, hledger⟩
  exact ⟨h.sold.named, h.ledger⟩

end
